-- ==== Sys2Proof/Word.lean ====
section
/-! DEFINITION. The words and bytes of the manual (spec/03, R84 to R86): 64-bit dictionary slots and bytes. -/

namespace Sys2Proof

/-- One 8-byte slot of the dictionary (R84). -/
abbrev Word64 := BitVec 64

/-- A 32-bit word: legacy registers (R96), announcement words (R57), telemetry frames (R68). -/
abbrev Word32 := BitVec 32

/-- One byte of a message, a record or a BLOB. -/
abbrev Byte := BitVec 8

end Sys2Proof
end

