-- ==== Sys2Proof/Syntax.lean ====
section
/-! DEFINITION. The commands of the block (spec/opcode_table.json), one constructor per row, with the operands each carries: instance numbers, written values, and the readings and frames its ports bring in. -/

namespace Sys2Proof

/-- The transports of the dictionary (R89: 0 HTP, 1 I3C, 2 SMBus, 3 mailbox). -/
inductive Xport where
  | htp | i3c | smbus | mailbox
  deriving DecidableEq, Repr

/-- JTAG instructions (R76): BYPASS, IDCODE, and the others by number. -/
inductive JtagIr where
  | bypass | idcode | other (n : Byte)
  deriving DecidableEq, Repr

/-- One MCTP packet as a transport delivers it (R56, R74, R99): message fields of the MCTP header, payload, whether the
SMBus PEC is good, whether the mailbox message had EOM. -/
structure Packet where
  src : Byte
  dst : Byte
  som : Bool
  eom : Bool
  seq : BitVec 2
  tagOwner : Bool
  tag : BitVec 3
  payload : List Byte
  pecGood : Bool
  mbxEom : Bool
  deriving DecidableEq, Repr

/-- A dictionary message after its MCTP message type byte (R100), with its requester's EID and message tag. -/
structure DictMsg where
  src : Byte
  tag : BitVec 3
  pen : Word32
  ver : Byte
  count : Byte
  idx : BitVec 16
  sub : Byte
  body : List Byte
  deriving DecidableEq, Repr

/-- Output edges of domains and the sums of ACT over them of queues and partitions (R337). -/
structure EdgeCounts where
  edges : List (Fin 64 × BitVec 16)
  actQ : List (Fin 512 × BitVec 16)
  actPt : List (Fin 128 × BitVec 16)
  deriving DecidableEq, Repr

/-- What a loop sample edge takes in (R117, R126, R220, R228): VS and VIN_SENSE at 15.625 µV, the converter samples of
the rail's type A phases in ascending order (10 mA), the level A blocking, the words the coefficient fetch corrected and an
uncorrectable one it met; and since the previous sample edge, for the rail's domains, queues and partitions, the output
edges and the sums of ACT over them (R337), a queue's sum from after its last CMD_START edge where that is later; `pre`: those of them
before a reconciliation instant since the previous sample edge (R339). -/
structure LoopIn where
  vs : BitVec 18
  vinSense : BitVec 18
  iphA : List (BitVec 14)
  ce : Fin 16
  ue : Option (Fin 15)
  edges : List (Fin 64 × BitVec 16)
  actQ : List (Fin 512 × BitVec 16)
  actPt : List (Fin 128 × BitVec 16)
  pre : Option EdgeCounts := none
  deriving DecidableEq, Repr

/-- A conversion of the housekeeping converter (R274): its code, the voltage it stands for in µV before the calibration of R276 (of a diode
ΔVBE), and of a diode its VBE at 10 µA and its bias compliance (R275), in µV. -/
structure HkIn where
  raw : BitVec 16
  uv : BitVec 22
  vbe : BitVec 22
  bias : BitVec 22
  deriving DecidableEq, Repr

/-- One bad word found by the coefficient scrub (R228): rail, coefficient place 15r + 5(s − 1) + j, uncorrectable or not. -/
structure ScrubErr where
  rail : Fin 8
  coef : Fin 60
  ue : Bool
  deriving DecidableEq, Repr

/-- An acknowledged PMBus poll of the bus converter (R147), converted to the units of R9. -/
structure IbcPoll where
  vin : Word32
  iin : Word32
  status : BitVec 16
  deriving DecidableEq, Repr

/-- What S2 reads (R298, R383, R390, R454). Of a boot directory that Zilari has not written: ROOT_MODE and RING where its copy is
valid; the states of the slots (R402), MIN_SVN, the streams, the current settings region and the regions' formats. Of every one: whether the
shutdown-test store is valid, the first 256 bytes of each slot, the chunks whose read-back is good, and a mask of the copies whose CRC is
bad. -/
structure BootDir where
  root : Option (Bool × Bool)
  slotA : Fin 7
  slotB : Fin 7
  minSvn : Word32
  sdValid : Bool
  hdrA : List Byte
  hdrB : List Byte
  heldA : Nat
  heldB : Nat
  streamA : BitVec 16
  streamB : BitVec 16
  region : Fin 2 := 0
  fmt0 : BitVec 16 := 0
  fmt1 : BitVec 16 := 0
  bad : BitVec 2 := 0
  deriving DecidableEq, Repr

/-- What S8 reads (R393, R443): of a settings region that Zilari has not written, the records that count, by TYPE (1 values, 3 erasures, 2
profiles); of every one the sectors found bad; the slowdowns of the ageing monitors in ppm, for a derate that has fallen due (R248). -/
structure StoreRead where
  vals : List (BitVec 24 × Word64)
  gone : List (BitVec 24) := []
  blobs : List (BitVec 16 × List Byte) := []
  bad : List (BitVec 9) := []
  slow : List (BitVec 32) := []
  deriving DecidableEq, Repr

/-- How the programs of a save end (R393, R396): saved, a program or an erase that fails. -/
inductive SaveOut where
  | saved | program | erase
  deriving DecidableEq, Repr

/-- What a boot check reads from its slot (R377, R378): the header and the processor's section. -/
structure BootRead where
  header : List Byte
  sect : List Byte
  deriving DecidableEq, Repr

/-- A place of the journal that does not read all 0xFF in both copies (R415, R419): a slot of a sector, or its header; its 64 bytes in copy 0
and in copy 1. -/
structure ChestRead where
  sector : BitVec 12
  slot : Option (Fin 63)
  copy0 : List Byte
  copy1 : List Byte
  deriving DecidableEq, Repr

/-- What the Chest scan reads (R419, R429): the places of the journal that are not erased; the dump areas (state, ID, whether a dump has
uncommitted sectors, bytes committed); the NOR addresses at which a read failed. -/
structure ChestScan where
  reads : List ChestRead
  area0 : Fin 5
  area1 : Fin 5
  id0 : Word32
  id1 : Word32
  partial0 : Bool
  partial1 : Bool
  bytes0 : Word32
  bytes1 : Word32
  bad : List Word32 := []
  deriving DecidableEq, Repr

/-- A read of the NOR for a window or a BLOCK_READ (R420): its bytes, and the address at which it failed. -/
structure NorRead where
  bytes : List Byte
  bad : Option Word32 := none
  deriving DecidableEq, Repr

/-- What the first part of the Chest scan finds of the previous run (R448), with the entries of 1102 (R41). -/
structure LastRun where
  runBeginNewer : Bool
  lastBeat : Word64
  lost : List Word64
  deriving DecidableEq, Repr

/-- What a DCU samples as its stop stamp (R425, R433) beside what it has counted: the output edges since the last sample edge before the cut,
up to the last one; the time of that edge from S by the DCU's copy of beat time, in 1/1000 HCLK, signed; the hold; whether it was
stretched. -/
structure StopStamp where
  cd : Fin 64
  since : Word32
  off : Word64
  hold : BitVec 2
  stretched : Bool
  deriving DecidableEq, Repr

/-- A rail and the voltage at its feedback, in 1/64 mV (R116, R118). -/
structure FbIn where
  rail : Fin 8
  vs : BitVec 18
  deriving DecidableEq, Repr

/-- A phase and the current at its IMON input, in the unit of IPH (R127). -/
structure ImonIn where
  phase : Fin 96
  imon : BitVec 14
  deriving DecidableEq, Repr

/-- A Snare input that trips, and the time from now to the domain's next nominal output edge, in 1/1000 HCLK (R152, R155). -/
structure SagIn where
  inp : Fin 8
  toEdge : BitVec 16
  deriving DecidableEq, Repr

/-- The domain edge of a CMD_START, counted from the sampling edge of its queue's pending announcement; `inFlight`, where it is not 0, from
that of an announcement of the queue that has not been received yet (R162). -/
structure StartEdge where
  edge : BitVec 16
  inFlight : Byte
  deriving DecidableEq, Repr

/-- The commands and events of the block, one constructor per row of the operations table. -/
inductive Instr where
  /-- POWER_ON_RESET (R46). POR_N is held low and resets all of Zilari. -/
  | powerOnReset
  /-- POR_RELEASE (R443). POR_N rises: the straps are sampled and the hub runs on STO until it leaves reset (step S0). -/
  | porRelease (oscSettle smbAddr : BitVec 3)
  /-- HUB_RESET_EXIT (R443). The hub leaves reset and beat time starts counting from 0 (step S1). -/
  | hubResetExit
  /-- XSPI_RESET_RELEASE (R443). 10 µs after the hub leaves reset, XSPI_RST_N is released. -/
  | xspiResetRelease
  /-- BOOT_DIRECTORY_READ (R298). 1 ms after the flash reset release, the boot directory is read and ROOT_MODE and RING are taken; the Chest scan and native test part 1 begin (step S2). -/
  | bootDirectoryRead (d : BootDir)
  /-- SELFTEST_PART1_DONE (R449). Native test part 1 (CONV, DIODE) completes; on a pass the housekeeping sequencer starts and Gong is armed (step S4). -/
  | selftestPart1Done (conv diode : List Word32)
  /-- OSC_SETTLE_ELAPSED (R183). The OSC_SETTLE time elapses and an XCLK edge count over 4,096 HCLK begins. -/
  | oscSettleElapsed
  /-- XCLK_COUNT_DONE (R183). The XCLK edge count completes: the PLL moves to XCLK and the DCUs leave reset gated, or the count is retried, or after the eighth failure the start stays on STO. -/
  | xclkCountDone (count : BitVec 16)
  /-- SELFTEST_PART2_DONE (R451). Native test part 2 completes; ST_SIG is compared with ST_EXPECT and the processors are booted, or the start is held. -/
  | selftestPart2Done (dco stretch snare modSense : List Word32) (run : LastRun)
  /-- START_SETTINGS_APPLY (R443). Once the Custodian, Steward and Budget are in RUN, the settings store is applied and FMAX_EFF is rewritten (step S8). -/
  | startSettingsApply (r : StoreRead)
  /-- IBC_START (R443). Once S8 is done and no NVM inhibit stands, OPERATION 0x80 is written to the bus converter (step S9). -/
  | ibcStart (ack : Bool)
  /-- IBC_READY (R443). VBUS has stood at or above BUS_UV for 1 ms, and the rail starts of S10 begin. -/
  | ibcReady
  /-- IBC_WAIT_TIMEOUT (R444). S9 is not complete within IBC_WAIT, and the start enters HELD with cause IBC. -/
  | ibcWaitTimeout
  /-- START_NEXT_RAIL (R443). The previous rail is in REGULATE or SHED and START_GAP has elapsed, so the next rail of START_ORDER takes RAIL_CTRL ON. -/
  | startNextRail
  /-- START_RELEASE (R445). With the Chest scan done and RELEASE_DELAY elapsed under START_AUTO 1, CD_RST_N rises and START_DONE is recorded. -/
  | startRelease
  /-- START_CTRL_RELEASE (R445). A START_CTRL RELEASE command in READY raises CD_RST_N. -/
  | startCtrlRelease
  /-- START_CTRL_RETRY (R444). A START_CTRL RETRY command in HELD repeats the failed start step. -/
  | startCtrlRetry
  /-- BROWNOUT_TIMEOUT (R446). The start pauses add up to more than BROWNOUT_LIMIT, and the start fails with cause BROWNOUT. -/
  | brownoutTimeout
  /-- ST_RETRY (R453). A command reruns the failed native-test blocks in full form. -/
  | stRetry
  /-- SD_CTRL_RUN (R454). A command starts the Preus 2 shutdown-time test with every rail OFF. -/
  | sdCtrlRun
  /-- SD_TEST_DONE (R454). The shutdown-time test completes; on a pass the trims and signature are written to the signature store, and SD_RESULT is recorded. -/
  | sdTestDone (checks : List (List Word32))
  /-- AE_CTRL_RUN (R465). An analogue-engine command runs the checks of a block in full form. -/
  | aeCtrlRun (v : Word32)
  /-- AE_RUN_DONE (R465). An analogue-engine run completes and its results go to B020+b. -/
  | aeRunDone (checks : List Word32)
  /-- LC_REQUEST (R456). A life-cycle transition request is checked for permission and authentication, and is accepted or refused. -/
  | lcRequest (v : Byte)
  /-- LC_FUSE_BLOW (R456). A transition fuse is programmed once no NVM inhibit stands. -/
  | lcFuseBlow (good : Bool)
  /-- VAON_RESET (R447). VAON falls below 0.60 V and Zilari resets, restarting from S0 after VAON recovers. -/
  | vaonReset
  /-- NVM_INHIBIT_BEGIN (R421). VAON or VIN_SENSE crosses its falling threshold, and NVM programs and erases are inhibited. -/
  | nvmInhibitBegin
  /-- NVM_INHIBIT_END (R422). The supplies have stood above their rising thresholds for 2 ms; the inhibit ends and NVM_DIP is recorded. -/
  | nvmInhibitEnd (minVaon : BitVec 16) (minVin : Word32)
  /-- SOFT_RESET (R47). SOFT_RST resets the host-facing side, empties ring H and removes pending host scheduled actions. -/
  | softReset
  /-- DICT_WRITE (R89). A write reaches a dictionary sub that has no row of its own, with its range, access and clamp or reject checks. -/
  | dictWrite (addr : BitVec 40) (data : Word64) (strb : BitVec 8) (tag : BitVec 4)
  /-- LEGACY_WRITE (R97). A 32-bit write reaches one half of a dictionary sub through the Preus 2 legacy map. -/
  | legacyWrite (addr : BitVec 40) (data : Word64) (strb : BitVec 8) (tag : BitVec 4)
  /-- READ_CLEAR (R90). A read of an RC sub returns its value and clears it to 0 in the same HCLK. -/
  | readClear (addr : BitVec 40) (tag : BitVec 4)
  /-- BLOB_CURSOR_WRITE (R93). A write of CURSOR moves the window of a BLOB for the writing transport, starting a NOR fetch where the object is held in the NOR. -/
  | blobCursorWrite (x : Xport) (idx : BitVec 16) (v : Word32)
  /-- BLOB_WINDOW_WRITE (R95). A write to the window of a writable BLOB goes to the transport's staging copy. -/
  | blobWindowWrite (x : Xport) (idx : BitVec 16) (sub : Byte) (v : Word64)
  /-- BLOB_COMMIT (R93). A COMMIT whose value equals GEN applies the staged BLOB content in one HCLK; otherwise the staged content is discarded. -/
  | blobCommit (x : Xport) (idx : BitVec 16) (v : Word32)
  /-- IRQ_CLEAR (R111). A write to IRQ_CLEAR clears the latched interrupt cause bits. -/
  | irqClear (v : BitVec 16)
  /-- IRQ_FORCE (R111). A write to IRQ_FORCE sets interrupt cause bits for driver test. -/
  | irqForce (v : BitVec 16)
  /-- NOTIFY_SEND (R105). Within 1 ms of an alarm latch, Zilari sends an unsolicited NOTIFY to NOTIFY_EID. -/
  | notifySend
  /-- SUBMIT_A (R107). A write to SUBMIT_A stages word A of an actuator descriptor. -/
  | submitA (v : Word64)
  /-- SUBMIT_B (R107). A write to SUBMIT_B submits a host actuator transaction, which is checked for discard and passed to the scheduler or the resolver. -/
  | submitB (v : Word64)
  /-- CQ_POP (R109). A read of CQ_POP returns the oldest completion record of the ring, removes it and frees its tag. -/
  | cqPop (ring : Fin 2) (tag : BitVec 4)
  /-- MCTP_PACKET_RECEIVE (R99). An MCTP packet arrives over I3C, SMBus or the mailbox and is reassembled into a message, or discarded. -/
  | mctpPacketReceive (x : Xport) (pk : Packet)
  /-- MCTP_READ (R100). An MCTP READ request returns COUNT slots of an index. -/
  | mctpRead (x : Xport) (m : DictMsg)
  /-- MCTP_WRITE (R102). An MCTP WRITE request writes its subs atomically within one index. -/
  | mctpWrite (x : Xport) (m : DictMsg)
  /-- MCTP_BLOCK_READ (R100). An MCTP BLOCK_READ request returns bytes of a BLOB. -/
  | mctpBlockRead (x : Xport) (m : DictMsg)
  /-- MCTP_BLOCK_WRITE (R100). An MCTP BLOCK_WRITE request stages bytes of a BLOB. -/
  | mctpBlockWrite (x : Xport) (m : DictMsg)
  /-- MCTP_ACT_SUBMIT (R107). An MCTP ACT_SUBMIT request submits an actuator transaction whose completion goes to ring M. -/
  | mctpActSubmit (x : Xport) (m : DictMsg)
  /-- MCTP_CQ_POP (R100). An MCTP CQ_POP request returns and removes up to COUNT records of ring M. -/
  | mctpCqPop (x : Xport) (m : DictMsg)
  /-- SET_ENDPOINT_ID (R99). The MCTP control message Set Endpoint ID sets MCTP_EID. -/
  | setEndpointId (x : Xport) (src : Byte) (tag : BitVec 3) (eid : Byte)
  /-- GET_ENDPOINT_ID (R99). The MCTP control message Get Endpoint ID is answered. -/
  | getEndpointId (x : Xport) (src : Byte) (tag : BitVec 3)
  /-- GET_MCTP_VERSION_SUPPORT (R99). The MCTP control message Get MCTP Version Support is answered. -/
  | getMctpVersionSupport (x : Xport) (src : Byte) (tag : BitVec 3)
  /-- GET_MESSAGE_TYPE_SUPPORT (R99). The MCTP control message Get Message Type Support is answered. -/
  | getMessageTypeSupport (x : Xport) (src : Byte) (tag : BitVec 3)
  /-- JTAG_INSTRUCTION (R76). A JTAG instruction is loaded and acts according to the life-cycle state. -/
  | jtagInstruction (ir : JtagIr)
  /-- SCHED_DELIVER (R22). The beat scheduler delivers a pending action to its part at least 64 HCLK before its instant. -/
  | schedDeliver
  /-- SCHED_APPLY (R22). A scheduled action's instant is reached; its value passes the ladder and the range tests, and it completes. -/
  | schedApply
  /-- INTERLOCK_CLAMP_TIMEOUT (R29). A transaction bound only by the V–F interlock has not reached its code within 20 µs and completes CLAMPED with source 0xE. -/
  | interlockClampTimeout (tag : Fin 512)
  /-- RATIO_IN_PLACE (R27). A DCU reports a new ratio in place; a set-point lowering waiting on it then proceeds. -/
  | ratioInPlace (cd : Fin 64)
  /-- RING_KEEPALIVE (R16). Every 64 HCLK the hub sends a keep-alive on the satellite ring. -/
  | ringKeepalive
  /-- RING_MESSAGE (R15). A satellite receives a good hub message on a ring lane and takes the first copy. -/
  | ringMessage (lane : Fin 2) (sat : Fin 160) (good : Bool)
  /-- SATELLITE_ISOLATED (R16). A satellite has received nothing for 256 HCLK, declares itself isolated and holds its outputs. -/
  | satelliteIsolated (sat : Fin 160)
  /-- RING_LANE_DOWN (R16). A break of one ring lane is detected and recorded. -/
  | ringLaneDown (lane : Fin 2) (sat : Fin 160)
  /-- LOOP_SAMPLE (R220). At a rail's sample edge, the loop engine takes VS, IOUT and T, runs the filters and writes VREF_LOOP. -/
  | loopSample (n : Fin 8) (m : LoopIn)
  /-- REGION_CHANGE (R226). The region dwell count is reached and the active coefficient region changes bumplessly. -/
  | regionChange (n : Fin 8) (m : LoopIn)
  /-- FE_EXPIRY (R231). The following-error timer reaches FE_TIME and rung 4 becomes active on the rail. -/
  | feExpiry (n : Fin 8)
  /-- FE_RELEASE (R232). The release condition of rung 4 is met and the reaction releases. -/
  | feRelease (n : Fin 8)
  /-- COEF_SCRUB (R228). The millisecond background scrub reads and corrects every coefficient word. -/
  | coefScrub (errs : List ScrubErr)
  /-- COEF_COMMIT (R227). A command applies the staged coefficients of one region, or of all regions, at the next sample edge. -/
  | coefCommit (n : Fin 8) (v : Byte)
  /-- TR_ARM (R234). The TR_CTRL ARM command clears the trace buffer and starts a capture. -/
  | trArm (n : Fin 8)
  /-- TR_FORCE (R234). The TR_CTRL FORCE command triggers an armed trace at the next sample edge. -/
  | trForce (n : Fin 8)
  /-- TR_STOP (R234). The TR_CTRL STOP command discards the capture. -/
  | trStop (n : Fin 8)
  /-- TRACE_DONE (R234). The post-trigger samples are complete; the trace is DONE and its GEN increments. -/
  | traceDone (n : Fin 8)
  /-- E_PROMOTION (R237). A level E fabric request that has waited 1,800 HCLK is promoted ahead of levels C and D. -/
  | ePromotion (wait : BitVec 16)
  /-- MODULATOR_TRIGGER (R116). The feedback crosses below VREF_LOOP and a trigger arises. -/
  | modulatorTrigger (n : FbIn)
  /-- PENDING_TRIGGER_FIRE (R116). A pending trigger finds a ready phase and fires. -/
  | pendingTriggerFire (n : Fin 8)
  /-- ON_TIME_END (R117). A phase's on-time ends and the firing's checks are made. -/
  | onTimeEnd (p : Fin 96) (imonStart imonEnd : BitVec 14)
  /-- CYCLE_LIMIT_HIT (R127). Phase current exceeds its effective ILIM_PH during an on-time, which ends within 4 MCLK and counts a limit hit. -/
  | cycleLimitHit (p : ImonIn)
  /-- RAIL_LIMIT_INHIBIT (R128). Rail current reaches ILIM_EFF, and new on-times on the rail are inhibited. -/
  | railLimitInhibit (n : Fin 8) (iph : List (BitVec 14))
  /-- ILIM_BURST_END (R129). 100 µs pass after a burst's last hit; the burst ends and its release record is written. -/
  | ilimBurstEnd (n : Fin 8)
  /-- SHED_DWELL_EXPIRY (R123). IAVG has stayed below SHED_LO for SHED_DWELL, and the hottest active phase is shed to STANDBY. -/
  | shedDwellExpiry (n : Fin 8)
  /-- ZERO_CURRENT_DECISION (R132). The samples after a firing lie below 1 A while the load is at least 5 A per phase, and the phase is retired. -/
  | zeroCurrentDecision (p : Fin 96)
  /-- TLM_FRAME (R68). A type D telemetry frame is received and checked, resetting the current model and acting on its fault bits. -/
  | tlmFrame (p : Fin 96) (frame : Word32) (stop onSlot : Bool)
  /-- TLM_LOST (R130). Four consecutive 500 ns slots pass without an accepted frame, and the phase is retired for lost telemetry. -/
  | tlmLost (p : Fin 96)
  /-- EXCLUSION_TIMEOUT (R130). A phase has stayed EXCLUDED for 100 µs and is retired for under-voltage. -/
  | exclusionTimeout (p : Fin 96)
  /-- PHASE_RETIRE (R135). Within 2 µs of a retirement decision, the phase is removed, ILIM_EFF is recomputed and rung 2 is activated. -/
  | phaseRetire (p : Fin 96)
  /-- STAGE_DISABLE (R140). 1 µs after PWM goes to high impedance, EN falls. -/
  | stageDisable (p : Fin 96)
  /-- RUNG2_RELEASE (R30). The rung 2 activity interval after limit hits, a retirement or a latch expires, and rung 2 releases on the rail. -/
  | rung2Release (n : Fin 8)
  /-- RAIL_CTRL_ON (R145). RAIL_CTRL ON moves an OFF rail to PRECHARGE-CHECK with VSTART as its demand. -/
  | railCtrlOn (n : Fin 8)
  /-- RAIL_CTRL_OFF (R140). RAIL_CTRL OFF starts a soft stop, or an immediate off when T_SOFTSTOP is 0. -/
  | railCtrlOff (n : Fin 8)
  /-- RAIL_CTRL_OFF_IMMEDIATE (R140). RAIL_CTRL OFF_IMMEDIATE turns the rail off at once. -/
  | railCtrlOffImmediate (n : Fin 8)
  /-- RAIL_CTRL_CLEAR (R144). RAIL_CTRL CLEAR, at least 1 s after the latch, moves a latched rail to OFF. -/
  | railCtrlClear (n : Fin 8)
  /-- RETIRE_CLEAR (R136). A command while the rail is OFF returns its retired phases to service. -/
  | retireClear (n : Fin 8)
  /-- PH_CTRL_RETIRE (R151). A host command retires a phase with cause 7. -/
  | phCtrlRetire (p : Fin 96)
  /-- PRECHARGE_ENABLE_DONE (R137). The 20 µs stage enable time ends and VPRE sampling begins. -/
  | prechargeEnableDone (n : Fin 8)
  /-- VPRE_TAKEN (R137). VPRE is taken from eight samples, and the rail enters RAMP or latches on PREBIAS_OV or BUS_UV. -/
  | vpreTaken (n : Fin 8) (samples : List (BitVec 18))
  /-- SHORT_VOUT_CHECK (R139). From 10 % of T_SOFTSTART, low VOUT with current at limit latches SHORT_VOUT. -/
  | shortVoutCheck (n : Fin 8)
  /-- RAMP_TIMEOUT (R139). RAMP is not left within 2 × T_SOFTSTART + 1 ms, and the rail latches. -/
  | rampTimeout (n : Fin 8)
  /-- SOFT_STOP_END (R140). The soft-stop reference reaches 0, PWM goes to high impedance and the rail becomes OFF. -/
  | softStopEnd (n : Fin 8)
  /-- OVER_VOLTAGE (R141). VOUT has been above its over-voltage limit for 100 ns, and the low sides clamp or the rail latches at once. -/
  | overVoltage (n : Fin 8) (vout : BitVec 16)
  /-- OV_CLAMP_DONE (R141). VOUT has fallen to the set-point under the low-side clamp, and the rail latches OV. -/
  | ovClampDone (n : Fin 8) (vout : BitVec 16)
  /-- UNDER_VOLTAGE (R142). VOUT has stayed below set-point − UV_MARGIN for UV_TIME, and the rail latches UV. -/
  | underVoltage (n : Fin 8) (vout : BitVec 16)
  /-- SENSE_PAIR_DROP (R143). A sense pair deviates for 1 µs or has an open leg, and is dropped from SNS_WORKING. -/
  | sensePairDrop (n : Fin 8) (pair : Fin 16) (openLeg : Bool)
  /-- BUS_UV_FAULT (R145). VBUS has stayed below BUS_UV for 10 µs in an on-state, and the rail latches. -/
  | busUvFault (n : Fin 8)
  /-- IBC_POLL (R147). A timed PMBus poll reads the converter's VIN, IIN and STATUS_WORD. -/
  | ibcPoll (resp : Option IbcPoll)
  /-- IBC_ALERT (R147). PMB_ALERT_N falls, STATUS_WORD is read and IBC_ALERT is recorded. -/
  | ibcAlert (status : BitVec 16)
  /-- IBC_CTRL_ON (R148). IBC_CTRL ON writes OPERATION 0x80 to the converter. -/
  | ibcCtrlOn (ack : Bool)
  /-- IBC_CTRL_OFF (R148). IBC_CTRL OFF writes OPERATION 0x00 when every rail is OFF or latched. -/
  | ibcCtrlOff (ack : Bool)
  /-- VSET_DEMAND_WRITE (R98). A write of VSET_DEMAND becomes a rung 8 set-point demand with no completion record. -/
  | vsetDemandWrite (n : Fin 8) (v : BitVec 16)
  /-- RATIO_DEMAND_WRITE (R98). A write of RATIO_DEMAND becomes a rung 8 ratio demand with no completion record. -/
  | ratioDemandWrite (cd : Fin 64) (v : Byte)
  /-- PD_DEMAND_WRITE (R212). A write of PD_DEMAND becomes a rung 8 power-domain demand. -/
  | pdDemandWrite (d : Fin 96) (v : Byte)
  /-- SNARE_TRIP (R152). A Snare detector trips on a voltage sag or an MGN input. -/
  | snareTrip (cd : Fin 64) (inp : SagIn)
  /-- SNARE_RELEASE (R152). A detector's voltage recovers above threshold plus hysteresis with MGN low, and it releases. -/
  | snareRelease (cd : Fin 64) (inp : Fin 8) (v : BitVec 16)
  /-- SNARE_RUNG_RELEASE (R158). 1 µs after the last stretched edge, rung 3 releases on the domain. -/
  | snareRungRelease (cd : Fin 64)
  /-- SNARE_BEAT_END (R158). At a beat end, the stretched-edge count opens or extends a burst run, or ends it with a SNARE_BURST record. -/
  | snareBeatEnd (cd : Fin 64) (beat : Word64)
  /-- SN_SNAP (R156). A command copies SN_EDGES, SN_LOSTQ and the beat time at one domain edge. -/
  | snSnap (cd : Fin 64)
  /-- UPBEAT_ANNOUNCE (R161). A checked CANCEL-0 announcement is accepted and becomes its queue's pending announcement, superseding any older one. -/
  | upbeatAnnounce (l : Fin 32) (word : Word32) (gap : Byte)
  /-- UPBEAT_CANCEL (R161). An accepted CANCEL-1 announcement withdraws its queue's pending announcement. -/
  | upbeatCancel (l : Fin 32) (word : Word32) (gap : Byte)
  /-- CMD_START (R342). CMD_START is sampled high: the command accumulator rolls over and a COMMAND telemetry item is produced. -/
  | cmdStart (q : Fin 512) (edge : StartEdge) (beforeAct beforeEdges : BitVec 16) (startAct : BitVec 3)
  /-- MATCH_REPORT (R167). A match report reaches the phase controller, releasing held pulses and starting the offset hold. -/
  | matchReport (q : Fin 512)
  /-- PREFIRE_PULSE (R166). A planned pulse reaches its start and is fired at the next permitted slot, or suppressed by the rail-limit inhibit. -/
  | prefirePulse (n : Fin 8)
  /-- UPBEAT_RETRACT (R168). The retraction instant passes with no match report, and the plan is dropped. -/
  | upbeatRetract (q : Fin 512)
  /-- PREPOS_HOLD_END (R170). PREPOS_HOLD elapses after the arrival, and the plan's offset contribution is removed. -/
  | preposHoldEnd (q : Fin 512)
  /-- PREC_IDLE_EXPIRY (R173). A queue idle for PREC_IDLE with nothing pending drops its precision mode. -/
  | precIdleExpiry (q : Fin 512)
  /-- LANE_DISABLE (R180). A write of 0 to LANE_EN ignores the lane and withdraws its pending announcements as cancels. -/
  | laneDisable (l : Fin 32)
  /-- F_TABLE_WRITE (R191). A write of F_TABLE while the domain is GATED recomputes MIN_CODE and VF_CODE and relocks the DCO. -/
  | fTableWrite (cd : Fin 64) (v : BitVec 16)
  /-- DCO_LOCK (R189). The DCO locks to HCLK at its code after a reset, a test or a relock. -/
  | dcoLock (cd : Fin 64)
  /-- SRC_SEL_WRITE (R196). A write of SRC_SEL requests a glitch-free source switch, or is refused. -/
  | srcSelWrite (cd : Fin 64) (v : Byte) (targetLive : Bool)
  /-- SOURCE_SWITCH_DONE (R197). The first new-source output edge ends the stop interval, and the lost cycles are counted. -/
  | sourceSwitchDone (cd : Fin 64) (stopHclk : Word32)
  /-- SOURCE_DEAD (R198). The present source shows no edge for 16 HCLK, and the DCU takes the forced path. -/
  | sourceDead (cd : Fin 64) (stopHclk : Word32) (targetLive : Bool)
  /-- GATE_CTRL_REQUEST (R201). A GATE_CTRL request asks for the domain's gate and raises GATE_REQ. -/
  | gateCtrlRequest (cd : Fin 64)
  /-- GATE_CTRL_WITHDRAW (R201). A GATE_CTRL withdraw removes the driver's gate request. -/
  | gateCtrlWithdraw (cd : Fin 64)
  /-- FP1_GATE_REQUEST (R201). FP1 requests or withdraws a domain gate on its internal path. -/
  | fp1GateRequest (cd : Fin 64) (want : Bool)
  /-- GATE_ACK (R63). GATE_ACK is sampled high and the domain clock is held after its next edge. -/
  | gateAck (cd : Fin 64)
  /-- GATE_REQ_TIMEOUT (R201). GATE_ACK has not risen 4 µs after the request, so the request is denied, or the gate is forced under Gong or a soft stop. -/
  | gateReqTimeout (cd : Fin 64) (ack : Bool)
  /-- DOMAIN_RESET_END (R203). DOM_RST_REQ has been held for 256 HCLK; it is released and DOM_RESET is recorded. -/
  | domainResetEnd (cd : Fin 64)
  /-- PD_ON_START (R207). An ON demand finds its rail in REGULATE or SHED with rung 1 inactive, and the ON sequence starts. -/
  | pdOnStart (d : Fin 96)
  /-- PD_SEQ_ADVANCE (R207). A power-domain sequence step's condition is met (acknowledge, STAGE_MIN, rush, settle) and the next step begins. -/
  | pdSeqAdvance (d : Fin 96) (ack : BitVec 4)
  /-- PD_SEQ_TIMEOUT (R210). An ON or OFF sequence exceeds 20 µs, and the domain enters FAULT. -/
  | pdSeqTimeout (d : Fin 96) (ack : BitVec 4)
  /-- PSW_ACK_LOST (R210). A PSW_ACK bit falls while the domain is ON, and the domain enters FAULT with ACK_LOST. -/
  | pswAckLost (d : Fin 96) (ack : BitVec 4)
  /-- PD_CTRL_CLEAR (R210). PD_CTRL CLEAR with PSW_ACK 0000 moves a faulted power domain to OFF. -/
  | pdCtrlClear (d : Fin 96) (ack : BitVec 4)
  /-- XCLK_LOSS (R188). No XCLK edge arrives for 16 HCLK, and the reference moves to STO if BREF is not locked. -/
  | xclkLoss
  /-- XCLK_RESTORE (R188). XCLK has been present for 1 ms and the PLL has moved back to it, so the STO fmax factor is lifted. -/
  | xclkRestore
  /-- BREF_LOCK (R185). The DL0 clock has met the acquisition conditions and the PLL moves to BREF, or returns to it from holdover. -/
  | brefLock (xclkPpm : Word32)
  /-- BREF_LOSS (R186). BREF is declared lost and the PLL enters holdover on XCLK. -/
  | brefLoss (cause : Fin 3)
  /-- HK_CONVERSION (R272). Every 2 µs the housekeeping converter produces a reading of the next channel. -/
  | hkConversion (r : HkIn)
  /-- HK_ROUND_END (R277). At a round end, diode cross-checks, warnings, calibration, temperature compensation and Gong restart conditions are evaluated. -/
  | hkRoundEnd
  /-- KETTLE_UPDATE (R279). Every 2 µs Kettle updates the fast and slow thermal states and the HOT estimates. -/
  | kettleUpdate
  /-- KETTLE_CORRECTION (R280). In the HCLK after an anchor diode reading stands, Kettle corrects S from the residual or marks open loop. -/
  | kettleCorrection
  /-- BOARD_HOT_ASSERT (R284). BOARD_HOT_N falls after filtering; BH_STATE is set and BOARD_HOT is recorded. -/
  | boardHotAssert
  /-- BOARD_HOT_RELEASE (R284). BOARD_HOT_N rises; BH_STATE is cleared and BOARD_HOT is recorded. -/
  | boardHotRelease
  /-- GONG_ORDERLY_DEADLINE (R287). ORDERLY_MS elapses after an orderly trip and the rails-off action begins. -/
  | gongOrderlyDeadline
  /-- GONG_CTRL_RAILS_OFF (R287). A GONG_CTRL 1 command in ORDERLY begins the rails-off action. -/
  | gongCtrlRailsOff
  /-- GONG_RAILS_OFF (R287). 20 µs after X, every on rail makes the immediate off and CD_RST_N goes low. -/
  | gongRailsOff
  /-- GONG_CTRL_RESTART (R288). A GONG_CTRL 2 command in READY performs the Gong restart. -/
  | gongCtrlRestart
  /-- BUDGET_PERIOD_START (R260). At a budget period start, FP1 updates corr, thermal ceilings and the allocation, and sets the rung 6 contributions. -/
  | budgetPeriodStart
  /-- SWITCH_SUBMIT (R252). A planned phase-ID switch is 20 beats from its instant, and FP1 submits its scheduled actions. -/
  | switchSubmit (p : Fin 128)
  /-- MARKER_ACCEPT (R253). A phase marker is accepted into the queue and stamped with beat time and energy. -/
  | markerAccept (kind : BitVec 2) (pid : Byte) (p : Fin 128) (scope : BitVec 2) (desc : BitVec 34)
  /-- MARKER_BEGIN (R254). FP1 takes a BEGIN marker, opens a learning instance and makes an unannounced switch if needed. -/
  | markerBegin
  /-- MARKER_END (R254). FP1 takes an END marker and closes the open instance, or discards it as a mismatch. -/
  | markerEnd
  /-- MARKER_PRELOAD (R255). FP1 takes a PRELOAD marker and starts reading its descriptor row. -/
  | markerPreload
  /-- DESCRIPTOR_READ_DONE (R255). A preload descriptor row arrives, is checked, and plans or applies a switch. -/
  | descriptorReadDone (row : List Byte)
  /-- PRELOAD_EXPIRE (R255). No BEGIN of the preloaded phase ID arrives within PRELOAD_EXPIRE beats, and an orphan is counted. -/
  | preloadExpire (p : Fin 128)
  /-- BRUSH_FLOOR_STEP (R264). At each beat end, the rung 5 limiter lowers or raises the rail's Brush ceiling by one code. -/
  | brushFloorStep (n : Fin 8)
  /-- CAP_TIMER_EXPIRY (R265). CAP_TIMER expires in BRUSH with every period over, raising CAP_UNREACHABLE, or expires in UNREACHABLE with none over, clearing it. -/
  | capTimerExpiry
  /-- FMAX_REWRITE (R247). FP0 rewrites FMAX_EFF from the fused values, the derates and FMAX_REF. -/
  | fmaxRewrite
  /-- AGEING_MEASURE (R248). Every 24 h FP0 measures the ageing monitors and updates the derates. -/
  | ageingMeasure (slowdownPpm : List (BitVec 32))
  /-- PID_CLEAR (R271). A command clears every learned count of a phase ID. -/
  | pidClear (q : Byte)
  /-- DL_UP_RISE (R305). DLn_UP rises and the port enters TRAINING. -/
  | dlUpRise (p : Fin 4)
  /-- DL_UP_FALL (R305). DLn_UP falls; the port goes DOWN and the partner's contributions are removed. -/
  | dlUpFall (p : Fin 4)
  /-- LINK_SILENCE_TIMEOUT (R305). No valid frame arrives for 64 slots, and the port goes DOWN. -/
  | linkSilenceTimeout (p : Fin 4)
  /-- FRAME_SLOT (R303). Every 64 ns a port sends the first ready frame by priority, carrying EXPRESS. -/
  | frameSlot (p : Fin 4)
  /-- EXPRESS_RECEIVE (R301). The EXPRESS field of an incoming frame is checked and combined before the frame CRC. -/
  | expressReceive (p : Fin 4) (ex : BitVec 16)
  /-- IDLE_FRAME (R305). An IDLE frame updates partner, depth and generation, completing training or renegotiating. -/
  | idleFrame (p : Fin 4) (f : BitVec 80) (cut : Bool) (age : BitVec 12)
  /-- BEAT_FRAME (R312). A BEAT frame updates the beat phase error and alignment state. -/
  | beatFrame (p : Fin 4) (f : BitVec 80) (cut : Bool) (age : BitVec 12)
  /-- DREQ_FRAME (R309). A DREQ frame is received and a DRSP is scheduled. -/
  | dreqFrame (p : Fin 4) (f : BitVec 80) (cut : Bool) (age : BitVec 12)
  /-- DRSP_FRAME (R309). A DRSP frame completes a delay exchange and updates RTT and T_DOWN. -/
  | drspFrame (p : Fin 4) (f : BitVec 80) (cut : Bool) (age : BitVec 12)
  /-- DREQ_SEND (R309). Every 16 beats a port sends a DREQ. -/
  | dreqSend (p : Fin 4)
  /-- DRSP_TIMEOUT (R309). A DRSP has not arrived within 4 beats and the frame is counted lost. -/
  | drspTimeout (p : Fin 4) (id : Byte)
  /-- BEAT_SEND (R311). Every 16 beats a BEAT frame is sent on each downstream port. -/
  | beatSend
  /-- GEN_UP_FRAME (R321). A child's GEN_UP frame is combined per group. -/
  | genUpFrame (p : Fin 4) (f : BitVec 80) (cut : Bool) (age : BitVec 12)
  /-- GEN_DOWN_FRAME (R321). A GEN_DOWN frame sets the group's generation, policy and members and is forwarded. -/
  | genDownFrame (p : Fin 4) (f : BitVec 80) (cut : Bool) (age : BitVec 12)
  /-- GEN_UP_SEND (R321). Once per second a node sends GEN_UP for its group, and the root broadcasts GEN_DOWN. -/
  | genUpSend
  /-- G_POLICY_SET_WRITE (R321). A write of G_POLICY_SET at the root broadcasts GEN_DOWN at once. -/
  | gPolicySetWrite (g : Fin 16) (v : Byte)
  /-- GEN_OFFER_WRITE (R307). A write of GEN_OFFER renegotiates every link at its next IDLE frame. -/
  | genOfferWrite (v : Byte)
  /-- PACE_EVALUATE (R316). At ticks 0, 256, 512 and 768, FP2 computes and publishes the own deficit and sets rung 7 ranges. -/
  | paceEvaluate (slot : Fin 4)
  /-- GROUP_STALE (R317). No downward EXPRESS arrives for a group for 100 beats, and RES is cleared. -/
  | groupStale (g : Fin 16)
  /-- PACE_STALE_EXPIRY (R323). PACE_STALE beats pass without an FP2 evaluation, and the own deficit is set to 0. -/
  | paceStaleExpiry
  /-- COLL_ROUND_START (R324). At a multiple of COLL_PERIOD, FP2 sets D_own and F_own for the round. -/
  | collRoundStart
  /-- COLL_UP_FRAME (R324). A child's COLL_UP values are taken; once every child has reported, the node sends its COLL_UP. -/
  | collUpFrame (p : Fin 4) (f : BitVec 80) (cut : Bool) (age : BitVec 12)
  /-- COLL_UP_DEADLINE (R324). The COLL_UP deadline passes, and COLL_UP is sent with stale child values. -/
  | collUpDeadline
  /-- COLL_DOWN_DEADLINE (R325). At S + COLL_PERIOD/8 the root forms the sums and broadcasts COLL_DOWN. -/
  | collDownDeadline
  /-- COLL_DOWN_FRAME (R325). A COLL_DOWN frame gives the mode and factor of the round and is forwarded. -/
  | collDownFrame (p : Fin 4) (f : BitVec 80) (cut : Bool) (age : BitVec 12)
  /-- GRANT_APPLY (R325). At S + COLL_PERIOD/2 each node writes its grant, or counts a grant loss. -/
  | grantApply
  /-- BULK_DATA_FRAME (R327). A BULK_DATA frame adds six bytes to the open chunk. -/
  | bulkDataFrame (p : Fin 4) (f : BitVec 80) (cut : Bool) (age : BitVec 12)
  /-- BULK_START (R327). A BULK_CTL START opens a chunk, or is answered ACK for a chunk already held. -/
  | bulkStart (p : Fin 4) (f : BitVec 80) (cut : Bool) (age : BitVec 12)
  /-- BULK_END (R327). A BULK_CTL END closes the chunk, which is checked and answered ACK or NAK. -/
  | bulkEnd (p : Fin 4) (f : BitVec 80) (cut : Bool) (age : BitVec 12)
  /-- BULK_ACK (R381). A BULK_CTL ACK marks a sent chunk as held by the partner. -/
  | bulkAck (p : Fin 4) (f : BitVec 80) (cut : Bool) (age : BitVec 12)
  /-- BULK_NAK (R381). A BULK_CTL NAK makes the sender resend the chunk, or pause the port. -/
  | bulkNak (p : Fin 4) (f : BitVec 80) (cut : Bool) (age : BitVec 12)
  /-- BULK_CHUNK_SEND (R382). A chunk of the forwarded stream is sent when slots and the answer window allow. -/
  | bulkChunkSend (p : Fin 4) (bytes : List Byte)
  /-- BULK_PAUSE_END (R381). A paused port resumes after 1,000,000 beats. -/
  | bulkPauseEnd (p : Fin 4)
  /-- RECONCILE (R339). At each reconciliation instant the hub computes the per-partition adjustments of every rail. -/
  | reconcile
  /-- RECONCILE_APPLY (R340). At R_k + 2 beats the adjustments are added and PE_REC and RAIL_REC are copied. -/
  | reconcileApply
  /-- E_SNAP (R345). A command schedules an energy snapshot at the next suitable beat start. -/
  | eSnap
  /-- ENERGY_SNAPSHOT (R345). At instant B the rail and DCU counters are copied into the snapshot subs. -/
  | energySnapshot
  /-- WIN_ENABLE (R346). A write of 1 to WIN_EN enables a telemetry window after its checks. -/
  | winEnable (w : Fin 15)
  /-- WIN_DISABLE (R358). A write of 0 to WIN_EN stops new records and drains the one in issue. -/
  | winDisable (w : Fin 15)
  /-- TEL_SAMPLE_DUE (R349). A SAMPLE window's period instant samples its list and forms a record, or drops it. -/
  | telSampleDue (w : Fin 15)
  /-- TEL_FLUSH (R349). WIN_FLUSH elapses after the first item, and a partial EVENTS or COMMAND record is formed. -/
  | telFlush (w : Fin 15)
  /-- TEL_RECORD_ISSUE (R356). The bucket holds the record's cost and its rows are issued on the initiator port. -/
  | telRecordIssue (w : Fin 15)
  /-- TIP_COMMIT (R54). A row commit arrives; after all four, the counter add is issued. -/
  | tipCommit (tag : BitVec 5) (err : Bool)
  /-- TIP_COMMIT_ERROR (R350). A commit with TIP_CMT_ERR abandons the record, which is re-formed with the same SEQ. -/
  | tipCommitError (tag : BitVec 5) (err : Bool)
  /-- FP_WATCHDOG (R367). A processor's watchdog expires and it restarts as a crash. -/
  | fpWatchdog (k : Fin 4)
  /-- FP_TRAP (R367). An illegal instruction or access fault restarts the processor. -/
  | fpTrap (k : Fin 4)
  /-- FP_MEM_UE (R367). An uncorrectable error in the processor's memory restarts it. -/
  | fpMemUe (k : Fin 4)
  /-- FP_FATAL (R367). The firmware declares a fatal condition and the processor restarts. -/
  | fpFatal (k : Fin 4)
  /-- FP_CTRL_RESTART (R369). A write of 1 to FP_CTRL restarts a processor or brings it out of DOWN. -/
  | fpCtrlRestart (k : Fin 4)
  /-- FP_BOOT (R378). A processor's boot check completes; it enters RUN with handover, checkpoint or cold intake, or fails. -/
  | fpBoot (k : Fin 4) (r : BootRead)
  /-- HANDOVER_DONE (R371). A processor finishes writing its handover, is reset and boots the target slot. -/
  | handoverDone (k : Fin 4)
  /-- HANDOVER_TIMEOUT (R371). A handover is not written within 1 ms, and the processor is reset with an invalid area. -/
  | handoverTimeout (k : Fin 4)
  /-- CHECKPOINT_WRITE (R372). At CKPT_PERIOD a processor writes a checkpoint into the alternate half. -/
  | checkpointWrite (k : Fin 4)
  /-- TABLES_CHECK (R378). The Custodian finishes the key and tag test of the TABLES section. -/
  | tablesCheck (r : BootRead)
  /-- UPD_CHUNK_WRITE (R380). An MCTP BLOCK_WRITE to UPD_CHUNK delivers an image chunk to be programmed. -/
  | updChunkWrite (x : Xport) (m : DictMsg)
  /-- CHUNK_HELD (R379). A chunk's program reads back good and the chunk is held; the slot becomes STAGED when all are. -/
  | chunkHeld (good : Bool)
  /-- UPD_ACTIVATE (R385). An UPD_CTRL ACTIVATE command is checked and, if accepted, deferred. -/
  | updActivate
  /-- UPD_CONFIRM (R390). An UPD_CTRL CONFIRM command confirms the active slot and raises MIN_SVN. -/
  | updConfirm
  /-- UPD_ABORT (R384). An UPD_CTRL ABORT command empties a receiving or staged slot. -/
  | updAbort
  /-- UPD_CANCEL (R386). An UPD_CTRL CANCEL command withdraws a deferred activation. -/
  | updCancel
  /-- UPD_FALLBACK (R391). An UPD_CTRL FALLBACK command moves every processor back to the previous slot. -/
  | updFallback
  /-- ACTIVATION_START (R386). The quiet condition has held for 10 ms and the activation begins. -/
  | activationStart
  /-- ACTIVATION_MOVE (R387). The next processor in role order writes its handover and boots the target slot. -/
  | activationMove
  /-- ACT_LIMIT_EXPIRY (R386). ACT_LIMIT is reached; the activation is cancelled and rolled back. -/
  | actLimitExpiry
  /-- CONF_LIMIT_EXPIRY (R391). CONF_LIMIT elapses unconfirmed and the image falls back. -/
  | confLimitExpiry
  /-- SETTINGS_SAVE (R394). SAVE_DELAY after an RWS write, the Custodian saves pending values to the settings store. -/
  | settingsSave (r : SaveOut)
  /-- SAVE_NOW (R394). A command saves every pending value at once. -/
  | saveNow
  /-- PROFILE_SAVE (R394). Every PROFILE_SAVE the changed learned profiles are saved. -/
  | profileSave
  /-- COEF_RELOAD (R395). The Steward reloads and commits a held rail's coefficients. -/
  | coefReload (n : Fin 8) (words : List (BitVec 26)) (fromStore : Bool)
  /-- RECORD_DRAIN (R412). A level E fabric access writes the oldest queued record to its shelf. -/
  | recordDrain
  /-- CHEST_PROGRAM (R416). A Chest program step completes and the next one of the four, or the next record, follows. -/
  | chestProgram (good : Bool)
  /-- CHEST_ERASE (R418). A journal sector erase completes, keeping sectors erased ahead. -/
  | chestErase (good : Bool)
  /-- CHEST_SCAN_DONE (R419). The start-time Chest scan completes with repairs and NEXT_CSEQ. -/
  | chestScanDone (r : ChestScan)
  /-- CHEST_FETCH_DONE (R420). A NOR fetch for a Chest or dump window completes. -/
  | chestFetchDone (dump : Bool) (r : NorRead)
  /-- START_CSEQ_WRITE (R420). A write of START_CSEQ starts a Chest fetch. -/
  | startCseqWrite (x : Xport) (v : Word32)
  /-- HB_KICK (R423). A heartbeat kick restarts the heartbeat timer. -/
  | hbKick (v : Byte)
  /-- HEARTBEAT_MISSED (R423). HB_PERIOD passes without a kick and a hang is declared. -/
  | heartbeatMissed
  /-- STOP_CTRL_DUMP (R423). A STOP_CTRL DUMP command declares a hang with a dump. -/
  | stopCtrlDump (x : Xport)
  /-- STOP_CTRL_STOP_DUMP (R423). A STOP_CTRL STOP_DUMP command declares a hang with stop and dump. -/
  | stopCtrlStopDump (x : Xport)
  /-- STOP_CTRL_RELEASE (R427). A STOP_CTRL RELEASE command in STOPPED schedules the release instant. -/
  | stopCtrlRelease (x : Xport)
  /-- STOP_CTRL_ABORT (R428). A STOP_CTRL ABORT command ends an erase or dump with DUMP_FAIL. -/
  | stopCtrlAbort (x : Xport)
  /-- HANG_CUT (R424). At instant S the hub cut image is shadowed, the CUT_HEADs are latched, and for a stop the domains hold and the processors halt. -/
  | hangCut (stamps : List StopStamp)
  /-- DUMP_ERASE_DONE (R428). The dump area erase completes and dumping begins. -/
  | dumpEraseDone (good : Bool)
  /-- DUMP_SECTOR_DONE (R434). A dump sector's MARKER is committed, and after the last one DUMP_DONE is recorded. -/
  | dumpSectorDone (good : Bool)
  /-- STOP_RELEASE (R427). At the release instant the DCUs remove their holds and the processors leave their halts. -/
  | stopRelease
  /-- DUMP_CLEAR (R429). A command erases a dump area. -/
  | dumpClear (v : Byte)
  /-- DYNAMIC_ADDRESS_ASSIGNMENT (R74). The I3C controller assigns Zilari a dynamic address, which is shown in 1200:05 I3C_DYN_ADDR. -/
  | dynamicAddressAssignment (a : BitVec 7)
  /-- SMB_ALERT_RESPONSE (R74). The SMBus host reads the alert response address, Zilari answers with its address and releases SMB_ALERT_N. -/
  | smbAlertResponse
  /-- SOFT_RESET_RELEASE (R47). SOFT_RST falls and the host target port, the telemetry initiator port and the marker port resume their handshakes. -/
  | softResetRelease
  /-- VAON_RESET_RELEASE (R447). VAON has stood at or above 0.65 V for 1 ms with POR_N high, and the hub starts again from S0. -/
  | vaonResetRelease
  /-- NEGATIVE_CURRENT_LIMIT (R128). Outside diode emulation, a phase's current falls below −10 A during its off-time and its low side is turned off until its next on-time. -/
  | negativeCurrentLimit (p : ImonIn)
  /-- DIODE_EMULATION_ZERO_CURRENT (R125). In diode emulation, the phase current falls to zero after an on-time and PWM goes to high impedance. -/
  | diodeEmulationZeroCurrent (p : Fin 96)
  deriving DecidableEq, Repr

end Sys2Proof
end

