-- ==== Sys2Proof/Machine/Crc.lean ====
section
/-! DEFINITION. The checks the manual names: CRC-4 of the stage telemetry frame (R68), CRC-8 of the Drumline frame (R300) and CRC-32C (R347), and parity. -/

namespace Sys2Proof.Machine

/-- One bit of a CRC of width w with polynomial p, most significant bit first. -/
def crcBit (w p : Nat) (crc : Nat) (b : Bool) : Nat :=
  let top := (crc >>> (w - 1)) % 2
  let sh := (crc * 2) % 2 ^ w
  if (top = 1) != b then sh ^^^ p else sh

/-- The bits [hi:lo] of a number, most significant first. -/
def bitsMsb (v : Nat) (lo n : Nat) : List Bool := (List.range n).reverse.map (fun i => v.testBit (lo + i))

/-- CRC-4, x⁴ + x + 1, initial 0, over [31:4] of a frame (R68). -/
def crc4 (frame : Nat) : Nat := (bitsMsb frame 4 28).foldl (crcBit 4 3) 0

/-- CRC-8 with a polynomial and an initial value, over n bits from bit lo. -/
def crc8 (poly init : Nat) (frame lo n : Nat) : Nat := (bitsMsb frame lo n).foldl (crcBit 8 poly) init

/-- One byte of the reflected CRC-32C (polynomial 0x82F6_3B78). -/
def crc32cByte (crc : Nat) (b : Byte) : Nat :=
  (List.range 8).foldl (fun c _ => if c % 2 = 1 then (c / 2) ^^^ 0x82F63B78 else c / 2) (crc ^^^ b.toNat)

/-- CRC-32C: reflected, initial and final complement. -/
def crc32c (bytes : List Byte) : Word32 := BitVec.ofNat 32 ((bytes.foldl crc32cByte 0xFFFFFFFF) ^^^ 0xFFFFFFFF)

/-- The n bytes of a number, least significant first. -/
def leBytes (n : Nat) (v : Nat) : List Byte := (List.range n).map (fun i => BitVec.ofNat 8 (v / 256 ^ i))

/-- The number of a little-endian byte list. -/
def leNat (bytes : List Byte) : Nat := bytes.foldr (fun b a => b.toNat + 256 * a) 0

/-- A field of n bytes from an offset, least significant byte first. -/
def byteField (b : List Byte) (o n : Nat) : Nat := leNat ((b.drop o).take n)

/-- A signature (R451): CRC-32C over 4-byte words. -/
def sigOf (ws : List Word32) : Word32 := crc32c (ws.flatMap (fun w => leBytes 4 w.toNat))

/-- Even parity over a word. -/
def parityOdd (n : Nat) (v : Nat) : Bool := (List.range n).foldl (fun p i => p != v.testBit i) false

end Sys2Proof.Machine
end

