-- ==== Sys2Proof/Config.lean ====
section
/-! DEFINITION. What the instance fixes (configuration Z-REF, R1 to R3, R65, R69, R115), and the free values: constants
without a body for what the manual leaves to Lernos, to the fuses or open (assumption log 5, 7, 8). -/

namespace Sys2Proof

/-! ### Free values (no body: nothing can be proved of them) -/

/-- What a sub holds after a value outside its type is written to it where the manual states no wrap (log 8). -/
opaque Config.unrepresentable : Nat → Int → Int

/-- Whether a quotient whose rounding the manual does not state is taken one above its floor (site, numerator,
denominator; log 7). -/
opaque Config.roundUp : Nat → Int → Int → Bool

/-- A value the manual leaves open, by site and by the count of free values taken so far (State.free). -/
opaque Config.freeValue : Nat → Nat → Int

/-- Bytes the manual leaves open (site, count, place). -/
opaque Config.freeByte : Nat → Nat → Nat → Byte

/-- What the manual leaves open in a dump, by site and place (R430 to R433). -/
opaque Config.dumpOpen : Nat → Nat → Nat
/-- The transport whose CURSOR and COMMIT a hub cut image shows: the manual does not say whose (R432). -/
opaque Config.dumpView : Fin 4

/-- SHA-384 of a byte string. -/
opaque Config.sha384 : List Byte → Vector Byte 48

/-- ECDSA P-384 verification: public key, message, signature. -/
opaque Config.ecdsaVerify : List Byte → List Byte → List Byte → Bool

/-- Whether an AES-256-GCM tag is the tag of a text under the product image key of an epoch: epoch, IV, additional data, text,
tag (R378). -/
opaque Config.gcmGood : Nat → List Byte → List Byte → List Byte → List Byte → Bool
/-- The fused root hash (R378). -/
opaque Config.rootHash : Vector Byte 48

/-- The nominal voltage of the full-scale channel, µV (R276). -/
opaque Config.hkFullScale : Nat
/-- The reading of the converter die sensor by its voltage, 1/16 °C: the manual gives its diode no formula (R274). -/
opaque Config.dieSensor : Int → Int

/-! ### Lernos, fuses and measured constants -/

/-- 1000:05. -/
opaque Config.lernosBuild : Word32
/-- 1000:06. -/
opaque Config.configHash : Word64
/-- 1000:07 (fused). -/
opaque Config.serial : Word64
/-- 1000:0A, Onyden's enterprise number. -/
opaque Config.ianaPen : Word32
/-- Behind 1000:0B, measured at start (R82). -/
opaque Config.ringLatRaw : Nat
/-- 1000:0C, measured. -/
opaque Config.phaseCtlLat : BitVec 16
/-- 1300:01 as first fused. -/
opaque Config.lcFused : Fin 5
/-- 1300:03 as first fused. -/
opaque Config.lcFusesLeft : Byte
/-- 1301:01. -/
opaque Config.keyStatus : BitVec 3
/-- 1301:02, the first 8 bytes of the root's hash. -/
def Config.rootId : Nat := (Config.rootHash.toList.take 8).foldr (fun b a => b.toNat + 256 * a) 0
/-- 1301:03. -/
opaque Config.keyEpoch : BitVec 16

/-- The expected signature of a native-test block, fused (R451). -/
opaque Config.bExpect : Nat → Word32
/-- LC_NONCE as first drawn (R457). -/
opaque Config.nonce : Word64

/-- The words of 6010 as Lernos holds them (R269). -/
opaque Config.opTables : Nat → Word64
/-- Behind the Kettle parameters of a partition: ANCHOR (R294). -/
opaque Config.ktAnchor : Nat → Fin 32
/-- Behind RF. -/
opaque Config.ktRfRaw : Nat → Nat
/-- Behind TAU_F. -/
opaque Config.ktTauFRaw : Nat → Nat
/-- Behind T_LIMIT. -/
opaque Config.ktTLimitRaw : Nat → Nat
/-- Behind RS. -/
opaque Config.ktRsRaw : Nat → Nat
/-- Behind TAU_S. -/
opaque Config.ktTauSRaw : Nat → Nat
/-- RF of a partition in 0.001 °C/W, 1 to 10,000 (R294). -/
def Config.ktRf (p : Nat) : Nat := 1 + Config.ktRfRaw p % 10000
/-- TAU_F of a partition in ns, 20,000 to 10,000,000. -/
def Config.ktTauF (p : Nat) : Nat := 20000 + Config.ktTauFRaw p % 9980001
/-- T_LIMIT of a partition in 1/16 °C, 640 to 1,920. -/
def Config.ktTLimit (p : Nat) : Nat := 640 + Config.ktTLimitRaw p % 1281
/-- RS of a die diode in 0.001 °C/W, 1 to 10,000. -/
def Config.ktRs (d : Nat) : Nat := 1 + Config.ktRsRaw d % 10000
/-- TAU_S of a die diode in µs, 1,000 to 10,000,000. -/
def Config.ktTauS (d : Nat) : Nat := 1000 + Config.ktTauSRaw d % 9999001
/-- The neighbours of a channel, 5000+c:0B (R277): [8j+7:8j], 0xFF none. -/
opaque Config.hkNb : Nat → Word32
/-- The kind of a housekeeping channel in Z-REF (R273). -/
def Config.chKind (c : Nat) : Nat :=
  if c < 32 then 1 else if c < 40 then 2 else if c < 48 then 3 else if c < 64 then 4 else if c < 96 then 5 else if c < 100 then 6
  else if c < 103 then 7 else if c < 104 then 8 else 0
/-- The pair, input or phase number of a housekeeping channel in Z-REF (R273). -/
def Config.chSource (c : Nat) : Nat :=
  if c < 48 then c else if c < 64 then c - 48 else if c < 96 then c - 64 else if c < 100 then c - 96 else if c < 103 then c - 100 else 0
/-- GROUP_RAILS in Z-REF (R244): [15:8] rail B, [7:0] rail A, 0xFF none. -/
def Config.groupRails (g : Nat) : Nat :=
  match g with
  | 0 => 0xFF00 | 1 => 0xFF01 | 2 => 0x0502 | 3 => 0xFF04 | 4 => 0xFF06 | 5 => 0xFF07
  | _ => 0xFFFF
/-- The operating-point group of a rail in Z-REF (R244); rail 3 has none. -/
def Config.groupOfRail (n : Nat) : Nat :=
  match n with
  | 0 => 0 | 1 => 1 | 2 => 2 | 5 => 2 | 4 => 3 | 6 => 4 | 7 => 5
  | _ => 0xFF
/-- The domain of a partition, 6100+p:01. -/
opaque Config.ptCd : Nat → Fin 64
/-- Behind the class of a partition. -/
opaque Config.ptClass : Nat → Fin 4
/-- Behind PT_LEAK_MW. -/
opaque Config.ptLeakRaw : Nat → Nat
/-- Behind PT_DEFAULT_MW. -/
opaque Config.ptDefaultRaw : Nat → Nat
/-- The partition of a queue, 8100+q:07 (R336). -/
opaque Config.qPt : Nat → Fin 128
/-- 8000+p:06. -/
opaque Config.ptActW : Nat → BitVec 16
/-- 8000+p:07. -/
opaque Config.ptClkW : Nat → BitVec 16
/-- Behind 8000+p:08. -/
opaque Config.eLeakRaw : Nat → Nat
/-- 8100+q:06. -/
opaque Config.qWeight : Nat → BitVec 16

/-! ### Rails and phases in Z-REF (R3, R69, R115) -/

/-- The rail of a phase (R3). -/
def Config.phRail (p : Nat) : Nat :=
  if p < 64 then 0 else if p < 74 then 1 else if p < 82 then 2 else if p < 86 then 3 else if p < 90 then 4
  else if p < 92 then 5 else if p < 94 then 6 else 7

/-- First phase and number of phases of a rail (R3). -/
def Config.phSpan (n : Nat) : Nat × Nat :=
  match n with
  | 0 => (0, 64) | 1 => (64, 10) | 2 => (74, 8) | 3 => (82, 4) | 4 => (86, 4) | 5 => (90, 2) | 6 => (92, 2)
  | _ => (94, 2)

/-- Phases assigned to a rail (R3). -/
def Config.phCount (n : Nat) : Nat := (Config.phSpan n).2

/-- The phases of a rail in ascending order (R3, R119). -/
def Config.phasesOf (n : Nat) : List Nat := List.range' (Config.phSpan n).1 (Config.phSpan n).2

/-- 0 type A, 1 type D (R115). -/
def Config.phType (p : Nat) : Nat := if p < 32 then 0 else 1

/-- PH_RATING in 10 mA (R115). -/
def Config.phRating (p : Nat) : Nat := if p < 64 then 4500 else 4000

/-- VSTART in 250 µV (R115). -/
def Config.vstart (n : Nat) : Nat :=
  match n with
  | 0 => 3200 | 1 => 3400 | 2 => 4400 | 3 => 7200 | 4 => 3600 | 5 => 3000 | 6 => 4800 | _ => 3600

/-- VSET_MAX in 250 µV (R115). -/
def Config.vsetMax (n : Nat) : Nat :=
  match n with
  | 0 => 3800 | 1 => 3800 | 2 => 4800 | 3 => 7560 | 4 => 4000 | 5 => 3400 | 6 => 5200 | _ => 4000

/-- VSET_LIMIT: VSET_MAX + 10 % in Z-REF (R149). -/
def Config.vsetLimit (n : Nat) : Nat := Config.vsetMax n * 11 / 10

/-- VFLOOR in 250 µV (R115). -/
def Config.vfloor (n : Nat) : Nat :=
  match n with
  | 0 => 2200 | 1 => 2400 | 2 => 4000 | 3 => 6480 | 4 => 3200 | 5 => 2800 | 6 => 4400 | _ => 3400

/-- ILIM_RAIL in 10 mA (R115). -/
def Config.ilimRail (n : Nat) : Nat :=
  match n with
  | 0 => 260000 | 1 => 30000 | 2 => 24000 | 3 => 8000 | 4 => 12000 | 5 => 6000 | 6 => 4000 | _ => 2000

/-- FSW in kHz (R115). -/
def Config.fsw (n : Nat) : Nat := if n = 0 then 1000 else 800

/-- T_SOFTSTART in 10 µs (R115). -/
def Config.tSoftstart (n : Nat) : Nat := if n = 0 then 200 else if n = 7 then 50 else 100

/-- The sense pairs assigned to a rail (R69). -/
def Config.snsAssigned (n : Nat) : Nat := if n = 0 then 0xFF else 2 ^ (n + 7)

/-- Behind 2000+n:0C. -/
opaque Config.rippleGainRaw : Nat → Nat
/-- 2000+n:0C, within its range. -/
def Config.rippleGain (n : Nat) : Nat := 1 + Config.rippleGainRaw n % 10000

/-! ### Domains, partitions, lanes and power domains (Lernos) -/

/-- Behind CD_RAIL: one of the seven rails other than MISC (R154). -/
opaque Config.cdRailRaw : Nat → Fin 7
/-- 3000+nn:08 CD_RAIL; no clock domain is on rail 3 in Z-REF (R154). -/
def Config.cdRail (cd : Nat) : Nat := if (Config.cdRailRaw cd).val < 3 then (Config.cdRailRaw cd).val else (Config.cdRailRaw cd).val + 1
/-- Behind F_TABLE. -/
opaque Config.fTableRaw : Nat → Nat
/-- 3000+nn:04 F_TABLE in MHz, 50 to 4,000. -/
def Config.fTable (cd : Nat) : Nat := 50 + Config.fTableRaw cd % 3951
/-- MIN_CODE at the default F_TABLE (R190). -/
def Config.minCode0 (cd : Nat) : Nat := (64 * 50 + Config.fTable cd - 1) / Config.fTable cd
/-- Behind ALT_FREQ: none where ALT is not connected. -/
opaque Config.altFreqRaw : Nat → Option Nat
/-- 3000+nn:0B ALT_FREQ in MHz, 0 = not connected (R195). -/
def Config.altFreq (cd : Nat) : Nat := match Config.altFreqRaw cd with | some f => 50 + f % 3951 | none => 0
/-- 3000+nn:16. -/
opaque Config.vptBase : Nat → BitVec 16
/-- 3000+nn:40–5F, one field per precision mode (fused, R193). -/
opaque Config.fmaxFused : Nat → Nat → Word64
/-- 3210+l:01 LANE_CD (R57). -/
opaque Config.laneCd : Nat → Fin 64
/-- Behind 3210+l:10–1F. -/
opaque Config.qmapRaw : Nat → Nat → Option (Fin 512)
/-- 3210+l:10–1F QMAP, 0xFFFF where unmapped. -/
def Config.qmap (l k : Nat) : Nat := match Config.qmapRaw l k with | some q => q.val | none => 0xFFFF
/-- 3100+nn:05. -/
opaque Config.pdRail : Nat → Fin 8
/-- 3100+nn:06. -/
opaque Config.pdCd : Nat → Fin 64
/-- Whether a power domain is built with retention cells (R206). -/
opaque Config.pdRetCells : Nat → Bool
/-- 3100+nn:07 where there are retention cells. -/
opaque Config.retModeRaw : Nat → Fin 2
/-- 3100+nn:07 RET_MODE. -/
def Config.retMode (d : Nat) : Nat := (Config.retModeRaw d).val
/-- 3300:0A COMP_DIODE. -/
opaque Config.compDiode : Fin 48
/-- Behind 4000+n:40–7B. -/
opaque Config.coefRaw : Nat → Nat → BitVec 20
/-- Behind 4000+n:40–7B: the exponent shared by the five subs of a stage (R221). -/
opaque Config.coefExp : Nat → Nat → BitVec 6
/-- 4000+n:40–7B COEF: [25:20] exponent, [19:0] mantissa (R86). -/
def Config.coef (n j : Nat) : Nat := (Config.coefExp n (j / 5)).toNat * 2 ^ 20 + (Config.coefRaw n j).toNat

end Sys2Proof
end

