-- ==== Sys2Proof/Machine/Regs.lean ====
section
/-! DEFINITION. The keys of the object dictionary (spec/03, R84, R85): index * 256 + sub, one name per sub, as the manual's entry tables list them. -/

namespace Sys2Proof.Machine

/-- 1000:01 VENDOR, STR, RO (spec/03, Entries 1000–13FF). -/
@[reducible] def Ident.vendor : Nat := 0x1000 * 256 + (0x01)
/-- 1000:02 FAMILY, STR, RO (spec/03, Entries 1000–13FF). -/
@[reducible] def Ident.family : Nat := 0x1000 * 256 + (0x02)
/-- 1000:03 MEMBER, STR, RO (spec/03, Entries 1000–13FF). -/
@[reducible] def Ident.member : Nat := 0x1000 * 256 + (0x03)
/-- 1000:04 BLOCK_VERSION, U16, RO (spec/03, Entries 1000–13FF). -/
@[reducible] def Ident.blockVersion : Nat := 0x1000 * 256 + (0x04)
/-- 1000:05 LERNOS_BUILD, U32, RO (spec/03, Entries 1000–13FF). -/
@[reducible] def Ident.lernosBuild : Nat := 0x1000 * 256 + (0x05)
/-- 1000:06 CONFIG_HASH, U64, RO (spec/03, Entries 1000–13FF). -/
@[reducible] def Ident.configHash : Nat := 0x1000 * 256 + (0x06)
/-- 1000:07 SERIAL, U64, RO (spec/03, Entries 1000–13FF). -/
@[reducible] def Ident.serial : Nat := 0x1000 * 256 + (0x07)
/-- 1000:08 LEGACY_VERSION, U16, RO (spec/03, Entries 1000–13FF). -/
@[reducible] def Ident.legacyVersion : Nat := 0x1000 * 256 + (0x08)
/-- 1000:09 JTAG_IDCODE, U32, RO (spec/03, Entries 1000–13FF). -/
@[reducible] def Ident.jtagIdcode : Nat := 0x1000 * 256 + (0x09)
/-- 1000:0A IANA_PEN, U32, RO (spec/03, Entries 1000–13FF). -/
@[reducible] def Ident.ianaPen : Nat := 0x1000 * 256 + (0x0A)
/-- 1000:0B RING_LAT, U16, RO (spec/03, Entries 1000–13FF). -/
@[reducible] def Ident.ringLat : Nat := 0x1000 * 256 + (0x0B)
/-- 1000:0C PHASE_CTL_LAT, U16, RO (spec/03, Entries 1000–13FF). -/
@[reducible] def Ident.phaseCtlLat : Nat := 0x1000 * 256 + (0x0C)

/-- 1001:01 NRAIL, U8, RO (spec/03, Entries 1000–13FF). -/
@[reducible] def GenPar.nrail : Nat := 0x1001 * 256 + (0x01)
/-- 1001:02 NPHASE, U8, RO (spec/03, Entries 1000–13FF). -/
@[reducible] def GenPar.nphase : Nat := 0x1001 * 256 + (0x02)
/-- 1001:03 NCD, U8, RO (spec/03, Entries 1000–13FF). -/
@[reducible] def GenPar.ncd : Nat := 0x1001 * 256 + (0x03)
/-- 1001:04 NPD, U8, RO (spec/03, Entries 1000–13FF). -/
@[reducible] def GenPar.npd : Nat := 0x1001 * 256 + (0x04)
/-- 1001:05 NPT, U8, RO (spec/03, Entries 1000–13FF). -/
@[reducible] def GenPar.npt : Nat := 0x1001 * 256 + (0x05)
/-- 1001:06 NQ, U16, RO (spec/03, Entries 1000–13FF). -/
@[reducible] def GenPar.nq : Nat := 0x1001 * 256 + (0x06)
/-- 1001:07 NUBLANE, U8, RO (spec/03, Entries 1000–13FF). -/
@[reducible] def GenPar.nublane : Nat := 0x1001 * 256 + (0x07)
/-- 1001:08 NSNARE, U16, RO (spec/03, Entries 1000–13FF). -/
@[reducible] def GenPar.nsnare : Nat := 0x1001 * 256 + (0x08)
/-- 1001:09 NAGE, U8, RO (spec/03, Entries 1000–13FF). -/
@[reducible] def GenPar.nage : Nat := 0x1001 * 256 + (0x09)
/-- 1001:0A NHK, U8, RO (spec/03, Entries 1000–13FF). -/
@[reducible] def GenPar.nhk : Nat := 0x1001 * 256 + (0x0A)
/-- 1001:0B NDIODE, U8, RO (spec/03, Entries 1000–13FF). -/
@[reducible] def GenPar.ndiode : Nat := 0x1001 * 256 + (0x0B)
/-- 1001:0C NTHERM, U8, RO (spec/03, Entries 1000–13FF). -/
@[reducible] def GenPar.ntherm : Nat := 0x1001 * 256 + (0x0C)
/-- 1001:0D NVSNS, U8, RO (spec/03, Entries 1000–13FF). -/
@[reducible] def GenPar.nvsns : Nat := 0x1001 * 256 + (0x0D)
/-- 1001:0E NDL, U8, RO (spec/03, Entries 1000–13FF). -/
@[reducible] def GenPar.ndl : Nat := 0x1001 * 256 + (0x0E)
/-- 1001:0F NFP, U8, RO (spec/03, Entries 1000–13FF). -/
@[reducible] def GenPar.nfp : Nat := 0x1001 * 256 + (0x0F)
/-- 1001:10 Q_PER_LANE, U8, RO (spec/03, Entries 1000–13FF). -/
@[reducible] def GenPar.qPerLane : Nat := 0x1001 * 256 + (0x10)

/-- 1100:01 IRQ_STATUS, BF16, RO (spec/03, Entries 1000–13FF). -/
@[reducible] def Irq.irqStatus : Nat := 0x1100 * 256 + (0x01)
/-- 1100:02 IRQ_ENABLE, BF16, RWS (spec/03, Entries 1000–13FF). -/
@[reducible] def Irq.irqEnable : Nat := 0x1100 * 256 + (0x02)
/-- 1100:03 IRQ_CLEAR, BF16, WO (spec/03, Entries 1000–13FF). -/
@[reducible] def Irq.irqClear : Nat := 0x1100 * 256 + (0x03)
/-- 1100:04 IRQ_FORCE, BF16, WO (spec/03, Entries 1000–13FF). -/
@[reducible] def Irq.irqForce : Nat := 0x1100 * 256 + (0x04)

/-- 1101:01 ALARM_ACTIVE, BF16, RO (spec/03, Entries 1000–13FF). -/
@[reducible] def Alarm.alarmActive : Nat := 0x1101 * 256 + (0x01)
/-- 1101:02 ALARM_LATCHED, BF16, RC (spec/03, Entries 1000–13FF). -/
@[reducible] def Alarm.alarmLatched : Nat := 0x1101 * 256 + (0x02)
/-- 1101:03 RUNG2_RAILS, BF8, RO (spec/03, Entries 1000–13FF). -/
@[reducible] def Alarm.rung2Rails : Nat := 0x1101 * 256 + (0x03)
/-- 1101:04 RUNG4_RAILS, BF8, RO (spec/03, Entries 1000–13FF). -/
@[reducible] def Alarm.rung4Rails : Nat := 0x1101 * 256 + (0x04)
/-- 1101:05 RUNG5_RAILS, BF8, RO (spec/03, Entries 1000–13FF). -/
@[reducible] def Alarm.rung5Rails : Nat := 0x1101 * 256 + (0x05)

/-- 1102:01 LOST_TOTAL, U64, RO (spec/03, Entries 1000–13FF). -/
@[reducible] def Lost.lostTotal : Nat := 0x1102 * 256 + (0x01)
/-- 1102:02 LOST_INTERVALS, U32, RO (spec/03, Entries 1000–13FF). -/
@[reducible] def Lost.lostIntervals : Nat := 0x1102 * 256 + (0x02)
/-- 1102:03 LAST_START, U64, RO (spec/03, Entries 1000–13FF). -/
@[reducible] def Lost.lastStart : Nat := 0x1102 * 256 + (0x03)
/-- 1102:04 LAST_LENGTH, U64, RO (spec/03, Entries 1000–13FF). -/
@[reducible] def Lost.lastLength : Nat := 0x1102 * 256 + (0x04)
/-- 1102:05 YEAR_WINDOW, U64, RO (spec/03, Entries 1000–13FF). -/
@[reducible] def Lost.yearWindow : Nat := 0x1102 * 256 + (0x05)

/-- 1110:01 LADDER_LEVEL, U8, RO (spec/03, Entries 1000–13FF). -/
@[reducible] def Ladder.ladderLevel : Nat := 0x1110 * 256 + (0x01)
/-- 1110:02 LEVEL_SINCE, U64, RO (spec/03, Entries 1000–13FF). -/
@[reducible] def Ladder.levelSince : Nat := 0x1110 * 256 + (0x02)
/-- 1110:03 RUNGS_ACTIVE, BF8, RO (spec/03, Entries 1000–13FF). -/
@[reducible] def Ladder.rungsActive : Nat := 0x1110 * 256 + (0x03)
/-- 1110:04 LEVEL_CHANGES, U32, RC (spec/03, Entries 1000–13FF). -/
@[reducible] def Ladder.levelChanges : Nat := 0x1110 * 256 + (0x04)

/-- 1111:01–08 SRC_RAIL_0 to _7, BF8, RO (spec/03, Entries 1000–13FF). -/
@[reducible] def SrcRail.srcRail (k : Nat) : Nat := 0x1111 * 256 + (0x01 + k)

/-- 1112:01–04 SRC_CD, U64, RO (spec/03, Entries 1000–13FF). -/
@[reducible] def SrcCd.srcCd (k : Nat) : Nat := 0x1112 * 256 + (0x01 + k)

/-- 1113:01–08 SRC_PT, U64, RO (spec/03, Entries 1000–13FF). -/
@[reducible] def SrcPt.srcPt (k : Nat) : Nat := 0x1113 * 256 + (0x01 + k)

/-- 1114:01–06 SRC_PD, U64, RO (spec/03, Entries 1000–13FF). -/
@[reducible] def SrcPd.srcPd (k : Nat) : Nat := 0x1114 * 256 + (0x01 + k)

/-- 1200:01 XPORT_EN, BF8, RWS (spec/03, Entries 1000–13FF). -/
@[reducible] def Xport.xportEn : Nat := 0x1200 * 256 + (0x01)
/-- 1200:02 MCTP_EID, U8, RO (spec/03, Entries 1000–13FF). -/
@[reducible] def Xport.mctpEid : Nat := 0x1200 * 256 + (0x02)
/-- 1200:03 MBX_DISCARDS, U32, RC (spec/03, Entries 1000–13FF). -/
@[reducible] def Xport.mbxDiscards : Nat := 0x1200 * 256 + (0x03)
/-- 1200:04 PEC_ERRORS, U32, RC (spec/03, Entries 1000–13FF). -/
@[reducible] def Xport.pecErrors : Nat := 0x1200 * 256 + (0x04)
/-- 1200:05 I3C_DYN_ADDR, U8, RO (spec/03, Entries 1000–13FF). -/
@[reducible] def Xport.i3cDynAddr : Nat := 0x1200 * 256 + (0x05)
/-- 1200:06 MSG_DISCARDS, U32, RC (spec/03, Entries 1000–13FF). -/
@[reducible] def Xport.msgDiscards : Nat := 0x1200 * 256 + (0x06)
/-- 1200:07 NOTIFY_EID, U8, RWS (spec/03, Entries 1000–13FF). -/
@[reducible] def Xport.notifyEid : Nat := 0x1200 * 256 + (0x07)

/-- 1201:01 LEGACY_EN, U8, RWS (spec/03, Entries 1000–13FF). -/
@[reducible] def Legacy.legacyEn : Nat := 0x1201 * 256 + (0x01)
/-- 1201:02 LEGACY_COLLISIONS, U32, RC (spec/03, Entries 1000–13FF). -/
@[reducible] def Legacy.legacyCollisions : Nat := 0x1201 * 256 + (0x02)
/-- 1201:03 LEGACY_UNIMPL, U32, RC (spec/03, Entries 1000–13FF). -/
@[reducible] def Legacy.legacyUnimpl : Nat := 0x1201 * 256 + (0x03)

/-- 1202:01 DICT_INFLIGHT, U8, RO (spec/03, Entries 1000–13FF). -/
@[reducible] def DictSt.dictInflight : Nat := 0x1202 * 256 + (0x01)
/-- 1202:02 BUSY_COUNT, U32, RC (spec/03, Entries 1000–13FF). -/
@[reducible] def DictSt.busyCount : Nat := 0x1202 * 256 + (0x02)
/-- 1202:03 LAST_REJECT, BF32, RO (spec/03, Entries 1000–13FF). -/
@[reducible] def DictSt.lastReject : Nat := 0x1202 * 256 + (0x03)
/-- 1202:04 REJECT_COUNT, U32, RC (spec/03, Entries 1000–13FF). -/
@[reducible] def DictSt.rejectCount : Nat := 0x1202 * 256 + (0x04)

/-- 1210:01 SUBMIT_A, U64, WO (spec/03, Entries 1000–13FF). -/
@[reducible] def Act.submitA : Nat := 0x1210 * 256 + (0x01)
/-- 1210:02 SUBMIT_B, U64, WO (spec/03, Entries 1000–13FF). -/
@[reducible] def Act.submitB : Nat := 0x1210 * 256 + (0x02)
/-- 1210:03 ACT_INFLIGHT, U16, RO (spec/03, Entries 1000–13FF). -/
@[reducible] def Act.actInflight : Nat := 0x1210 * 256 + (0x03)
/-- 1210:04 SUB_DISCARDS, U32, RC (spec/03, Entries 1000–13FF). -/
@[reducible] def Act.subDiscards : Nat := 0x1210 * 256 + (0x04)
/-- 1210:05 LAST_DISCARD, U8, RO (spec/03, Entries 1000–13FF). -/
@[reducible] def Act.lastDiscard : Nat := 0x1210 * 256 + (0x05)
/-- 1210:06 TAG_SPLIT, U16, RWS (spec/03, Entries 1000–13FF). -/
@[reducible] def Act.tagSplit : Nat := 0x1210 * 256 + (0x06)

/-- 1220+n:01 CQ_POP, U64, RC (spec/03, Entries 1000–13FF). -/
@[reducible] def Ring.cqPop (n : Nat) : Nat := (0x1220 + n) * 256 + (0x01)
/-- 1220+n:02 CQ_PEEK, U64, RO (spec/03, Entries 1000–13FF). -/
@[reducible] def Ring.cqPeek (n : Nat) : Nat := (0x1220 + n) * 256 + (0x02)
/-- 1220+n:03 CQ_DEPTH, U16, RO (spec/03, Entries 1000–13FF). -/
@[reducible] def Ring.cqDepth (n : Nat) : Nat := (0x1220 + n) * 256 + (0x03)
/-- 1220+n:04 CQ_THRESH, U16, RW (spec/03, Entries 1000–13FF). -/
@[reducible] def Ring.cqThresh (n : Nat) : Nat := (0x1220 + n) * 256 + (0x04)

/-- 1300:01 LC_STATE, U8, RO (spec/03, Entries 1000–13FF). -/
@[reducible] def Lc.lcState : Nat := 0x1300 * 256 + (0x01)
/-- 1300:02 LC_REQUEST, U8, CMD (spec/03, Entries 1000–13FF). -/
@[reducible] def Lc.lcRequest : Nat := 0x1300 * 256 + (0x02)
/-- 1300:03 LC_FUSES_LEFT, U8, RO (spec/03, Entries 1000–13FF). -/
@[reducible] def Lc.lcFusesLeft : Nat := 0x1300 * 256 + (0x03)

/-- 1301:01 KEY_STATUS, BF8, RO (spec/03, Entries 1000–13FF). -/
@[reducible] def KeyLad.keyStatus : Nat := 0x1301 * 256 + (0x01)
/-- 1301:02 ROOT_ID, U64, RO (spec/03, Entries 1000–13FF). -/
@[reducible] def KeyLad.rootId : Nat := 0x1301 * 256 + (0x02)
/-- 1301:03 KEY_EPOCH, U16, RO (spec/03, Entries 1000–13FF). -/
@[reducible] def KeyLad.keyEpoch : Nat := 0x1301 * 256 + (0x03)
/-- 1301:04 REVOKED, BF32, RO (spec/03, Entries 1000–13FF). -/
@[reducible] def KeyLad.revoked : Nat := 0x1301 * 256 + (0x04)

/-- 2000+n:01 RAIL_STATE, U8, RO (R149). -/
@[reducible] def Rail.railState (n : Nat) : Nat := (0x2000 + n) * 256 + (0x01)
/-- 2000+n:02 RAIL_CTRL, U8, CMD (R149). -/
@[reducible] def Rail.railCtrl (n : Nat) : Nat := (0x2000 + n) * 256 + (0x02)
/-- 2000+n:03 VSET_DEMAND, U16, RW (R149). -/
@[reducible] def Rail.vsetDemand (n : Nat) : Nat := (0x2000 + n) * 256 + (0x03)
/-- 2000+n:04 VSET_RES, U16, RO (R149). -/
@[reducible] def Rail.vsetRes (n : Nat) : Nat := (0x2000 + n) * 256 + (0x04)
/-- 2000+n:05 VSTART, U16, RWS (R149). -/
@[reducible] def Rail.vstart (n : Nat) : Nat := (0x2000 + n) * 256 + (0x05)
/-- 2000+n:06 VSET_MAX, U16, RWS (R149). -/
@[reducible] def Rail.vsetMax (n : Nat) : Nat := (0x2000 + n) * 256 + (0x06)
/-- 2000+n:07 VSET_LIMIT, U16, RO (R149). -/
@[reducible] def Rail.vsetLimit (n : Nat) : Nat := (0x2000 + n) * 256 + (0x07)
/-- 2000+n:08 VFLOOR, U16, RWS (R149). -/
@[reducible] def Rail.vfloor (n : Nat) : Nat := (0x2000 + n) * 256 + (0x08)
/-- 2000+n:09 T_SOFTSTART, U16, RWS (R149). -/
@[reducible] def Rail.tSoftstart (n : Nat) : Nat := (0x2000 + n) * 256 + (0x09)
/-- 2000+n:0A T_SOFTSTOP, U16, RWS (R149). -/
@[reducible] def Rail.tSoftstop (n : Nat) : Nat := (0x2000 + n) * 256 + (0x0A)
/-- 2000+n:0B FSW, U16, RWS (R149). -/
@[reducible] def Rail.fsw (n : Nat) : Nat := (0x2000 + n) * 256 + (0x0B)
/-- 2000+n:0C RIPPLE_GAIN, U16, RWS (R149). -/
@[reducible] def Rail.rippleGain (n : Nat) : Nat := (0x2000 + n) * 256 + (0x0C)
/-- 2000+n:0D ILIM_RAIL, U32, RWS (R149). -/
@[reducible] def Rail.ilimRail (n : Nat) : Nat := (0x2000 + n) * 256 + (0x0D)
/-- 2000+n:0E ILIM_EFF, U32, RO (R149). -/
@[reducible] def Rail.ilimEff (n : Nat) : Nat := (0x2000 + n) * 256 + (0x0E)
/-- 2000+n:0F VOUT, U16, RO (R149). -/
@[reducible] def Rail.vout (n : Nat) : Nat := (0x2000 + n) * 256 + (0x0F)
/-- 2000+n:10 IOUT, U32, RO (R149). -/
@[reducible] def Rail.iout (n : Nat) : Nat := (0x2000 + n) * 256 + (0x10)
/-- 2000+n:11 POUT, U32, RO (R149). -/
@[reducible] def Rail.pout (n : Nat) : Nat := (0x2000 + n) * 256 + (0x11)
/-- 2000+n:12 VIN_BUS, U16, RO (R149). -/
@[reducible] def Rail.vinBus (n : Nat) : Nat := (0x2000 + n) * 256 + (0x12)
/-- 2000+n:13 PH_ACTIVE, U8, RO (R149). -/
@[reducible] def Rail.phActive (n : Nat) : Nat := (0x2000 + n) * 256 + (0x13)
/-- 2000+n:14 PH_AVAIL, U8, RO (R149). -/
@[reducible] def Rail.phAvail (n : Nat) : Nat := (0x2000 + n) * 256 + (0x14)
/-- 2000+n:15 PH_FLOOR, U8, RO (R149). -/
@[reducible] def Rail.phFloor (n : Nat) : Nat := (0x2000 + n) * 256 + (0x15)
/-- 2000+n:16 PH_MIN, U8, RWS (R149). -/
@[reducible] def Rail.phMin (n : Nat) : Nat := (0x2000 + n) * 256 + (0x16)
/-- 2000+n:17 SHED_EN, U8, RWS (R149). -/
@[reducible] def Rail.shedEn (n : Nat) : Nat := (0x2000 + n) * 256 + (0x17)
/-- 2000+n:18 SHED_LO, U8, RWS (R149). -/
@[reducible] def Rail.shedLo (n : Nat) : Nat := (0x2000 + n) * 256 + (0x18)
/-- 2000+n:19 ADD_HI, U8, RWS (R149). -/
@[reducible] def Rail.addHi (n : Nat) : Nat := (0x2000 + n) * 256 + (0x19)
/-- 2000+n:1A SHED_DWELL, U16, RWS (R149). -/
@[reducible] def Rail.shedDwell (n : Nat) : Nat := (0x2000 + n) * 256 + (0x1A)
/-- 2000+n:1B PF_BRUSH, U8, RWS (R149). -/
@[reducible] def Rail.pfBrush (n : Nat) : Nat := (0x2000 + n) * 256 + (0x1B)
/-- 2000+n:1C OV_MARGIN, U16, RWS (R149). -/
@[reducible] def Rail.ovMargin (n : Nat) : Nat := (0x2000 + n) * 256 + (0x1C)
/-- 2000+n:1D UV_MARGIN, U16, RWS (R149). -/
@[reducible] def Rail.uvMargin (n : Nat) : Nat := (0x2000 + n) * 256 + (0x1D)
/-- 2000+n:1E UV_TIME, U16, RWS (R149). -/
@[reducible] def Rail.uvTime (n : Nat) : Nat := (0x2000 + n) * 256 + (0x1E)
/-- 2000+n:1F SNS_MASK, BF16, RWS (R149). -/
@[reducible] def Rail.snsMask (n : Nat) : Nat := (0x2000 + n) * 256 + (0x1F)
/-- 2000+n:20 SNS_WORKING, BF16, RO (R149). -/
@[reducible] def Rail.snsWorking (n : Nat) : Nat := (0x2000 + n) * 256 + (0x20)
/-- 2000+n:21 FAULT_CAUSE, BF16, RO (R149). -/
@[reducible] def Rail.faultCause (n : Nat) : Nat := (0x2000 + n) * 256 + (0x21)
/-- 2000+n:22 LATCH_TIME, U64, RO (R149). -/
@[reducible] def Rail.latchTime (n : Nat) : Nat := (0x2000 + n) * 256 + (0x22)
/-- 2000+n:23 VPRE, U16, RO (R149). -/
@[reducible] def Rail.vpre (n : Nat) : Nat := (0x2000 + n) * 256 + (0x23)
/-- 2000+n:24 RETIRE_CLEAR, U8, CMD (R149). -/
@[reducible] def Rail.retireClear (n : Nat) : Nat := (0x2000 + n) * 256 + (0x24)
/-- 2000+n:25 ILIM_HITS, U32, RC (R149). -/
@[reducible] def Rail.ilimHits (n : Nat) : Nat := (0x2000 + n) * 256 + (0x25)
/-- 2000+n:26 RAIL_STARTS, U32, RO (R149). -/
@[reducible] def Rail.railStarts (n : Nat) : Nat := (0x2000 + n) * 256 + (0x26)

/-- 2000:30 IBC_CTRL, U8, CMD (R150). -/
@[reducible] def Ibc.ibcCtrl : Nat := 0x2000 * 256 + (0x30)
/-- 2000:31 IBC_VIN, U32, RO (R150). -/
@[reducible] def Ibc.ibcVin : Nat := 0x2000 * 256 + (0x31)
/-- 2000:32 IBC_IIN, U32, RO (R150). -/
@[reducible] def Ibc.ibcIin : Nat := 0x2000 * 256 + (0x32)
/-- 2000:33 IBC_STATUS, U16, RO (R150). -/
@[reducible] def Ibc.ibcStatus : Nat := 0x2000 * 256 + (0x33)
/-- 2000:34 IBC_POLL, U16, RWS (R150). -/
@[reducible] def Ibc.ibcPoll : Nat := 0x2000 * 256 + (0x34)
/-- 2000:35 IBC_NACKS, U32, RC (R150). -/
@[reducible] def Ibc.ibcNacks : Nat := 0x2000 * 256 + (0x35)
/-- 2000:36 IBC_RATIO, FXU2.14, RWS (R150). -/
@[reducible] def Ibc.ibcRatio : Nat := 0x2000 * 256 + (0x36)
/-- 2000:37 BUS_UV, U16, RWS (R150). -/
@[reducible] def Ibc.busUv : Nat := 0x2000 * 256 + (0x37)
/-- 2000:38 IBC_MISMATCH, U32, RC (R150). -/
@[reducible] def Ibc.ibcMismatch : Nat := 0x2000 * 256 + (0x38)

/-- 2800+n:01 PH_STATE, U8, RO (R151). -/
@[reducible] def Ph.phState (n : Nat) : Nat := (0x2800 + n) * 256 + (0x01)
/-- 2800+n:02 PH_RAIL, U8, RO (R151). -/
@[reducible] def Ph.phRail (n : Nat) : Nat := (0x2800 + n) * 256 + (0x02)
/-- 2800+n:03 PH_TYPE, U8, RO (R151). -/
@[reducible] def Ph.phType (n : Nat) : Nat := (0x2800 + n) * 256 + (0x03)
/-- 2800+n:04 PH_RATING, U16, RWS (R151). -/
@[reducible] def Ph.phRating (n : Nat) : Nat := (0x2800 + n) * 256 + (0x04)
/-- 2800+n:05 ILIM_PH, U16, RWS (R151). -/
@[reducible] def Ph.ilimPh (n : Nat) : Nat := (0x2800 + n) * 256 + (0x05)
/-- 2800+n:06 PH_L, U16, RWS (R151). -/
@[reducible] def Ph.phL (n : Nat) : Nat := (0x2800 + n) * 256 + (0x06)
/-- 2800+n:07 IPH, S16, RO (R151). -/
@[reducible] def Ph.iph (n : Nat) : Nat := (0x2800 + n) * 256 + (0x07)
/-- 2800+n:08 TSTG, S16, RO (R151). -/
@[reducible] def Ph.tstg (n : Nat) : Nat := (0x2800 + n) * 256 + (0x08)
/-- 2800+n:09 TON, U16, RO (R151). -/
@[reducible] def Ph.ton (n : Nat) : Nat := (0x2800 + n) * 256 + (0x09)
/-- 2800+n:0A TRIM, S16, RO (R151). -/
@[reducible] def Ph.trim (n : Nat) : Nat := (0x2800 + n) * 256 + (0x0A)
/-- 2800+n:0B RETIRE_CAUSE, U8, RO (R151). -/
@[reducible] def Ph.retireCause (n : Nat) : Nat := (0x2800 + n) * 256 + (0x0B)
/-- 2800+n:0C RETIRE_TIME, U64, RO (R151). -/
@[reducible] def Ph.retireTime (n : Nat) : Nat := (0x2800 + n) * 256 + (0x0C)
/-- 2800+n:0D PH_CTRL, U8, CMD (R151). -/
@[reducible] def Ph.phCtrl (n : Nat) : Nat := (0x2800 + n) * 256 + (0x0D)
/-- 2800+n:0E FIRINGS, U64, RO (R151). -/
@[reducible] def Ph.firings (n : Nat) : Nat := (0x2800 + n) * 256 + (0x0E)
/-- 2800+n:0F ILIM_HITS, U32, RC (R151). -/
@[reducible] def Ph.ilimHits (n : Nat) : Nat := (0x2800 + n) * 256 + (0x0F)
/-- 2800+n:10 PLAUS_FAILS, U32, RC (R151). -/
@[reducible] def Ph.plausFails (n : Nat) : Nat := (0x2800 + n) * 256 + (0x10)
/-- 2800+n:11 TLM_DISCARDS, U32, RC (R151). -/
@[reducible] def Ph.tlmDiscards (n : Nat) : Nat := (0x2800 + n) * 256 + (0x11)
/-- 2800+n:12 TLM_MISSED, U32, RC (R151). -/
@[reducible] def Ph.tlmMissed (n : Nat) : Nat := (0x2800 + n) * 256 + (0x12)
/-- 2800+n:13 OT_WARNINGS, U32, RC (R151). -/
@[reducible] def Ph.otWarnings (n : Nat) : Nat := (0x2800 + n) * 256 + (0x13)
/-- 2800+n:14 UV_EXCLUSIONS, U32, RC (R151). -/
@[reducible] def Ph.uvExclusions (n : Nat) : Nat := (0x2800 + n) * 256 + (0x14)

/-- 3200:01 UB_EN, U8, RWS (R177). -/
@[reducible] def Upbeat.ubEn : Nat := 0x3200 * 256 + (0x01)
/-- 3200:02 WINDOW, U8, RO (R177). -/
@[reducible] def Upbeat.window : Nat := 0x3200 * 256 + (0x02)
/-- 3200:03 LANE_LAT, U8, RO (R177). -/
@[reducible] def Upbeat.laneLat : Nat := 0x3200 * 256 + (0x03)
/-- 3200:04 PLAN_LAT, U8, RO (R177). -/
@[reducible] def Upbeat.planLat : Nat := 0x3200 * 256 + (0x04)
/-- 3200:05 MATCH_LAT, U8, RO (R177). -/
@[reducible] def Upbeat.matchLat : Nat := 0x3200 * 256 + (0x05)
/-- 3200:06 PREC_IDLE, U16, RWS (R177). -/
@[reducible] def Upbeat.precIdle : Nat := 0x3200 * 256 + (0x06)
/-- 3200:07 SN_TRIP_FP16, U8, RWS (R177). -/
@[reducible] def Upbeat.snTripFp16 : Nat := 0x3200 * 256 + (0x07)
/-- 3200:08 SN_TRIP_FP8, U8, RWS (R177). -/
@[reducible] def Upbeat.snTripFp8 : Nat := 0x3200 * 256 + (0x08)
/-- 3200:09 SN_TRIP_FP6, U8, RWS (R177). -/
@[reducible] def Upbeat.snTripFp6 : Nat := 0x3200 * 256 + (0x09)
/-- 3200:0A SN_TRIP_FP4, U8, RWS (R177). -/
@[reducible] def Upbeat.snTripFp4 : Nat := 0x3200 * 256 + (0x0A)
/-- 3200:0B SN_HYST, U8, RWS (R177). -/
@[reducible] def Upbeat.snHyst : Nat := 0x3200 * 256 + (0x0B)
/-- 3200:0C PREC_SCALE, BF32, RWS (R177). -/
@[reducible] def Upbeat.precScale : Nat := 0x3200 * 256 + (0x0C)
/-- 3200:0D UB_ACCEPTED, U64, RO (R177). -/
@[reducible] def Upbeat.ubAccepted : Nat := 0x3200 * 256 + (0x0D)

/-- 3201:01 CLASS_STEP_0, U32, RO (R178). -/
@[reducible] def ClassTab.classStep0 : Nat := 0x3201 * 256 + (0x01)
/-- 3201:02–10 CLASS_STEP_1 to _15, U32, RWS (R178). -/
@[reducible] def ClassTab.classStep (k : Nat) : Nat := 0x3201 * 256 + (0x02 + k)

/-- 3208+n:01 UB_MODE, U8, RWS (R179). -/
@[reducible] def UbRail.ubMode (n : Nat) : Nat := (0x3208 + n) * 256 + (0x01)
/-- 3208+n:02 PF_AMPS, U16, RWS (R179). -/
@[reducible] def UbRail.pfAmps (n : Nat) : Nat := (0x3208 + n) * 256 + (0x02)
/-- 3208+n:03 PF_TON_MAX, U16, RWS (R179). -/
@[reducible] def UbRail.pfTonMax (n : Nat) : Nat := (0x3208 + n) * 256 + (0x03)
/-- 3208+n:04 PF_PULSE_MAX, U8, RWS (R179). -/
@[reducible] def UbRail.pfPulseMax (n : Nat) : Nat := (0x3208 + n) * 256 + (0x04)
/-- 3208+n:05 PREPOS_GAIN, U16, RWS (R179). -/
@[reducible] def UbRail.preposGain (n : Nat) : Nat := (0x3208 + n) * 256 + (0x05)
/-- 3208+n:06 PREPOS_MAX, U16, RWS (R179). -/
@[reducible] def UbRail.preposMax (n : Nat) : Nat := (0x3208 + n) * 256 + (0x06)
/-- 3208+n:07 PREPOS_LEAD, U16, RWS (R179). -/
@[reducible] def UbRail.preposLead (n : Nat) : Nat := (0x3208 + n) * 256 + (0x07)
/-- 3208+n:08 PREPOS_HOLD, U16, RWS (R179). -/
@[reducible] def UbRail.preposHold (n : Nat) : Nat := (0x3208 + n) * 256 + (0x08)
/-- 3208+n:09 RETRACT_NS, U16, RWS (R179). -/
@[reducible] def UbRail.retractNs (n : Nat) : Nat := (0x3208 + n) * 256 + (0x09)
/-- 3208+n:0A OFFSET_NOW, U16, RO (R179). -/
@[reducible] def UbRail.offsetNow (n : Nat) : Nat := (0x3208 + n) * 256 + (0x0A)
/-- 3208+n:0B PF_PULSES, U64, RO (R179). -/
@[reducible] def UbRail.pfPulses (n : Nat) : Nat := (0x3208 + n) * 256 + (0x0B)
/-- 3208+n:0C PF_SUPPRESSED, U32, RC (R179). -/
@[reducible] def UbRail.pfSuppressed (n : Nat) : Nat := (0x3208 + n) * 256 + (0x0C)
/-- 3208+n:0D PF_DROPPED, U32, RC (R179). -/
@[reducible] def UbRail.pfDropped (n : Nat) : Nat := (0x3208 + n) * 256 + (0x0D)
/-- 3208+n:0E PF_TRUNC, U32, RC (R179). -/
@[reducible] def UbRail.pfTrunc (n : Nat) : Nat := (0x3208 + n) * 256 + (0x0E)
/-- 3208+n:0F ANN_SUPPRESSED, U32, RC (R179). -/
@[reducible] def UbRail.annSuppressed (n : Nat) : Nat := (0x3208 + n) * 256 + (0x0F)
/-- 3208+n:10 PENDING_PULSES, U16, RO (R179). -/
@[reducible] def UbRail.pendingPulses (n : Nat) : Nat := (0x3208 + n) * 256 + (0x10)

/-- 3210+n:01 LANE_CD, U8, RO (R180). -/
@[reducible] def Lane.laneCd (n : Nat) : Nat := (0x3210 + n) * 256 + (0x01)
/-- 3210+n:02 LANE_RAIL, U8, RO (R180). -/
@[reducible] def Lane.laneRail (n : Nat) : Nat := (0x3210 + n) * 256 + (0x02)
/-- 3210+n:03 LANE_EN, U8, RWS (R180). -/
@[reducible] def Lane.laneEn (n : Nat) : Nat := (0x3210 + n) * 256 + (0x03)
/-- 3210+n:04 ACCEPTED, U32, RC (R180). -/
@[reducible] def Lane.accepted (n : Nat) : Nat := (0x3210 + n) * 256 + (0x04)
/-- 3210+n:05 DISC_SPACING, U32, RC (R180). -/
@[reducible] def Lane.discSpacing (n : Nat) : Nat := (0x3210 + n) * 256 + (0x05)
/-- 3210+n:06 DISC_PARITY, U32, RC (R180). -/
@[reducible] def Lane.discParity (n : Nat) : Nat := (0x3210 + n) * 256 + (0x06)
/-- 3210+n:07 DISC_FORMAT, U32, RC (R180). -/
@[reducible] def Lane.discFormat (n : Nat) : Nat := (0x3210 + n) * 256 + (0x07)
/-- 3210+n:08 HITS, U32, RC (R180). -/
@[reducible] def Lane.hits (n : Nat) : Nat := (0x3210 + n) * 256 + (0x08)
/-- 3210+n:09 EARLY, U32, RC (R180). -/
@[reducible] def Lane.early (n : Nat) : Nat := (0x3210 + n) * 256 + (0x09)
/-- 3210+n:0A LATE_CAUGHT, U32, RC (R180). -/
@[reducible] def Lane.lateCaught (n : Nat) : Nat := (0x3210 + n) * 256 + (0x0A)
/-- 3210+n:0B LATE_RETRACTED, U32, RC (R180). -/
@[reducible] def Lane.lateRetracted (n : Nat) : Nat := (0x3210 + n) * 256 + (0x0B)
/-- 3210+n:0C CANCELS, U32, RC (R180). -/
@[reducible] def Lane.cancels (n : Nat) : Nat := (0x3210 + n) * 256 + (0x0C)
/-- 3210+n:0D SUPERSEDED, U32, RC (R180). -/
@[reducible] def Lane.superseded (n : Nat) : Nat := (0x3210 + n) * 256 + (0x0D)
/-- 3210+n:0E UNANNOUNCED, U32, RC (R180). -/
@[reducible] def Lane.unannounced (n : Nat) : Nat := (0x3210 + n) * 256 + (0x0E)
/-- 3210+n:0F LAST_WORD, U32, RO (R180). -/
@[reducible] def Lane.lastWord (n : Nat) : Nat := (0x3210 + n) * 256 + (0x0F)
/-- 3210+n:10–1F QMAP_0 to _15, U16, RO (R180). -/
@[reducible] def Lane.qmap (n k : Nat) : Nat := (0x3210 + n) * 256 + (0x10 + k)
/-- 3210+n:20 QMODE, U64, RO (R180). -/
@[reducible] def Lane.qmode (n : Nat) : Nat := (0x3210 + n) * 256 + (0x20)
/-- 3210+n:21 LAST_LATE, U32, RO (R180). -/
@[reducible] def Lane.lastLate (n : Nat) : Nat := (0x3210 + n) * 256 + (0x21)

/-- 3240+n:01 SN_MASK, BF8, RWS (R181). -/
@[reducible] def Snare.snMask (n : Nat) : Nat := (0x3240 + n) * 256 + (0x01)
/-- 3240+n:02 STRETCH_Q, U8, RWS (R181). -/
@[reducible] def Snare.stretchQ (n : Nat) : Nat := (0x3240 + n) * 256 + (0x02)
/-- 3240+n:03 SN_THR, U16, RO (R181). -/
@[reducible] def Snare.snThr (n : Nat) : Nat := (0x3240 + n) * 256 + (0x03)
/-- 3240+n:04 PREC_SET, BF8, RO (R181). -/
@[reducible] def Snare.precSet (n : Nat) : Nat := (0x3240 + n) * 256 + (0x04)
/-- 3240+n:05 SN_TRIPPED, BF8, RO (R181). -/
@[reducible] def Snare.snTripped (n : Nat) : Nat := (0x3240 + n) * 256 + (0x05)
/-- 3240+n:06–09 SN_TRIPS_0 to _3, U32, RC (R181). -/
@[reducible] def Snare.snTrips (n k : Nat) : Nat := (0x3240 + n) * 256 + (0x06 + k)
/-- 3240+n:0A SN_EDGES, U64, RO (R181). -/
@[reducible] def Snare.snEdges (n : Nat) : Nat := (0x3240 + n) * 256 + (0x0A)
/-- 3240+n:0B SN_LOSTQ, U64, RO (R181). -/
@[reducible] def Snare.snLostq (n : Nat) : Nat := (0x3240 + n) * 256 + (0x0B)
/-- 3240+n:0C SN_SNAP, U8, CMD (R181). -/
@[reducible] def Snare.snSnap (n : Nat) : Nat := (0x3240 + n) * 256 + (0x0C)
/-- 3240+n:0D SNAP_EDGES, U64, RO (R181). -/
@[reducible] def Snare.snapEdges (n : Nat) : Nat := (0x3240 + n) * 256 + (0x0D)
/-- 3240+n:0E SNAP_LOSTQ, U64, RO (R181). -/
@[reducible] def Snare.snapLostq (n : Nat) : Nat := (0x3240 + n) * 256 + (0x0E)
/-- 3240+n:0F SNAP_BEAT, U64, RO (R181). -/
@[reducible] def Snare.snapBeat (n : Nat) : Nat := (0x3240 + n) * 256 + (0x0F)
/-- 3240+n:10 SN_BURST_THR, U32, RWS (R181). -/
@[reducible] def Snare.snBurstThr (n : Nat) : Nat := (0x3240 + n) * 256 + (0x10)
/-- 3240+n:11 SN_BURST_RUNS, U32, RC (R181). -/
@[reducible] def Snare.snBurstRuns (n : Nat) : Nat := (0x3240 + n) * 256 + (0x11)
/-- 3240+n:12 SN_LAST_STRETCH, U64, RO (R181). -/
@[reducible] def Snare.snLastStretch (n : Nat) : Nat := (0x3240 + n) * 256 + (0x12)
/-- 3240+n:13 SN_UNSTRETCHED, U32, RC (R181). -/
@[reducible] def Snare.snUnstretched (n : Nat) : Nat := (0x3240 + n) * 256 + (0x13)

/-- 3000+n:01 CD_STATE, U8, RO (R216). -/
@[reducible] def Cd.cdState (n : Nat) : Nat := (0x3000 + n) * 256 + (0x01)
/-- 3000+n:02 RATIO_DEMAND, U8, RW (R216). -/
@[reducible] def Cd.ratioDemand (n : Nat) : Nat := (0x3000 + n) * 256 + (0x02)
/-- 3000+n:03 RATIO_OUT, U8, RO (R216). -/
@[reducible] def Cd.ratioOut (n : Nat) : Nat := (0x3000 + n) * 256 + (0x03)
/-- 3000+n:04 F_TABLE, U16, RWS (R216). -/
@[reducible] def Cd.fTable (n : Nat) : Nat := (0x3000 + n) * 256 + (0x04)
/-- 3000+n:05 MIN_CODE, U8, RO (R216). -/
@[reducible] def Cd.minCode (n : Nat) : Nat := (0x3000 + n) * 256 + (0x05)
/-- 3000+n:06 RATIO_RES, U8, RO (R216). -/
@[reducible] def Cd.ratioRes (n : Nat) : Nat := (0x3000 + n) * 256 + (0x06)
/-- 3000+n:07 VF_CODE, U8, RO (R216). -/
@[reducible] def Cd.vfCode (n : Nat) : Nat := (0x3000 + n) * 256 + (0x07)
/-- 3000+n:08 CD_RAIL, U8, RO (R216). -/
@[reducible] def Cd.cdRail (n : Nat) : Nat := (0x3000 + n) * 256 + (0x08)
/-- 3000+n:09 SRC_SEL, U8, RW (R216). -/
@[reducible] def Cd.srcSel (n : Nat) : Nat := (0x3000 + n) * 256 + (0x09)
/-- 3000+n:0A SRC_NOW, U8, RO (R216). -/
@[reducible] def Cd.srcNow (n : Nat) : Nat := (0x3000 + n) * 256 + (0x0A)
/-- 3000+n:0B ALT_FREQ, U16, RO (R216). -/
@[reducible] def Cd.altFreq (n : Nat) : Nat := (0x3000 + n) * 256 + (0x0B)
/-- 3000+n:0C FREQ_MEAS, U16, RO (R216). -/
@[reducible] def Cd.freqMeas (n : Nat) : Nat := (0x3000 + n) * 256 + (0x0C)
/-- 3000+n:0D GATE_CTRL, U8, CMD (R216). -/
@[reducible] def Cd.gateCtrl (n : Nat) : Nat := (0x3000 + n) * 256 + (0x0D)
/-- 3000+n:0E GATE_DENIALS, U32, RC (R216). -/
@[reducible] def Cd.gateDenials (n : Nat) : Nat := (0x3000 + n) * 256 + (0x0E)
/-- 3000+n:0F GATE_FORCES, U32, RC (R216). -/
@[reducible] def Cd.gateForces (n : Nat) : Nat := (0x3000 + n) * 256 + (0x0F)
/-- 3000+n:10 NEEDS_RESET, U8, RO (R216). -/
@[reducible] def Cd.needsReset (n : Nat) : Nat := (0x3000 + n) * 256 + (0x10)
/-- 3000+n:11 SWITCHES, U32, RO (R216). -/
@[reducible] def Cd.switches (n : Nat) : Nat := (0x3000 + n) * 256 + (0x11)
/-- 3000+n:12 SW_LOST_CYC, U64, RO (R216). -/
@[reducible] def Cd.swLostCyc (n : Nat) : Nat := (0x3000 + n) * 256 + (0x12)
/-- 3000+n:13 SW_STOP_HCLK, U32, RO (R216). -/
@[reducible] def Cd.swStopHclk (n : Nat) : Nat := (0x3000 + n) * 256 + (0x13)
/-- 3000+n:14 SRC_DEAD_CNT, U32, RC (R216). -/
@[reducible] def Cd.srcDeadCnt (n : Nat) : Nat := (0x3000 + n) * 256 + (0x14)
/-- 3000+n:15 DCO_LOCK, U8, RO (R216). -/
@[reducible] def Cd.dcoLock (n : Nat) : Nat := (0x3000 + n) * 256 + (0x15)
/-- 3000+n:16 VPT_BASE, U16, RO (R216). -/
@[reducible] def Cd.vptBase (n : Nat) : Nat := (0x3000 + n) * 256 + (0x16)
/-- 3000+n:17 VPT_STEP, U16, RO (R216). -/
@[reducible] def Cd.vptStep (n : Nat) : Nat := (0x3000 + n) * 256 + (0x17)
/-- 3000+n:40–5F FMAX_FUSED_0 to _31, U64, RO (R216). -/
@[reducible] def Cd.fmaxFused (n k : Nat) : Nat := (0x3000 + n) * 256 + (0x40 + k)
/-- 3000+n:60–7F FMAX_EFF_0 to _31, U64, RO (R216). -/
@[reducible] def Cd.fmaxEff (n k : Nat) : Nat := (0x3000 + n) * 256 + (0x60 + k)

/-- 3100+n:01 PD_STATE, U8, RO (R217). -/
@[reducible] def Pd.pdState (n : Nat) : Nat := (0x3100 + n) * 256 + (0x01)
/-- 3100+n:02 PD_DEMAND, U8, RW (R217). -/
@[reducible] def Pd.pdDemand (n : Nat) : Nat := (0x3100 + n) * 256 + (0x02)
/-- 3100+n:03 PD_RES, U8, RO (R217). -/
@[reducible] def Pd.pdRes (n : Nat) : Nat := (0x3100 + n) * 256 + (0x03)
/-- 3100+n:04 PD_CTRL, U8, CMD (R217). -/
@[reducible] def Pd.pdCtrl (n : Nat) : Nat := (0x3100 + n) * 256 + (0x04)
/-- 3100+n:05 PD_RAIL, U8, RO (R217). -/
@[reducible] def Pd.pdRail (n : Nat) : Nat := (0x3100 + n) * 256 + (0x05)
/-- 3100+n:06 PD_CD, U8, RO (R217). -/
@[reducible] def Pd.pdCd (n : Nat) : Nat := (0x3100 + n) * 256 + (0x06)
/-- 3100+n:07 RET_MODE, U8, RWS (R217). -/
@[reducible] def Pd.retMode (n : Nat) : Nat := (0x3100 + n) * 256 + (0x07)
/-- 3100+n:08 RET_VALID, U8, RO (R217). -/
@[reducible] def Pd.retValid (n : Nat) : Nat := (0x3100 + n) * 256 + (0x08)
/-- 3100+n:09 STAGE_MIN, U16, RWS (R217). -/
@[reducible] def Pd.stageMin (n : Nat) : Nat := (0x3100 + n) * 256 + (0x09)
/-- 3100+n:0A T_SETTLE, U16, RWS (R217). -/
@[reducible] def Pd.tSettle (n : Nat) : Nat := (0x3100 + n) * 256 + (0x0A)
/-- 3100+n:0B RUSH_DV, U16, RWS (R217). -/
@[reducible] def Pd.rushDv (n : Nat) : Nat := (0x3100 + n) * 256 + (0x0B)
/-- 3100+n:0C SEQ_LAST, U32, RO (R217). -/
@[reducible] def Pd.seqLast (n : Nat) : Nat := (0x3100 + n) * 256 + (0x0C)
/-- 3100+n:0D SEQ_COUNT, U32, RO (R217). -/
@[reducible] def Pd.seqCount (n : Nat) : Nat := (0x3100 + n) * 256 + (0x0D)
/-- 3100+n:0E PD_FAULT, U8, RO (R217). -/
@[reducible] def Pd.pdFault (n : Nat) : Nat := (0x3100 + n) * 256 + (0x0E)
/-- 3100+n:0F ACK_STATE, BF8, RO (R217). -/
@[reducible] def Pd.ackState (n : Nat) : Nat := (0x3100 + n) * 256 + (0x0F)
/-- 3100+n:10 RUSH_WAITS, U32, RC (R217). -/
@[reducible] def Pd.rushWaits (n : Nat) : Nat := (0x3100 + n) * 256 + (0x10)

/-- 3300:01 REF_SRC, U8, RO (R218). -/
@[reducible] def Clk.refSrc : Nat := 0x3300 * 256 + (0x01)
/-- 3300:02 BREF_STATE, U8, RO (R218). -/
@[reducible] def Clk.brefState : Nat := 0x3300 * 256 + (0x02)
/-- 3300:03 HOLDOVER_SINCE, U64, RO (R218). -/
@[reducible] def Clk.holdoverSince : Nat := 0x3300 * 256 + (0x03)
/-- 3300:04 BREF_LOCKS, U32, RO (R218). -/
@[reducible] def Clk.brefLocks : Nat := 0x3300 * 256 + (0x04)
/-- 3300:05 BREF_LOSSES, U32, RO (R218). -/
@[reducible] def Clk.brefLosses : Nat := 0x3300 * 256 + (0x05)
/-- 3300:06 XCLK_PPM, S32, RO (R218). -/
@[reducible] def Clk.xclkPpm : Nat := 0x3300 * 256 + (0x06)
/-- 3300:07 OSC_SETTLE, U8, RO (R218). -/
@[reducible] def Clk.oscSettle : Nat := 0x3300 * 256 + (0x07)
/-- 3300:08 OSC_TRIES, U8, RO (R218). -/
@[reducible] def Clk.oscTries : Nat := 0x3300 * 256 + (0x08)
/-- 3300:09 XCLK_LOSSES, U32, RO (R218). -/
@[reducible] def Clk.xclkLosses : Nat := 0x3300 * 256 + (0x09)
/-- 3300:0A COMP_DIODE, U8, RO (R218). -/
@[reducible] def Clk.compDiode : Nat := 0x3300 * 256 + (0x0A)
/-- 3300:0B COMP_C0, S32, RWS (R218). -/
@[reducible] def Clk.compC0 : Nat := 0x3300 * 256 + (0x0B)
/-- 3300:0C COMP_C1, S32, RWS (R218). -/
@[reducible] def Clk.compC1 : Nat := 0x3300 * 256 + (0x0C)
/-- 3300:0D COMP_C2, S32, RWS (R218). -/
@[reducible] def Clk.compC2 : Nat := 0x3300 * 256 + (0x0D)
/-- 3300:0E COMP_C3, S32, RWS (R218). -/
@[reducible] def Clk.compC3 : Nat := 0x3300 * 256 + (0x0E)
/-- 3300:0F COMP_NOW, S32, RO (R218). -/
@[reducible] def Clk.compNow : Nat := 0x3300 * 256 + (0x0F)
/-- 3300:10 COMP_EN, U8, RWS (R218). -/
@[reducible] def Clk.compEn : Nat := 0x3300 * 256 + (0x10)

/-- 3301:01 OBS_SRC, BF16, RWS (R219). -/
@[reducible] def Obs.obsSrc : Nat := 0x3301 * 256 + (0x01)
/-- 3301:02 OBS_DIV, U32, RWS (R219). -/
@[reducible] def Obs.obsDiv : Nat := 0x3301 * 256 + (0x02)
/-- 3301:03 BEAT_DIV, U32, RWS (R219). -/
@[reducible] def Obs.beatDiv : Nat := 0x3301 * 256 + (0x03)

/-- 4000+n:01 LOOP_STATE, U8, RO (R240). -/
@[reducible] def Loop.loopState (n : Nat) : Nat := (0x4000 + n) * 256 + (0x01)
/-- 4000+n:02 TARGET, U16, RO (R240). -/
@[reducible] def Loop.target (n : Nat) : Nat := (0x4000 + n) * 256 + (0x02)
/-- 4000+n:03 VREF_LOOP, U16, RO (R240). -/
@[reducible] def Loop.vrefLoop (n : Nat) : Nat := (0x4000 + n) * 256 + (0x03)
/-- 4000+n:04 CORR, S16, RO (R240). -/
@[reducible] def Loop.corr (n : Nat) : Nat := (0x4000 + n) * 256 + (0x04)
/-- 4000+n:05 CORR_MAX, U16, RWS (R240). -/
@[reducible] def Loop.corrMax (n : Nat) : Nat := (0x4000 + n) * 256 + (0x05)
/-- 4000+n:06 DELAY_LAST, U8, RO (R240). -/
@[reducible] def Loop.delayLast (n : Nat) : Nat := (0x4000 + n) * 256 + (0x06)
/-- 4000+n:07 DELAY_MAX, U8, RC (R240). -/
@[reducible] def Loop.delayMax (n : Nat) : Nat := (0x4000 + n) * 256 + (0x07)
/-- 4000+n:08 SETTLED, U8, RO (R240). -/
@[reducible] def Loop.settled (n : Nat) : Nat := (0x4000 + n) * 256 + (0x08)
/-- 4000+n:09 SETTLE_BAND, U16, RWS (R240). -/
@[reducible] def Loop.settleBand (n : Nat) : Nat := (0x4000 + n) * 256 + (0x09)
/-- 4000+n:0A SETTLE_N, U8, RWS (R240). -/
@[reducible] def Loop.settleN (n : Nat) : Nat := (0x4000 + n) * 256 + (0x0A)
/-- 4000+n:0B REGION, U8, RO (R240). -/
@[reducible] def Loop.region (n : Nat) : Nat := (0x4000 + n) * 256 + (0x0B)
/-- 4000+n:0C REGION_FORCE, U8, RW (R240). -/
@[reducible] def Loop.regionForce (n : Nat) : Nat := (0x4000 + n) * 256 + (0x0C)
/-- 4000+n:0D REGION_MAP, U16, RWS (R240). -/
@[reducible] def Loop.regionMap (n : Nat) : Nat := (0x4000 + n) * 256 + (0x0D)
/-- 4000+n:0E I_THR, BF32, RWS (R240). -/
@[reducible] def Loop.iThr (n : Nat) : Nat := (0x4000 + n) * 256 + (0x0E)
/-- 4000+n:0F I_HYST, U8, RWS (R240). -/
@[reducible] def Loop.iHyst (n : Nat) : Nat := (0x4000 + n) * 256 + (0x0F)
/-- 4000+n:10 PH_SPLIT, U8, RWS (R240). -/
@[reducible] def Loop.phSplit (n : Nat) : Nat := (0x4000 + n) * 256 + (0x10)
/-- 4000+n:11 REGION_DWELL, U8, RWS (R240). -/
@[reducible] def Loop.regionDwell (n : Nat) : Nat := (0x4000 + n) * 256 + (0x11)
/-- 4000+n:12 BT_SHIFT, U8, RWS (R240). -/
@[reducible] def Loop.btShift (n : Nat) : Nat := (0x4000 + n) * 256 + (0x12)
/-- 4000+n:13 XFER_NOW, S32, RO (R240). -/
@[reducible] def Loop.xferNow (n : Nat) : Nat := (0x4000 + n) * 256 + (0x13)
/-- 4000+n:14 REGION_CHANGES, U32, RC (R240). -/
@[reducible] def Loop.regionChanges (n : Nat) : Nat := (0x4000 + n) * 256 + (0x14)
/-- 4000+n:15 FE_EN, U8, RWS (R240). -/
@[reducible] def Loop.feEn (n : Nat) : Nat := (0x4000 + n) * 256 + (0x15)
/-- 4000+n:16 FE_LIMIT, U16, RWS (R240). -/
@[reducible] def Loop.feLimit (n : Nat) : Nat := (0x4000 + n) * 256 + (0x16)
/-- 4000+n:17 FE_TIME, U16, RWS (R240). -/
@[reducible] def Loop.feTime (n : Nat) : Nat := (0x4000 + n) * 256 + (0x17)
/-- 4000+n:18 FE_BLANK, U16, RWS (R240). -/
@[reducible] def Loop.feBlank (n : Nat) : Nat := (0x4000 + n) * 256 + (0x18)
/-- 4000+n:19 FE_BRUSH, U8, RWS (R240). -/
@[reducible] def Loop.feBrush (n : Nat) : Nat := (0x4000 + n) * 256 + (0x19)
/-- 4000+n:1A FE_REL_LIMIT, U16, RWS (R240). -/
@[reducible] def Loop.feRelLimit (n : Nat) : Nat := (0x4000 + n) * 256 + (0x1A)
/-- 4000+n:1B FE_REL_TIME, U16, RWS (R240). -/
@[reducible] def Loop.feRelTime (n : Nat) : Nat := (0x4000 + n) * 256 + (0x1B)
/-- 4000+n:1C FE_NOW, S16, RO (R240). -/
@[reducible] def Loop.feNow (n : Nat) : Nat := (0x4000 + n) * 256 + (0x1C)
/-- 4000+n:1D FE_TIMER, U16, RO (R240). -/
@[reducible] def Loop.feTimer (n : Nat) : Nat := (0x4000 + n) * 256 + (0x1D)
/-- 4000+n:1E FE_MAX, U16, RC (R240). -/
@[reducible] def Loop.feMax (n : Nat) : Nat := (0x4000 + n) * 256 + (0x1E)
/-- 4000+n:1F FE_REACTS, U32, RC (R240). -/
@[reducible] def Loop.feReacts (n : Nat) : Nat := (0x4000 + n) * 256 + (0x1F)
/-- 4000+n:20 FE_SINCE, U64, RO (R240). -/
@[reducible] def Loop.feSince (n : Nat) : Nat := (0x4000 + n) * 256 + (0x20)
/-- 4000+n:21 ECC_CE, U32, RC (R240). -/
@[reducible] def Loop.eccCe (n : Nat) : Nat := (0x4000 + n) * 256 + (0x21)
/-- 4000+n:22 ECC_UE, U32, RC (R240). -/
@[reducible] def Loop.eccUe (n : Nat) : Nat := (0x4000 + n) * 256 + (0x22)
/-- 4000+n:23 HOLD_SINCE, U64, RO (R240). -/
@[reducible] def Loop.holdSince (n : Nat) : Nat := (0x4000 + n) * 256 + (0x23)
/-- 4000+n:24 SAT_COUNT, U32, RC (R240). -/
@[reducible] def Loop.satCount (n : Nat) : Nat := (0x4000 + n) * 256 + (0x24)
/-- 4000+n:3E COEF_PENDING, BF8, RO (R240). -/
@[reducible] def Loop.coefPending (n : Nat) : Nat := (0x4000 + n) * 256 + (0x3E)
/-- 4000+n:3F COEF_COMMIT, U8, CMD (R240). -/
@[reducible] def Loop.coefCommit (n : Nat) : Nat := (0x4000 + n) * 256 + (0x3F)
/-- 4000+n:40–7B COEF, BFL, RWS (R240). -/
@[reducible] def Loop.coef (n k : Nat) : Nat := (0x4000 + n) * 256 + (0x40 + k)

/-- 4010+n:01 LENGTH, U32, RO (R241). -/
@[reducible] def Trace.length (n : Nat) : Nat := (0x4010 + n) * 256 + (0x01)
/-- 4010+n:02 CURSOR, U32, RW (R241). -/
@[reducible] def Trace.cursor (n : Nat) : Nat := (0x4010 + n) * 256 + (0x02)
/-- 4010+n:03 GEN, U32, RO (R241). -/
@[reducible] def Trace.gen (n : Nat) : Nat := (0x4010 + n) * 256 + (0x03)
/-- 4010+n:05 TR_SEL, U64, RWS (R241). -/
@[reducible] def Trace.trSel (n : Nat) : Nat := (0x4010 + n) * 256 + (0x05)
/-- 4010+n:06 TR_TRIG, BF16, RWS (R241). -/
@[reducible] def Trace.trTrig (n : Nat) : Nat := (0x4010 + n) * 256 + (0x06)
/-- 4010+n:07 TR_LEVEL, S32, RWS (R241). -/
@[reducible] def Trace.trLevel (n : Nat) : Nat := (0x4010 + n) * 256 + (0x07)
/-- 4010+n:08 TR_PRE, U16, RWS (R241). -/
@[reducible] def Trace.trPre (n : Nat) : Nat := (0x4010 + n) * 256 + (0x08)
/-- 4010+n:09 TR_LINK, BF8, RWS (R241). -/
@[reducible] def Trace.trLink (n : Nat) : Nat := (0x4010 + n) * 256 + (0x09)
/-- 4010+n:0A TR_CTRL, U8, CMD (R241). -/
@[reducible] def Trace.trCtrl (n : Nat) : Nat := (0x4010 + n) * 256 + (0x0A)
/-- 4010+n:0B TR_BEAT, U64, RO (R241). -/
@[reducible] def Trace.trBeat (n : Nat) : Nat := (0x4010 + n) * 256 + (0x0B)
/-- 4010+n:0C TR_TICK, U16, RO (R241). -/
@[reducible] def Trace.trTick (n : Nat) : Nat := (0x4010 + n) * 256 + (0x0C)
/-- 4010+n:0D TR_CAUSE, U8, RO (R241). -/
@[reducible] def Trace.trCause (n : Nat) : Nat := (0x4010 + n) * 256 + (0x0D)
/-- 4010+n:10–FF WINDOW, U64, RO (R241). -/
@[reducible] def Trace.window (n k : Nat) : Nat := (0x4010 + n) * 256 + (0x10 + k)

/-- 4080:01–05 WAIT_MAX_A to _E, U16, RC (R242). -/
@[reducible] def Arb.waitMaxA (k : Nat) : Nat := 0x4080 * 256 + (0x01 + k)
/-- 4080:06–0A GRANTS_A to _E, U64, RO (R242). -/
@[reducible] def Arb.grantsA (k : Nat) : Nat := 0x4080 * 256 + (0x06 + k)
/-- 4080:0B E_PROMOTIONS, U32, RC (R242). -/
@[reducible] def Arb.ePromotions : Nat := 0x4080 * 256 + (0x0B)
/-- 4080:0C BOUND_EXCEEDED, U32, RC (R242). -/
@[reducible] def Arb.boundExceeded : Nat := 0x4080 * 256 + (0x0C)
/-- 4080:0D E_PROMOTE_AT, U16, RO (R242). -/
@[reducible] def Arb.ePromoteAt : Nat := 0x4080 * 256 + (0x0D)

/-- 6000:01 CHIP_CAP_MW, U32, RWS (R268). -/
@[reducible] def Budget.chipCapMw : Nat := 0x6000 * 256 + (0x01)
/-- 6000:02 ROLE, U8, RWS (R268). -/
@[reducible] def Budget.role : Nat := 0x6000 * 256 + (0x02)
/-- 6000:03 OPER_CAP_MW, U32, RWS (R268). -/
@[reducible] def Budget.operCapMw : Nat := 0x6000 * 256 + (0x03)
/-- 6000:04 CLUSTER_GRANT_MW, U32, RO (R268). -/
@[reducible] def Budget.clusterGrantMw : Nat := 0x6000 * 256 + (0x04)
/-- 6000:05 CAP_EFF, U32, RO (R268). -/
@[reducible] def Budget.capEff : Nat := 0x6000 * 256 + (0x05)
/-- 6000:06 CAP_SRC, U8, RO (R268). -/
@[reducible] def Budget.capSrc : Nat := 0x6000 * 256 + (0x06)
/-- 6000:07 P_DIE, U32, RO (R268). -/
@[reducible] def Budget.pDie : Nat := 0x6000 * 256 + (0x07)
/-- 6000:08 P_FIXED, U32, RO (R268). -/
@[reducible] def Budget.pFixed : Nat := 0x6000 * 256 + (0x08)
/-- 6000:09 CAP_MARGIN, U8, RWS (R268). -/
@[reducible] def Budget.capMargin : Nat := 0x6000 * 256 + (0x09)
/-- 6000:0A BUDGET_PERIOD, U16, RWS (R268). -/
@[reducible] def Budget.budgetPeriod : Nat := 0x6000 * 256 + (0x0A)
/-- 6000:0B CAP_TIMER, U16, RWS (R268). -/
@[reducible] def Budget.capTimer : Nat := 0x6000 * 256 + (0x0B)
/-- 6000:0C SHORTFALL_MW, U32, RO (R268). -/
@[reducible] def Budget.shortfallMw : Nat := 0x6000 * 256 + (0x0C)
/-- 6000:0D CAP_STATE, U8, RO (R268). -/
@[reducible] def Budget.capState : Nat := 0x6000 * 256 + (0x0D)
/-- 6000:0E UNREACH_COUNT, U32, RC (R268). -/
@[reducible] def Budget.unreachCount : Nat := 0x6000 * 256 + (0x0E)
/-- 6000:0F HW_HEADROOM, U8, RWS (R268). -/
@[reducible] def Budget.hwHeadroom : Nat := 0x6000 * 256 + (0x0F)
/-- 6000:10–17 HW_CAP_RAIL_0 to _7, U32, RO (R268). -/
@[reducible] def Budget.hwCapRail (k : Nat) : Nat := 0x6000 * 256 + (0x10 + k)
/-- 6000:18 I_MARGIN, U8, RWS (R268). -/
@[reducible] def Budget.iMargin : Nat := 0x6000 * 256 + (0x18)
/-- 6000:19 CORR_MW, S32, RO (R268). -/
@[reducible] def Budget.corrMw : Nat := 0x6000 * 256 + (0x19)
/-- 6000:1A REF_SHORTFALLS, U32, RC (R268). -/
@[reducible] def Budget.refShortfalls : Nat := 0x6000 * 256 + (0x1A)
/-- 6000:1B MK_QUEUE, U8, RO (R268). -/
@[reducible] def Budget.mkQueue : Nat := 0x6000 * 256 + (0x1B)
/-- 6000:1C MK_ACCEPTED, U64, RO (R268). -/
@[reducible] def Budget.mkAccepted : Nat := 0x6000 * 256 + (0x1C)
/-- 6000:1D MK_LOST_FP, U32, RC (R268). -/
@[reducible] def Budget.mkLostFp : Nat := 0x6000 * 256 + (0x1D)
/-- 6000:1E MK_REJECTED, U32, RC (R268). -/
@[reducible] def Budget.mkRejected : Nat := 0x6000 * 256 + (0x1E)
/-- 6000:1F MK_MISMATCH, U32, RC (R268). -/
@[reducible] def Budget.mkMismatch : Nat := 0x6000 * 256 + (0x1F)
/-- 6000:20–27 GROUP_RAILS_0 to _7, U16, RO (R268). -/
@[reducible] def Budget.groupRails (k : Nat) : Nat := 0x6000 * 256 + (0x20 + k)
/-- 6000:28 DESC_BAD, U32, RC (R268). -/
@[reducible] def Budget.descBad : Nat := 0x6000 * 256 + (0x28)
/-- 6000:29 DESC_STALE, U32, RC (R268). -/
@[reducible] def Budget.descStale : Nat := 0x6000 * 256 + (0x29)
/-- 6000:2A SCOPE_ENGINE, U32, RC (R268). -/
@[reducible] def Budget.scopeEngine : Nat := 0x6000 * 256 + (0x2A)
/-- 6000:2B PRELOAD_LATE, U32, RC (R268). -/
@[reducible] def Budget.preloadLate : Nat := 0x6000 * 256 + (0x2B)
/-- 6000:2C PRELOAD_ORPHAN, U32, RC (R268). -/
@[reducible] def Budget.preloadOrphan : Nat := 0x6000 * 256 + (0x2C)
/-- 6000:2D PRELOAD_EXPIRE, U16, RWS (R268). -/
@[reducible] def Budget.preloadExpire : Nat := 0x6000 * 256 + (0x2D)
/-- 6000:2E PD_LEAD, U16, RWS (R268). -/
@[reducible] def Budget.pdLead : Nat := 0x6000 * 256 + (0x2E)
/-- 6000:2F LEARN_SHIFT, U8, RWS (R268). -/
@[reducible] def Budget.learnShift : Nat := 0x6000 * 256 + (0x2F)
/-- 6000:30 HW_AT_OP0, BF8, RO (R268). -/
@[reducible] def Budget.hwAtOp0 : Nat := 0x6000 * 256 + (0x30)
/-- 6000:31 LEARN_MIN, U16, RWS (R268). -/
@[reducible] def Budget.learnMin : Nat := 0x6000 * 256 + (0x31)
/-- 6000:32 LEARN_SKIPPED, U32, RC (R268). -/
@[reducible] def Budget.learnSkipped : Nat := 0x6000 * 256 + (0x32)

/-- 6010:01 LENGTH, U32, RO (R269). -/
@[reducible] def OpTab.length : Nat := 0x6010 * 256 + (0x01)
/-- 6010:02 CURSOR, U32, RW (R269). -/
@[reducible] def OpTab.cursor : Nat := 0x6010 * 256 + (0x02)
/-- 6010:03 GEN, U32, RO (R269). -/
@[reducible] def OpTab.gen : Nat := 0x6010 * 256 + (0x03)
/-- 6010:04 COMMIT, U32, CMD (R269). -/
@[reducible] def OpTab.commit : Nat := 0x6010 * 256 + (0x04)
/-- 6010:05 FMAX_MODE, U8, RWS (R269). -/
@[reducible] def OpTab.fmaxMode : Nat := 0x6010 * 256 + (0x05)
/-- 6010:06 AGE_LAST, U64, RO (R269). -/
@[reducible] def OpTab.ageLast : Nat := 0x6010 * 256 + (0x06)
/-- 6010:07 AGE_MARGIN, U8, RWS (R269). -/
@[reducible] def OpTab.ageMargin : Nat := 0x6010 * 256 + (0x07)
/-- 6010:08–0F AGE_DERATE_0 to _7, U64, RO (R269). -/
@[reducible] def OpTab.ageDerate (k : Nat) : Nat := 0x6010 * 256 + (0x08 + k)
/-- 6010:10–FF WINDOW, U64, RW (R269). -/
@[reducible] def OpTab.window (k : Nat) : Nat := 0x6010 * 256 + (0x10 + k)

/-- 6100+n:01 PT_CD, U8, RO (R270). -/
@[reducible] def Part.ptCd (n : Nat) : Nat := (0x6100 + n) * 256 + (0x01)
/-- 6100+n:02 PT_GROUP, U8, RO (R270). -/
@[reducible] def Part.ptGroup (n : Nat) : Nat := (0x6100 + n) * 256 + (0x02)
/-- 6100+n:03 PT_CLASS, U8, RWS (R270). -/
@[reducible] def Part.ptClass (n : Nat) : Nat := (0x6100 + n) * 256 + (0x03)
/-- 6100+n:04 PT_CAP_MW, U32, RWS (R270). -/
@[reducible] def Part.ptCapMw (n : Nat) : Nat := (0x6100 + n) * 256 + (0x04)
/-- 6100+n:05 PT_WEIGHT, U8, RWS (R270). -/
@[reducible] def Part.ptWeight (n : Nat) : Nat := (0x6100 + n) * 256 + (0x05)
/-- 6100+n:06 PT_LEAK_MW, U32, RWS (R270). -/
@[reducible] def Part.ptLeakMw (n : Nat) : Nat := (0x6100 + n) * 256 + (0x06)
/-- 6100+n:07 PT_DEFAULT_MW, U32, RWS (R270). -/
@[reducible] def Part.ptDefaultMw (n : Nat) : Nat := (0x6100 + n) * 256 + (0x07)
/-- 6100+n:08 PID_NOW, U8, RO (R270). -/
@[reducible] def Part.pidNow (n : Nat) : Nat := (0x6100 + n) * 256 + (0x08)
/-- 6100+n:09 PID_NEXT, U16, RO (R270). -/
@[reducible] def Part.pidNext (n : Nat) : Nat := (0x6100 + n) * 256 + (0x09)
/-- 6100+n:0A NEXT_AT, U64, RO (R270). -/
@[reducible] def Part.nextAt (n : Nat) : Nat := (0x6100 + n) * 256 + (0x0A)
/-- 6100+n:0B WANT_MW, U32, RO (R270). -/
@[reducible] def Part.wantMw (n : Nat) : Nat := (0x6100 + n) * 256 + (0x0B)
/-- 6100+n:0C FLOOR_MW, U32, RO (R270). -/
@[reducible] def Part.floorMw (n : Nat) : Nat := (0x6100 + n) * 256 + (0x0C)
/-- 6100+n:0D GRANT_MW, U32, RO (R270). -/
@[reducible] def Part.grantMw (n : Nat) : Nat := (0x6100 + n) * 256 + (0x0D)
/-- 6100+n:0E BRUSH_CEIL, U8, RO (R270). -/
@[reducible] def Part.brushCeil (n : Nat) : Nat := (0x6100 + n) * 256 + (0x0E)
/-- 6100+n:0F THERM_CEIL_MW, U32, RO (R270). -/
@[reducible] def Part.thermCeilMw (n : Nat) : Nat := (0x6100 + n) * 256 + (0x0F)
/-- 6100+n:10 SEQ_LAST, U32, RO (R270). -/
@[reducible] def Part.seqLast (n : Nat) : Nat := (0x6100 + n) * 256 + (0x10)
/-- 6100+n:11 INST_OPEN, U8, RO (R270). -/
@[reducible] def Part.instOpen (n : Nat) : Nat := (0x6100 + n) * 256 + (0x11)

/-- 6200+n:01 LENGTH, U32, RO (R271). -/
@[reducible] def Pid.length (n : Nat) : Nat := (0x6200 + n) * 256 + (0x01)
/-- 6200+n:02 CURSOR, U32, RW (R271). -/
@[reducible] def Pid.cursor (n : Nat) : Nat := (0x6200 + n) * 256 + (0x02)
/-- 6200+n:03 GEN, U32, RO (R271). -/
@[reducible] def Pid.gen (n : Nat) : Nat := (0x6200 + n) * 256 + (0x03)
/-- 6200+n:04 COMMIT, U32, CMD (R271). -/
@[reducible] def Pid.commit (n : Nat) : Nat := (0x6200 + n) * 256 + (0x04)
/-- 6200+n:05 PREF_OP, U64, RWS (R271). -/
@[reducible] def Pid.prefOp (n : Nat) : Nat := (0x6200 + n) * 256 + (0x05)
/-- 6200+n:06 PREF_PD_LO, U64, RWS (R271). -/
@[reducible] def Pid.prefPdLo (n : Nat) : Nat := (0x6200 + n) * 256 + (0x06)
/-- 6200+n:07 PREF_PD_HI, U32, RWS (R271). -/
@[reducible] def Pid.prefPdHi (n : Nat) : Nat := (0x6200 + n) * 256 + (0x07)
/-- 6200+n:08 PD_OPINION_LO, U64, RWS (R271). -/
@[reducible] def Pid.pdOpinionLo (n : Nat) : Nat := (0x6200 + n) * 256 + (0x08)
/-- 6200+n:09 PD_OPINION_HI, U32, RWS (R271). -/
@[reducible] def Pid.pdOpinionHi (n : Nat) : Nat := (0x6200 + n) * 256 + (0x09)
/-- 6200+n:0A PID_FLAGS, BF8, RWS (R271). -/
@[reducible] def Pid.pidFlags (n : Nat) : Nat := (0x6200 + n) * 256 + (0x0A)
/-- 6200+n:0B PID_INSTANCES, U32, RO (R271). -/
@[reducible] def Pid.pidInstances (n : Nat) : Nat := (0x6200 + n) * 256 + (0x0B)
/-- 6200+n:0C PID_LAST, U64, RO (R271). -/
@[reducible] def Pid.pidLast (n : Nat) : Nat := (0x6200 + n) * 256 + (0x0C)
/-- 6200+n:0D PID_CLEAR, U8, CMD (R271). -/
@[reducible] def Pid.pidClear (n : Nat) : Nat := (0x6200 + n) * 256 + (0x0D)
/-- 6200+n:0E PID_DUR, U32, RO (R271). -/
@[reducible] def Pid.pidDur (n : Nat) : Nat := (0x6200 + n) * 256 + (0x0E)
/-- 6200+n:10–FF WINDOW, U64, RW (R271). -/
@[reducible] def Pid.window (n k : Nat) : Nat := (0x6200 + n) * 256 + (0x10 + k)

/-- 5000+n:01 VALUE, S16, RO (R293). -/
@[reducible] def Ch.value (n : Nat) : Nat := (0x5000 + n) * 256 + (0x01)
/-- 5000+n:02 CH_KIND, U8, RO (R293). -/
@[reducible] def Ch.chKind (n : Nat) : Nat := (0x5000 + n) * 256 + (0x02)
/-- 5000+n:03 CH_SOURCE, U8, RO (R293). -/
@[reducible] def Ch.chSource (n : Nat) : Nat := (0x5000 + n) * 256 + (0x03)
/-- 5000+n:04 CH_STATUS, U8, RO (R293). -/
@[reducible] def Ch.chStatus (n : Nat) : Nat := (0x5000 + n) * 256 + (0x04)
/-- 5000+n:05 VALUE_USED, S16, RO (R293). -/
@[reducible] def Ch.valueUsed (n : Nat) : Nat := (0x5000 + n) * 256 + (0x05)
/-- 5000+n:06 RAW, U16, RO (R293). -/
@[reducible] def Ch.raw (n : Nat) : Nat := (0x5000 + n) * 256 + (0x06)
/-- 5000+n:07 IDEALITY, FXU2.14, RWS (R293). -/
@[reducible] def Ch.ideality (n : Nat) : Nat := (0x5000 + n) * 256 + (0x07)
/-- 5000+n:08 BETA, U16, RWS (R293). -/
@[reducible] def Ch.beta (n : Nat) : Nat := (0x5000 + n) * 256 + (0x08)
/-- 5000+n:09 OFFSET, S16, RWS (R293). -/
@[reducible] def Ch.offset (n : Nat) : Nat := (0x5000 + n) * 256 + (0x09)
/-- 5000+n:0A CH_WARN, S16, RWS (R293). -/
@[reducible] def Ch.chWarn (n : Nat) : Nat := (0x5000 + n) * 256 + (0x0A)
/-- 5000+n:0B NB, U32, RO (R293). -/
@[reducible] def Ch.nb (n : Nat) : Nat := (0x5000 + n) * 256 + (0x0B)
/-- 5000+n:0C SUSPECT_COUNT, U32, RC (R293). -/
@[reducible] def Ch.suspectCount (n : Nat) : Nat := (0x5000 + n) * 256 + (0x0C)
/-- 5000+n:0D FAULT_COUNT, U32, RC (R293). -/
@[reducible] def Ch.faultCount (n : Nat) : Nat := (0x5000 + n) * 256 + (0x0D)
/-- 5000+n:0E VALUE_MAX, S16, RC (R293). -/
@[reducible] def Ch.valueMax (n : Nat) : Nat := (0x5000 + n) * 256 + (0x0E)
/-- 5000+n:0F LAST_AT, U64, RO (R293). -/
@[reducible] def Ch.lastAt (n : Nat) : Nat := (0x5000 + n) * 256 + (0x0F)

/-- 5080:01 LENGTH, U32, RO (R294). -/
@[reducible] def Kettle.length : Nat := 0x5080 * 256 + (0x01)
/-- 5080:02 CURSOR, U32, RW (R294). -/
@[reducible] def Kettle.cursor : Nat := 0x5080 * 256 + (0x02)
/-- 5080:03 GEN, U32, RO (R294). -/
@[reducible] def Kettle.gen : Nat := 0x5080 * 256 + (0x03)
/-- 5080:04 COMMIT, U32, CMD (R294). -/
@[reducible] def Kettle.commit : Nat := 0x5080 * 256 + (0x04)
/-- 5080:05 HK_ROUNDS, U64, RO (R294). -/
@[reducible] def Kettle.hkRounds : Nat := 0x5080 * 256 + (0x05)
/-- 5080:06 KT_KG, U8, RWS (R294). -/
@[reducible] def Kettle.ktKg : Nat := 0x5080 * 256 + (0x06)
/-- 5080:07 KT_AMB_CH, U8, RWS (R294). -/
@[reducible] def Kettle.ktAmbCh : Nat := 0x5080 * 256 + (0x07)
/-- 5080:08 NB_DIFF, U16, RWS (R294). -/
@[reducible] def Kettle.nbDiff : Nat := 0x5080 * 256 + (0x08)
/-- 5080:09 KT_RESID, U16, RWS (R294). -/
@[reducible] def Kettle.ktResid : Nat := 0x5080 * 256 + (0x09)
/-- 5080:0A SUSPECT_N, U8, RWS (R294). -/
@[reducible] def Kettle.suspectN : Nat := 0x5080 * 256 + (0x0A)
/-- 5080:0B KT_BAND, U16, RWS (R294). -/
@[reducible] def Kettle.ktBand : Nat := 0x5080 * 256 + (0x0B)
/-- 5080:0C BH_ACT, U8, RWS (R294). -/
@[reducible] def Kettle.bhAct : Nat := 0x5080 * 256 + (0x0C)
/-- 5080:0D BH_SCALE, U8, RWS (R294). -/
@[reducible] def Kettle.bhScale : Nat := 0x5080 * 256 + (0x0D)
/-- 5080:0E BH_STATE, U8, RO (R294). -/
@[reducible] def Kettle.bhState : Nat := 0x5080 * 256 + (0x0E)
/-- 5080:0F SENSORS_OUT, U8, RO (R294). -/
@[reducible] def Kettle.sensorsOut : Nat := 0x5080 * 256 + (0x0F)
/-- 5080:10–FF WINDOW, U64, RW (R294). -/
@[reducible] def Kettle.window (k : Nat) : Nat := 0x5080 * 256 + (0x10 + k)

/-- 5090:01 GONG_STATE, U8, RO (R295). -/
@[reducible] def Gong.gongState : Nat := 0x5090 * 256 + (0x01)
/-- 5090:02 GONG_MODE, U8, RWS (R295). -/
@[reducible] def Gong.gongMode : Nat := 0x5090 * 256 + (0x02)
/-- 5090:03 ORDERLY_MS, U8, RWS (R295). -/
@[reducible] def Gong.orderlyMs : Nat := 0x5090 * 256 + (0x03)
/-- 5090:04 GONG_CTRL, U8, CMD (R295). -/
@[reducible] def Gong.gongCtrl : Nat := 0x5090 * 256 + (0x04)
/-- 5090:05 RESTART_MODE, U8, RWS (R295). -/
@[reducible] def Gong.restartMode : Nat := 0x5090 * 256 + (0x05)
/-- 5090:06 GONG_LEVEL, S16, RO (R295). -/
@[reducible] def Gong.gongLevel : Nat := 0x5090 * 256 + (0x06)
/-- 5090:07 RESTART_LEVEL, S16, RO (R295). -/
@[reducible] def Gong.restartLevel : Nat := 0x5090 * 256 + (0x07)
/-- 5090:08 RESTART_MIN, U64, RO (R295). -/
@[reducible] def Gong.restartMin : Nat := 0x5090 * 256 + (0x08)
/-- 5090:09 TRIP_TIME, U64, RO (R295). -/
@[reducible] def Gong.tripTime : Nat := 0x5090 * 256 + (0x09)
/-- 5090:0A TRIP_CH, U8, RO (R295). -/
@[reducible] def Gong.tripCh : Nat := 0x5090 * 256 + (0x0A)
/-- 5090:0B TRIP_TEMP, S16, RO (R295). -/
@[reducible] def Gong.tripTemp : Nat := 0x5090 * 256 + (0x0B)
/-- 5090:0C RAILS_AT_TRIP, BF8, RO (R295). -/
@[reducible] def Gong.railsAtTrip : Nat := 0x5090 * 256 + (0x0C)
/-- 5090:0D TRIPS, U32, RO (R295). -/
@[reducible] def Gong.trips : Nat := 0x5090 * 256 + (0x0D)
/-- 5090:0E HOTTEST_DIE, BF32, RO (R295). -/
@[reducible] def Gong.hottestDie : Nat := 0x5090 * 256 + (0x0E)
/-- 5090:0F COVERAGE, U8, RO (R295). -/
@[reducible] def Gong.coverage : Nat := 0x5090 * 256 + (0x0F)

/-- 50A0:01 ST_WARN, S16, RWS (R296). -/
@[reducible] def StageTh.stWarn : Nat := 0x50A0 * 256 + (0x01)
/-- 50A0:02 ST_SHUT, S16, RWS (R296). -/
@[reducible] def StageTh.stShut : Nat := 0x50A0 * 256 + (0x02)
/-- 50A0:03 ST_HYST, S16, RO (R296). -/
@[reducible] def StageTh.stHyst : Nat := 0x50A0 * 256 + (0x03)
/-- 50A0:04 ST_HOTTEST, S16, RO (R296). -/
@[reducible] def StageTh.stHottest : Nat := 0x50A0 * 256 + (0x04)
/-- 50A0:05 ST_HOTTEST_PH, U8, RO (R296). -/
@[reducible] def StageTh.stHottestPh : Nat := 0x50A0 * 256 + (0x05)

/-- 7000:01 ROOT_MODE, U8, RWS (R330). -/
@[reducible] def Node.rootMode : Nat := 0x7000 * 256 + (0x01)
/-- 7000:02 RING, U8, RWS (R330). -/
@[reducible] def Node.ring : Nat := 0x7000 * 256 + (0x02)
/-- 7000:03 NODE_ROLE, U8, RO (R330). -/
@[reducible] def Node.nodeRole : Nat := 0x7000 * 256 + (0x03)
/-- 7000:04 DEPTH, U8, RO (R330). -/
@[reducible] def Node.depth : Nat := 0x7000 * 256 + (0x04)
/-- 7000:05 GEN_MAX, U8, RO (R330). -/
@[reducible] def Node.genMax : Nat := 0x7000 * 256 + (0x05)
/-- 7000:06 GEN_MIN, U8, RO (R330). -/
@[reducible] def Node.genMin : Nat := 0x7000 * 256 + (0x06)
/-- 7000:07 GEN_OFFER, U8, RWS (R330). -/
@[reducible] def Node.genOffer : Nat := 0x7000 * 256 + (0x07)
/-- 7000:08 ALIGN_STATE, U8, RO (R330). -/
@[reducible] def Node.alignState : Nat := 0x7000 * 256 + (0x08)
/-- 7000:09 BEAT_ERR, S32, RO (R330). -/
@[reducible] def Node.beatErr : Nat := 0x7000 * 256 + (0x09)
/-- 7000:0A ALIGN_TOL, U16, RWS (R330). -/
@[reducible] def Node.alignTol : Nat := 0x7000 * 256 + (0x0A)
/-- 7000:0B SLEW_PPM, U8, RWS (R330). -/
@[reducible] def Node.slewPpm : Nat := 0x7000 * 256 + (0x0B)
/-- 7000:0C LOADED_AT, U64, RO (R330). -/
@[reducible] def Node.loadedAt : Nat := 0x7000 * 256 + (0x0C)
/-- 7000:0D RING_ERR, S32, RO (R330). -/
@[reducible] def Node.ringErr : Nat := 0x7000 * 256 + (0x0D)
/-- 7000:0E SUBTREE_NODES, U16, RO (R330). -/
@[reducible] def Node.subtreeNodes : Nat := 0x7000 * 256 + (0x0E)
/-- 7000:0F ALIGN_LOSSES, U32, RC (R330). -/
@[reducible] def Node.alignLosses : Nat := 0x7000 * 256 + (0x0F)

/-- 7010+n:01 LINK_STATE, U8, RO (R331). -/
@[reducible] def Port.linkState (n : Nat) : Nat := (0x7010 + n) * 256 + (0x01)
/-- 7010+n:02 LINK_GEN, U8, RO (R331). -/
@[reducible] def Port.linkGen (n : Nat) : Nat := (0x7010 + n) * 256 + (0x02)
/-- 7010+n:03 PARTNER_SERIAL, U32, RO (R331). -/
@[reducible] def Port.partnerSerial (n : Nat) : Nat := (0x7010 + n) * 256 + (0x03)
/-- 7010+n:04 PARTNER_DEPTH, U8, RO (R331). -/
@[reducible] def Port.partnerDepth (n : Nat) : Nat := (0x7010 + n) * 256 + (0x04)
/-- 7010+n:05 PARTNER_GEN, BF8, RO (R331). -/
@[reducible] def Port.partnerGen (n : Nat) : Nat := (0x7010 + n) * 256 + (0x05)
/-- 7010+n:06 T_DOWN, U32, RO (R331). -/
@[reducible] def Port.tDown (n : Nat) : Nat := (0x7010 + n) * 256 + (0x06)
/-- 7010+n:07 RTT, U32, RO (R331). -/
@[reducible] def Port.rtt (n : Nat) : Nat := (0x7010 + n) * 256 + (0x07)
/-- 7010+n:08 DL_ASYM, S16, RWS (R331). -/
@[reducible] def Port.dlAsym (n : Nat) : Nat := (0x7010 + n) * 256 + (0x08)
/-- 7010+n:09 DLY_AVG, U8, RWS (R331). -/
@[reducible] def Port.dlyAvg (n : Nat) : Nat := (0x7010 + n) * 256 + (0x09)
/-- 7010+n:0A FRAMES_TX, U64, RO (R331). -/
@[reducible] def Port.framesTx (n : Nat) : Nat := (0x7010 + n) * 256 + (0x0A)
/-- 7010+n:0B FRAMES_RX, U64, RO (R331). -/
@[reducible] def Port.framesRx (n : Nat) : Nat := (0x7010 + n) * 256 + (0x0B)
/-- 7010+n:0C CRC_ERR, U32, RC (R331). -/
@[reducible] def Port.crcErr (n : Nat) : Nat := (0x7010 + n) * 256 + (0x0C)
/-- 7010+n:0D CUT_FRAMES, U32, RC (R331). -/
@[reducible] def Port.cutFrames (n : Nat) : Nat := (0x7010 + n) * 256 + (0x0D)
/-- 7010+n:0E EX_REVERTS, U32, RC (R331). -/
@[reducible] def Port.exReverts (n : Nat) : Nat := (0x7010 + n) * 256 + (0x0E)
/-- 7010+n:0F EX_CHK_ERR, U32, RC (R331). -/
@[reducible] def Port.exChkErr (n : Nat) : Nat := (0x7010 + n) * 256 + (0x0F)
/-- 7010+n:10 LINK_UPS, U32, RO (R331). -/
@[reducible] def Port.linkUps (n : Nat) : Nat := (0x7010 + n) * 256 + (0x10)
/-- 7010+n:11 LINK_DOWNS, U32, RO (R331). -/
@[reducible] def Port.linkDowns (n : Nat) : Nat := (0x7010 + n) * 256 + (0x11)
/-- 7010+n:12 BULK_TX, U64, RO (R331). -/
@[reducible] def Port.bulkTx (n : Nat) : Nat := (0x7010 + n) * 256 + (0x12)
/-- 7010+n:13 BULK_RX, U64, RO (R331). -/
@[reducible] def Port.bulkRx (n : Nat) : Nat := (0x7010 + n) * 256 + (0x13)
/-- 7010+n:14 LAST_CHANGE, U64, RO (R331). -/
@[reducible] def Port.lastChange (n : Nat) : Nat := (0x7010 + n) * 256 + (0x14)
/-- 7010+n:15 LOST_FRAMES, U32, RC (R331). -/
@[reducible] def Port.lostFrames (n : Nat) : Nat := (0x7010 + n) * 256 + (0x15)

/-- 7020:01 GROUP, U8, RWS (R332). -/
@[reducible] def Pace.group : Nat := 0x7020 * 256 + (0x01)
/-- 7020:02 MEMBER_CD_LO, U32, RWS (R332). -/
@[reducible] def Pace.memberCdLo : Nat := 0x7020 * 256 + (0x02)
/-- 7020:03 MEMBER_CD_HI, U32, RWS (R332). -/
@[reducible] def Pace.memberCdHi : Nat := 0x7020 * 256 + (0x03)
/-- 7020:04 PACE_REF, U8, RWS (R332). -/
@[reducible] def Pace.paceRef : Nat := 0x7020 * 256 + (0x04)
/-- 7020:05 OWN_DEFICIT, U8, RO (R332). -/
@[reducible] def Pace.ownDeficit : Nat := 0x7020 * 256 + (0x05)
/-- 7020:06 PACE_MIN_DEF, U8, RWS (R332). -/
@[reducible] def Pace.paceMinDef : Nat := 0x7020 * 256 + (0x06)
/-- 7020:07 PACE_HYST, U8, RWS (R332). -/
@[reducible] def Pace.paceHyst : Nat := 0x7020 * 256 + (0x07)
/-- 7020:08 PACE_STALE, U32, RWS (R332). -/
@[reducible] def Pace.paceStale : Nat := 0x7020 * 256 + (0x08)
/-- 7020:09 PACE_STATE, U8, RO (R332). -/
@[reducible] def Pace.paceState : Nat := 0x7020 * 256 + (0x09)
/-- 7020:0A PACE_TARGET, BF16, RO (R332). -/
@[reducible] def Pace.paceTarget : Nat := 0x7020 * 256 + (0x0A)
/-- 7020:0B FOLLOWS, U32, RC (R332). -/
@[reducible] def Pace.follows : Nat := 0x7020 * 256 + (0x0B)
/-- 7020:0C FOLLOW_BEATS, U64, RO (R332). -/
@[reducible] def Pace.followBeats : Nat := 0x7020 * 256 + (0x0C)

/-- 7030+n:01 G_DEFICIT, U8, RO (R333). -/
@[reducible] def Grp.gDeficit (n : Nat) : Nat := (0x7030 + n) * 256 + (0x01)
/-- 7030+n:02 G_UP, U8, RO (R333). -/
@[reducible] def Grp.gUp (n : Nat) : Nat := (0x7030 + n) * 256 + (0x02)
/-- 7030+n:03 G_GEN, U8, RO (R333). -/
@[reducible] def Grp.gGen (n : Nat) : Nat := (0x7030 + n) * 256 + (0x03)
/-- 7030+n:04 G_POLICY, U8, RO (R333). -/
@[reducible] def Grp.gPolicy (n : Nat) : Nat := (0x7030 + n) * 256 + (0x04)
/-- 7030+n:05 G_MEMBERS, U16, RO (R333). -/
@[reducible] def Grp.gMembers (n : Nat) : Nat := (0x7030 + n) * 256 + (0x05)
/-- 7030+n:06 G_ROUND, U8, RO (R333). -/
@[reducible] def Grp.gRound (n : Nat) : Nat := (0x7030 + n) * 256 + (0x06)
/-- 7030+n:07 G_CHANGES, U32, RC (R333). -/
@[reducible] def Grp.gChanges (n : Nat) : Nat := (0x7030 + n) * 256 + (0x07)
/-- 7030+n:08 G_STALE, U32, RC (R333). -/
@[reducible] def Grp.gStale (n : Nat) : Nat := (0x7030 + n) * 256 + (0x08)
/-- 7030+n:09 G_POLICY_SET, U8, RWS (R333). -/
@[reducible] def Grp.gPolicySet (n : Nat) : Nat := (0x7030 + n) * 256 + (0x09)

/-- 7040:01 COLL_EN, U8, RWS (R334). -/
@[reducible] def Coll.collEn : Nat := 0x7040 * 256 + (0x01)
/-- 7040:02 COLL_PERIOD, U32, RWS (R334). -/
@[reducible] def Coll.collPeriod : Nat := 0x7040 * 256 + (0x02)
/-- 7040:03 POD_CAP_MW, U64, RWS (R334). -/
@[reducible] def Coll.podCapMw : Nat := 0x7040 * 256 + (0x03)
/-- 7040:04 SUM_D_MW, U64, RO (R334). -/
@[reducible] def Coll.sumDMw : Nat := 0x7040 * 256 + (0x04)
/-- 7040:05 SUM_F_MW, U64, RO (R334). -/
@[reducible] def Coll.sumFMw : Nat := 0x7040 * 256 + (0x05)
/-- 7040:06 GRANT_LOSS_N, U8, RWS (R334). -/
@[reducible] def Coll.grantLossN : Nat := 0x7040 * 256 + (0x06)
/-- 7040:07 GRANT_LOSS_ACT, U8, RWS (R334). -/
@[reducible] def Coll.grantLossAct : Nat := 0x7040 * 256 + (0x07)
/-- 7040:08 GRANT_FALLBACK_MW, U32, RWS (R334). -/
@[reducible] def Coll.grantFallbackMw : Nat := 0x7040 * 256 + (0x08)
/-- 7040:09 LAST_MODE, U8, RO (R334). -/
@[reducible] def Coll.lastMode : Nat := 0x7040 * 256 + (0x09)
/-- 7040:0A LAST_FACTOR, FXU1.15, RO (R334). -/
@[reducible] def Coll.lastFactor : Nat := 0x7040 * 256 + (0x0A)
/-- 7040:0B STALE_CHILDREN, U32, RC (R334). -/
@[reducible] def Coll.staleChildren : Nat := 0x7040 * 256 + (0x0B)
/-- 7040:0C ROUNDS, U32, RO (R334). -/
@[reducible] def Coll.rounds : Nat := 0x7040 * 256 + (0x0C)

/-- 8000+n:01 PE_TOTAL, U64, RO (R360). -/
@[reducible] def PEn.peTotal (n : Nat) : Nat := (0x8000 + n) * 256 + (0x01)
/-- 8000+n:02 PE_EST, U64, RO (R360). -/
@[reducible] def PEn.peEst (n : Nat) : Nat := (0x8000 + n) * 256 + (0x02)
/-- 8000+n:03 PE_REC, U64, RO (R360). -/
@[reducible] def PEn.peRec (n : Nat) : Nat := (0x8000 + n) * 256 + (0x03)
/-- 8000+n:04 PE_SNAP, U64, RO (R360). -/
@[reducible] def PEn.peSnap (n : Nat) : Nat := (0x8000 + n) * 256 + (0x04)
/-- 8000+n:05 PE_RAIL, U8, RO (R360). -/
@[reducible] def PEn.peRail (n : Nat) : Nat := (0x8000 + n) * 256 + (0x05)
/-- 8000+n:06 PT_ACT_W, U16, RWS (R360). -/
@[reducible] def PEn.ptActW (n : Nat) : Nat := (0x8000 + n) * 256 + (0x06)
/-- 8000+n:07 PT_CLK_W, U16, RWS (R360). -/
@[reducible] def PEn.ptClkW (n : Nat) : Nat := (0x8000 + n) * 256 + (0x07)
/-- 8000+n:08 E_LEAK_MW, U32, RWS (R360). -/
@[reducible] def PEn.eLeakMw (n : Nat) : Nat := (0x8000 + n) * 256 + (0x08)
/-- 8000+n:09 PE_MS_EST, U32, RO (R360). -/
@[reducible] def PEn.peMsEst (n : Nat) : Nat := (0x8000 + n) * 256 + (0x09)
/-- 8000+n:0A PE_MS_ADJ, S32, RO (R360). -/
@[reducible] def PEn.peMsAdj (n : Nat) : Nat := (0x8000 + n) * 256 + (0x0A)
/-- 8000+n:0B PE_MS_MW, U32, RO (R360). -/
@[reducible] def PEn.peMsMw (n : Nat) : Nat := (0x8000 + n) * 256 + (0x0B)

/-- 8100+n:01 QE_TOTAL, U64, RO (R361). -/
@[reducible] def QEn.qeTotal (n : Nat) : Nat := (0x8100 + n) * 256 + (0x01)
/-- 8100+n:02 CMD_ENERGY, U64, RO (R361). -/
@[reducible] def QEn.cmdEnergy (n : Nat) : Nat := (0x8100 + n) * 256 + (0x02)
/-- 8100+n:03 CMD_LAST, U64, RO (R361). -/
@[reducible] def QEn.cmdLast (n : Nat) : Nat := (0x8100 + n) * 256 + (0x03)
/-- 8100+n:04 CMD_LAST_CYC, U32, RO (R361). -/
@[reducible] def QEn.cmdLastCyc (n : Nat) : Nat := (0x8100 + n) * 256 + (0x04)
/-- 8100+n:05 CMD_COUNT, U32, RO (R361). -/
@[reducible] def QEn.cmdCount (n : Nat) : Nat := (0x8100 + n) * 256 + (0x05)
/-- 8100+n:06 Q_WEIGHT, U16, RWS (R361). -/
@[reducible] def QEn.qWeight (n : Nat) : Nat := (0x8100 + n) * 256 + (0x06)
/-- 8100+n:07 Q_PT, U8, RO (R361). -/
@[reducible] def QEn.qPt (n : Nat) : Nat := (0x8100 + n) * 256 + (0x07)
/-- 8100+n:08 QE_SNAP, U64, RO (R361). -/
@[reducible] def QEn.qeSnap (n : Nat) : Nat := (0x8100 + n) * 256 + (0x08)
/-- 8100+n:09 CMD_SNAP, U64, RO (R361). -/
@[reducible] def QEn.cmdSnap (n : Nat) : Nat := (0x8100 + n) * 256 + (0x09)

/-- 8400:01–08 RAIL_ENERGY_0 to _7, U64, RO (R362). -/
@[reducible] def EnTel.railEnergy (k : Nat) : Nat := 0x8400 * 256 + (0x01 + k)
/-- 8400:09–10 RAIL_REC_0 to _7, U64, RO (R362). -/
@[reducible] def EnTel.railRec (k : Nat) : Nat := 0x8400 * 256 + (0x09 + k)
/-- 8400:11–18 REC_RATIO_0 to _7, FXU4.12, RO (R362). -/
@[reducible] def EnTel.recRatio (k : Nat) : Nat := 0x8400 * 256 + (0x11 + k)
/-- 8400:19 REC_LAST, U64, RO (R362). -/
@[reducible] def EnTel.recLast : Nat := 0x8400 * 256 + (0x19)
/-- 8400:1A REC_COUNT, U32, RO (R362). -/
@[reducible] def EnTel.recCount : Nat := 0x8400 * 256 + (0x1A)
/-- 8400:1B E_SNAP, U8, CMD (R362). -/
@[reducible] def EnTel.eSnap : Nat := 0x8400 * 256 + (0x1B)
/-- 8400:1C SNAP_BEAT, U64, RO (R362). -/
@[reducible] def EnTel.snapBeat : Nat := 0x8400 * 256 + (0x1C)
/-- 8400:1D–24 RAIL_SNAP_0 to _7, U64, RO (R362). -/
@[reducible] def EnTel.railSnap (k : Nat) : Nat := 0x8400 * 256 + (0x1D + k)
/-- 8400:28 FABRIC_SLOTS, U16, RO (R362). -/
@[reducible] def EnTel.fabricSlots : Nat := 0x8400 * 256 + (0x28)
/-- 8400:29 TEL_SHARE, U8, RWS (R362). -/
@[reducible] def EnTel.telShare : Nat := 0x8400 * 256 + (0x29)
/-- 8400:2A SHARED_MODE, U8, RW (R362). -/
@[reducible] def EnTel.sharedMode : Nat := 0x8400 * 256 + (0x2A)
/-- 8400:2B SHARED_EFF, U8, RO (R362). -/
@[reducible] def EnTel.sharedEff : Nat := 0x8400 * 256 + (0x2B)
/-- 8400:2C ESS_SLOTS, U16, RWS (R362). -/
@[reducible] def EnTel.essSlots : Nat := 0x8400 * 256 + (0x2C)
/-- 8400:2D SLOTS_USED, U64, RO (R362). -/
@[reducible] def EnTel.slotsUsed : Nat := 0x8400 * 256 + (0x2D)
/-- 8400:2E TIP_OUTSTANDING, U8, RO (R362). -/
@[reducible] def EnTel.tipOutstanding : Nat := 0x8400 * 256 + (0x2E)
/-- 8400:2F TIP_ERRORS, U32, RC (R362). -/
@[reducible] def EnTel.tipErrors : Nat := 0x8400 * 256 + (0x2F)
/-- 8400:30 TEL_DROPS, U64, RO (R362). -/
@[reducible] def EnTel.telDrops : Nat := 0x8400 * 256 + (0x30)

/-- 8401+n:01 WIN_EN, U8, RW (R363). -/
@[reducible] def Win.winEn (n : Nat) : Nat := (0x8401 + n) * 256 + (0x01)
/-- 8401+n:02 WIN_KIND, U8, RW (R363). -/
@[reducible] def Win.winKind (n : Nat) : Nat := (0x8401 + n) * 256 + (0x02)
/-- 8401+n:03 WIN_DEST, U16, RW (R363). -/
@[reducible] def Win.winDest (n : Nat) : Nat := (0x8401 + n) * 256 + (0x03)
/-- 8401+n:04 WIN_BASE, U64, RW (R363). -/
@[reducible] def Win.winBase (n : Nat) : Nat := (0x8401 + n) * 256 + (0x04)
/-- 8401+n:05 WIN_SLOTS, U32, RW (R363). -/
@[reducible] def Win.winSlots (n : Nat) : Nat := (0x8401 + n) * 256 + (0x05)
/-- 8401+n:06 WIN_CTR, U64, RW (R363). -/
@[reducible] def Win.winCtr (n : Nat) : Nat := (0x8401 + n) * 256 + (0x06)
/-- 8401+n:07 WIN_POLICY, U8, RW (R363). -/
@[reducible] def Win.winPolicy (n : Nat) : Nat := (0x8401 + n) * 256 + (0x07)
/-- 8401+n:08 WIN_FLAGS, BF8, RW (R363). -/
@[reducible] def Win.winFlags (n : Nat) : Nat := (0x8401 + n) * 256 + (0x08)
/-- 8401+n:09 WIN_PERIOD, U32, RW (R363). -/
@[reducible] def Win.winPeriod (n : Nat) : Nat := (0x8401 + n) * 256 + (0x09)
/-- 8401+n:0A WIN_FLUSH, U32, RW (R363). -/
@[reducible] def Win.winFlush (n : Nat) : Nat := (0x8401 + n) * 256 + (0x0A)
/-- 8401+n:0B WIN_SEL, BF32, RW (R363). -/
@[reducible] def Win.winSel (n : Nat) : Nat := (0x8401 + n) * 256 + (0x0B)
/-- 8401+n:0C WIN_SEL_CD, U64, RW (R363). -/
@[reducible] def Win.winSelCd (n : Nat) : Nat := (0x8401 + n) * 256 + (0x0C)
/-- 8401+n:0D CONSUMED, U32, RW (R363). -/
@[reducible] def Win.consumed (n : Nat) : Nat := (0x8401 + n) * 256 + (0x0D)
/-- 8401+n:0E NEXT_SEQ, U32, RO (R363). -/
@[reducible] def Win.nextSeq (n : Nat) : Nat := (0x8401 + n) * 256 + (0x0E)
/-- 8401+n:0F COMMITTED, U32, RO (R363). -/
@[reducible] def Win.committed (n : Nat) : Nat := (0x8401 + n) * 256 + (0x0F)
/-- 8401+n:10 WIN_DROPS, U32, RO (R363). -/
@[reducible] def Win.winDrops (n : Nat) : Nat := (0x8401 + n) * 256 + (0x10)
/-- 8401+n:11 ITEM_DROPS, U32, RC (R363). -/
@[reducible] def Win.itemDrops (n : Nat) : Nat := (0x8401 + n) * 256 + (0x11)
/-- 8401+n:12 BP_HCLK, U64, RO (R363). -/
@[reducible] def Win.bpHclk (n : Nat) : Nat := (0x8401 + n) * 256 + (0x12)
/-- 8401+n:13 WIN_ABANDONED, U32, RC (R363). -/
@[reducible] def Win.winAbandoned (n : Nat) : Nat := (0x8401 + n) * 256 + (0x13)
/-- 8401+n:14 SUPPRESSED, U32, RC (R363). -/
@[reducible] def Win.suppressed (n : Nat) : Nat := (0x8401 + n) * 256 + (0x14)
/-- 8401+n:20–3B LIST_0 to _27, U32, RW (R363). -/
@[reducible] def Win.list (n k : Nat) : Nat := (0x8401 + n) * 256 + (0x20 + k)

/-- 9000:01 FW_VERSION, U32, RO (R398). -/
@[reducible] def Fw.fwVersion : Nat := 0x9000 * 256 + (0x01)
/-- 9000:02 ACTIVE_SLOT, U8, RO (R398). -/
@[reducible] def Fw.activeSlot : Nat := 0x9000 * 256 + (0x02)
/-- 9000:03 FP_UP, BF8, RO (R398). -/
@[reducible] def Fw.fpUp : Nat := 0x9000 * 256 + (0x03)
/-- 9000:04 FP_DOWN, BF8, RO (R398). -/
@[reducible] def Fw.fpDown : Nat := 0x9000 * 256 + (0x04)
/-- 9000:05 FIXED_MODE, U8, RO (R398). -/
@[reducible] def Fw.fixedMode : Nat := 0x9000 * 256 + (0x05)
/-- 9000:06 CRASH_LIMIT, U8, RO (R398). -/
@[reducible] def Fw.crashLimit : Nat := 0x9000 * 256 + (0x06)
/-- 9000:07 CRASH_WINDOW, U64, RO (R398). -/
@[reducible] def Fw.crashWindow : Nat := 0x9000 * 256 + (0x07)
/-- 9000:08 RESTART_BOUND, U16, RO (R398). -/
@[reducible] def Fw.restartBound : Nat := 0x9000 * 256 + (0x08)
/-- 9000:09 NFP_ROLES, BF32, RO (R398). -/
@[reducible] def Fw.nfpRoles : Nat := 0x9000 * 256 + (0x09)
/-- 9000:0A CKPT_PERIOD, U16, RWS (R398). -/
@[reducible] def Fw.ckptPeriod : Nat := 0x9000 * 256 + (0x0A)
/-- 9000:0B CKPT_MAX_AGE, U16, RWS (R398). -/
@[reducible] def Fw.ckptMaxAge : Nat := 0x9000 * 256 + (0x0B)
/-- 9000:0C DL_GEN_IMG, U8, RO (R398). -/
@[reducible] def Fw.dlGenImg : Nat := 0x9000 * 256 + (0x0C)
/-- 9000:0D GEN_OFFER_REQ, U8, RO (R398). -/
@[reducible] def Fw.genOfferReq : Nat := 0x9000 * 256 + (0x0D)

/-- 9010+n:01 FP_STATE, U8, RO (R399). -/
@[reducible] def Fp.fpState (n : Nat) : Nat := (0x9010 + n) * 256 + (0x01)
/-- 9010+n:02 FP_SLOT, U8, RO (R399). -/
@[reducible] def Fp.fpSlot (n : Nat) : Nat := (0x9010 + n) * 256 + (0x02)
/-- 9010+n:03 FP_CTRL, U8, CMD (R399). -/
@[reducible] def Fp.fpCtrl (n : Nat) : Nat := (0x9010 + n) * 256 + (0x03)
/-- 9010+n:04 RESTARTS, U32, RO (R399). -/
@[reducible] def Fp.restarts (n : Nat) : Nat := (0x9010 + n) * 256 + (0x04)
/-- 9010+n:05 CRASHES_WINDOW, U8, RO (R399). -/
@[reducible] def Fp.crashesWindow (n : Nat) : Nat := (0x9010 + n) * 256 + (0x05)
/-- 9010+n:06 LAST_CAUSE, U8, RO (R399). -/
@[reducible] def Fp.lastCause (n : Nat) : Nat := (0x9010 + n) * 256 + (0x06)
/-- 9010+n:07 LAST_RESTART, U64, RO (R399). -/
@[reducible] def Fp.lastRestart (n : Nat) : Nat := (0x9010 + n) * 256 + (0x07)
/-- 9010+n:08 LAST_BOOT_US, U16, RO (R399). -/
@[reducible] def Fp.lastBootUs (n : Nat) : Nat := (0x9010 + n) * 256 + (0x08)
/-- 9010+n:09 RESUME_KIND, U8, RO (R399). -/
@[reducible] def Fp.resumeKind (n : Nat) : Nat := (0x9010 + n) * 256 + (0x09)
/-- 9010+n:0A WDT_MS, U8, RWS (R399). -/
@[reducible] def Fp.wdtMs (n : Nat) : Nat := (0x9010 + n) * 256 + (0x0A)
/-- 9010+n:0B TRACE_MASK, U64, RWS (R399). -/
@[reducible] def Fp.traceMask (n : Nat) : Nat := (0x9010 + n) * 256 + (0x0B)
/-- 9010+n:0C CKPT_AGE, U32, RO (R399). -/
@[reducible] def Fp.ckptAge (n : Nat) : Nat := (0x9010 + n) * 256 + (0x0C)

/-- 9020+n:01 LENGTH, U32, RO (R400). -/
@[reducible] def Log.length (n : Nat) : Nat := (0x9020 + n) * 256 + (0x01)
/-- 9020+n:02 CURSOR, U32, RW (R400). -/
@[reducible] def Log.cursor (n : Nat) : Nat := (0x9020 + n) * 256 + (0x02)
/-- 9020+n:03 GEN, U32, RO (R400). -/
@[reducible] def Log.gen (n : Nat) : Nat := (0x9020 + n) * 256 + (0x03)
/-- 9020+n:05 LOG_HEAD, U32, RO (R400). -/
@[reducible] def Log.logHead (n : Nat) : Nat := (0x9020 + n) * 256 + (0x05)
/-- 9020+n:06 LOG_LOST, U32, RC (R400). -/
@[reducible] def Log.logLost (n : Nat) : Nat := (0x9020 + n) * 256 + (0x06)
/-- 9020+n:10–FF WINDOW, U64, RO (R400). -/
@[reducible] def Log.window (n k : Nat) : Nat := (0x9020 + n) * 256 + (0x10 + k)

/-- 9030:01 UPD_STATE, U8, RO (R401). -/
@[reducible] def Upd.updState : Nat := 0x9030 * 256 + (0x01)
/-- 9030:02 UPD_CTRL, U8, CMD (R401). -/
@[reducible] def Upd.updCtrl : Nat := 0x9030 * 256 + (0x02)
/-- 9030:03 ACT_LIMIT, U16, RWS (R401). -/
@[reducible] def Upd.actLimit : Nat := 0x9030 * 256 + (0x03)
/-- 9030:04 ACT_QUIET, U16, RO (R401). -/
@[reducible] def Upd.actQuiet : Nat := 0x9030 * 256 + (0x04)
/-- 9030:05 ACT_WAITED, U32, RO (R401). -/
@[reducible] def Upd.actWaited : Nat := 0x9030 * 256 + (0x05)
/-- 9030:06 ACT_CANCELS, U8, RO (R401). -/
@[reducible] def Upd.actCancels : Nat := 0x9030 * 256 + (0x06)
/-- 9030:07 ACT_LAST_RESULT, U8, RO (R401). -/
@[reducible] def Upd.actLastResult : Nat := 0x9030 * 256 + (0x07)
/-- 9030:08 ACT_FAIL_FP, U8, RO (R401). -/
@[reducible] def Upd.actFailFp : Nat := 0x9030 * 256 + (0x08)
/-- 9030:09 FWD_EN, U8, RWS (R401). -/
@[reducible] def Upd.fwdEn : Nat := 0x9030 * 256 + (0x09)
/-- 9030:0A FWD_PORTS, BF8, RO (R401). -/
@[reducible] def Upd.fwdPorts : Nat := 0x9030 * 256 + (0x0A)
/-- 9030:0B CONF_LIMIT, U32, RWS (R401). -/
@[reducible] def Upd.confLimit : Nat := 0x9030 * 256 + (0x0B)
/-- 9030:0C CHUNK_NAKS, U32, RC (R401). -/
@[reducible] def Upd.chunkNaks : Nat := 0x9030 * 256 + (0x0C)
/-- 9030:0D CHUNKS_RX, U64, RO (R401). -/
@[reducible] def Upd.chunksRx : Nat := 0x9030 * 256 + (0x0D)
/-- 9030:0E MIN_SVN, U32, RO (R401). -/
@[reducible] def Upd.minSvn : Nat := 0x9030 * 256 + (0x0E)

/-- 9031+n:01 SLOT_STATE, U8, RO (R402). -/
@[reducible] def Slot.slotState (n : Nat) : Nat := (0x9031 + n) * 256 + (0x01)
/-- 9031+n:02 STREAM, U16, RO (R402). -/
@[reducible] def Slot.stream (n : Nat) : Nat := (0x9031 + n) * 256 + (0x02)
/-- 9031+n:03 VERSION, U32, RO (R402). -/
@[reducible] def Slot.version (n : Nat) : Nat := (0x9031 + n) * 256 + (0x03)
/-- 9031+n:04 SVN, U32, RO (R402). -/
@[reducible] def Slot.svn (n : Nat) : Nat := (0x9031 + n) * 256 + (0x04)
/-- 9031+n:05 N_CHUNKS, U16, RO (R402). -/
@[reducible] def Slot.nChunks (n : Nat) : Nat := (0x9031 + n) * 256 + (0x05)
/-- 9031+n:06 HELD, U16, RO (R402). -/
@[reducible] def Slot.held (n : Nat) : Nat := (0x9031 + n) * 256 + (0x06)
/-- 9031+n:07 SETTINGS_FMTS, U32, RO (R402). -/
@[reducible] def Slot.settingsFmts (n : Nat) : Nat := (0x9031 + n) * 256 + (0x07)
/-- 9031+n:08 HANDOVER_FMTS, U32, RO (R402). -/
@[reducible] def Slot.handoverFmts (n : Nat) : Nat := (0x9031 + n) * 256 + (0x08)
/-- 9031+n:09 DL_GEN, U8, RO (R402). -/
@[reducible] def Slot.dlGen (n : Nat) : Nat := (0x9031 + n) * 256 + (0x09)
/-- 9031+n:0A FAIL_CAUSE, U8, RO (R402). -/
@[reducible] def Slot.failCause (n : Nat) : Nat := (0x9031 + n) * 256 + (0x0A)
/-- 9031+n:0B FAIL_AT, U64, RO (R402). -/
@[reducible] def Slot.failAt (n : Nat) : Nat := (0x9031 + n) * 256 + (0x0B)

/-- 9035:01 REG0_STATE, U8, RO (R405). -/
@[reducible] def Sett.reg0State : Nat := 0x9035 * 256 + (0x01)
/-- 9035:02 REG1_STATE, U8, RO (R405). -/
@[reducible] def Sett.reg1State : Nat := 0x9035 * 256 + (0x02)
/-- 9035:03 REG0_FMT, U16, RO (R405). -/
@[reducible] def Sett.reg0Fmt : Nat := 0x9035 * 256 + (0x03)
/-- 9035:04 REG1_FMT, U16, RO (R405). -/
@[reducible] def Sett.reg1Fmt : Nat := 0x9035 * 256 + (0x04)
/-- 9035:05 SAVE_DELAY, U16, RWS (R405). -/
@[reducible] def Sett.saveDelay : Nat := 0x9035 * 256 + (0x05)
/-- 9035:06 PENDING, U16, RO (R405). -/
@[reducible] def Sett.pending : Nat := 0x9035 * 256 + (0x06)
/-- 9035:07 SAVE_NOW, U8, CMD (R405). -/
@[reducible] def Sett.saveNow : Nat := 0x9035 * 256 + (0x07)
/-- 9035:08 SAVES, U32, RO (R405). -/
@[reducible] def Sett.saves : Nat := 0x9035 * 256 + (0x08)
/-- 9035:09 SAVE_ERRORS, U32, RC (R405). -/
@[reducible] def Sett.saveErrors : Nat := 0x9035 * 256 + (0x09)
/-- 9035:0A PROFILE_SAVE, U32, RWS (R405). -/
@[reducible] def Sett.profileSave : Nat := 0x9035 * 256 + (0x0A)
/-- 9035:0B FREE_PCT, U8, RO (R405). -/
@[reducible] def Sett.freePct : Nat := 0x9035 * 256 + (0x0B)

/-- A000:01 RECQ_DEPTH, U8, RO (R436). -/
@[reducible] def Ev.recqDepth : Nat := 0xA000 * 256 + (0x01)
/-- A000:02 RECQ_MAX, U8, RC (R436). -/
@[reducible] def Ev.recqMax : Nat := 0xA000 * 256 + (0x02)
/-- A000:03 RECQ_LOST, U32, RC (R436). -/
@[reducible] def Ev.recqLost : Nat := 0xA000 * 256 + (0x03)
/-- A000:04 CHEST_CLASSES, BF16, RWS (R436). -/
@[reducible] def Ev.chestClasses : Nat := 0xA000 * 256 + (0x04)
/-- A000:05 RECORDS, U64, RO (R436). -/
@[reducible] def Ev.records : Nat := 0xA000 * 256 + (0x05)

/-- A010:01 CHEST_STATE, U8, RO (R437). -/
@[reducible] def Chest.chestState : Nat := 0xA010 * 256 + (0x01)
/-- A010:02 NEXT_CSEQ, U32, RO (R437). -/
@[reducible] def Chest.nextCseq : Nat := 0xA010 * 256 + (0x02)
/-- A010:03 OLDEST_CSEQ, U32, RO (R437). -/
@[reducible] def Chest.oldestCseq : Nat := 0xA010 * 256 + (0x03)
/-- A010:04 CQ_DEPTH, U16, RO (R437). -/
@[reducible] def Chest.cqDepth : Nat := 0xA010 * 256 + (0x04)
/-- A010:05 CHEST_LOST, U32, RO (R437). -/
@[reducible] def Chest.chestLost : Nat := 0xA010 * 256 + (0x05)
/-- A010:06 SINGLE_COPY, U32, RO (R437). -/
@[reducible] def Chest.singleCopy : Nat := 0xA010 * 256 + (0x06)
/-- A010:07 INHIBITS, U32, RO (R437). -/
@[reducible] def Chest.inhibits : Nat := 0xA010 * 256 + (0x07)
/-- A010:08 LAST_DIP_VAON, U16, RO (R437). -/
@[reducible] def Chest.lastDipVaon : Nat := 0xA010 * 256 + (0x08)
/-- A010:09 LAST_DIP_VIN, U32, RO (R437). -/
@[reducible] def Chest.lastDipVin : Nat := 0xA010 * 256 + (0x09)
/-- A010:0A LAST_DIP_US, U32, RO (R437). -/
@[reducible] def Chest.lastDipUs : Nat := 0xA010 * 256 + (0x0A)
/-- A010:0B INHIBIT_SINCE, U64, RO (R437). -/
@[reducible] def Chest.inhibitSince : Nat := 0xA010 * 256 + (0x0B)
/-- A010:0C ERASED_AHEAD, U8, RO (R437). -/
@[reducible] def Chest.erasedAhead : Nat := 0xA010 * 256 + (0x0C)
/-- A010:0D NOR_ERRORS, U32, RC (R437). -/
@[reducible] def Chest.norErrors : Nat := 0xA010 * 256 + (0x0D)
/-- A010:0E REPAIRS, U32, RO (R437). -/
@[reducible] def Chest.repairs : Nat := 0xA010 * 256 + (0x0E)

/-- A011:01 LENGTH, U32, RO (R438). -/
@[reducible] def ChestRd.length : Nat := 0xA011 * 256 + (0x01)
/-- A011:02 CURSOR, U32, RW (R438). -/
@[reducible] def ChestRd.cursor : Nat := 0xA011 * 256 + (0x02)
/-- A011:03 GEN, U32, RO (R438). -/
@[reducible] def ChestRd.gen : Nat := 0xA011 * 256 + (0x03)
/-- A011:05 FETCH, U8, RO (R438). -/
@[reducible] def ChestRd.fetch : Nat := 0xA011 * 256 + (0x05)
/-- A011:06 START_CSEQ, U32, RW (R438). -/
@[reducible] def ChestRd.startCseq : Nat := 0xA011 * 256 + (0x06)
/-- A011:10–FF WINDOW, U64, RO (R438). -/
@[reducible] def ChestRd.window (k : Nat) : Nat := 0xA011 * 256 + (0x10 + k)

/-- A020:01 HANG_STATE, U8, RO (R439). -/
@[reducible] def Hang.hangState : Nat := 0xA020 * 256 + (0x01)
/-- A020:02 STOP_CTRL, U8, CMD (R439). -/
@[reducible] def Hang.stopCtrl : Nat := 0xA020 * 256 + (0x02)
/-- A020:03 HB_PERIOD, U16, RWS (R439). -/
@[reducible] def Hang.hbPeriod : Nat := 0xA020 * 256 + (0x03)
/-- A020:04 HB_KICK, U8, WO (R439). -/
@[reducible] def Hang.hbKick : Nat := 0xA020 * 256 + (0x04)
/-- A020:05 HANG_ACTION, BF8, RWS (R439). -/
@[reducible] def Hang.hangAction : Nat := 0xA020 * 256 + (0x05)
/-- A020:06 HANG_CAUSE, U8, RO (R439). -/
@[reducible] def Hang.hangCause : Nat := 0xA020 * 256 + (0x06)
/-- A020:07 CUT_BEAT, U64, RO (R439). -/
@[reducible] def Hang.cutBeat : Nat := 0xA020 * 256 + (0x07)
/-- A020:08 RELEASE_BEAT, U64, RO (R439). -/
@[reducible] def Hang.releaseBeat : Nat := 0xA020 * 256 + (0x08)
/-- A020:09 HANGS, U32, RO (R439). -/
@[reducible] def Hang.hangs : Nat := 0xA020 * 256 + (0x09)
/-- A020:0A HANGS_MERGED, U32, RC (R439). -/
@[reducible] def Hang.hangsMerged : Nat := 0xA020 * 256 + (0x0A)
/-- A020:0B STOPPED_CD, U64, RO (R439). -/
@[reducible] def Hang.stoppedCd : Nat := 0xA020 * 256 + (0x0B)

/-- A030:01 AREA0_STATE, U8, RO (R440). -/
@[reducible] def Dump.area0State : Nat := 0xA030 * 256 + (0x01)
/-- A030:02 AREA1_STATE, U8, RO (R440). -/
@[reducible] def Dump.area1State : Nat := 0xA030 * 256 + (0x02)
/-- A030:03 AREA0_ID, U32, RO (R440). -/
@[reducible] def Dump.area0Id : Nat := 0xA030 * 256 + (0x03)
/-- A030:04 AREA1_ID, U32, RO (R440). -/
@[reducible] def Dump.area1Id : Nat := 0xA030 * 256 + (0x04)
/-- A030:05 DUMP_SEL, U8, RW (R440). -/
@[reducible] def Dump.dumpSel : Nat := 0xA030 * 256 + (0x05)
/-- A030:06 DUMP_CLEAR, U8, CMD (R440). -/
@[reducible] def Dump.dumpClear : Nat := 0xA030 * 256 + (0x06)
/-- A030:07 DUMP_LEN, U32, RO (R440). -/
@[reducible] def Dump.dumpLen : Nat := 0xA030 * 256 + (0x07)
/-- A030:08 NEXT_ID, U32, RO (R440). -/
@[reducible] def Dump.nextId : Nat := 0xA030 * 256 + (0x08)
/-- A030:09 PROGRESS, U32, RO (R440). -/
@[reducible] def Dump.progress : Nat := 0xA030 * 256 + (0x09)

/-- A031:01 LENGTH, U32, RO (R441). -/
@[reducible] def DumpRd.length : Nat := 0xA031 * 256 + (0x01)
/-- A031:02 CURSOR, U32, RW (R441). -/
@[reducible] def DumpRd.cursor : Nat := 0xA031 * 256 + (0x02)
/-- A031:03 GEN, U32, RO (R441). -/
@[reducible] def DumpRd.gen : Nat := 0xA031 * 256 + (0x03)
/-- A031:05 FETCH, U8, RO (R441). -/
@[reducible] def DumpRd.fetch : Nat := 0xA031 * 256 + (0x05)
/-- A031:10–FF WINDOW, U64, RO (R441). -/
@[reducible] def DumpRd.window (k : Nat) : Nat := 0xA031 * 256 + (0x10 + k)

/-- A080+n:01 LENGTH, U32, RO (R442). -/
@[reducible] def Shelf.length (n : Nat) : Nat := (0xA080 + n) * 256 + (0x01)
/-- A080+n:02 CURSOR, U32, RW (R442). -/
@[reducible] def Shelf.cursor (n : Nat) : Nat := (0xA080 + n) * 256 + (0x02)
/-- A080+n:03 GEN, U32, RO (R442). -/
@[reducible] def Shelf.gen (n : Nat) : Nat := (0xA080 + n) * 256 + (0x03)
/-- A080+n:05 SHELF_HEAD, U32, RO (R442). -/
@[reducible] def Shelf.shelfHead (n : Nat) : Nat := (0xA080 + n) * 256 + (0x05)
/-- A080+n:06 SHELF_LOST, U32, RC (R442). -/
@[reducible] def Shelf.shelfLost (n : Nat) : Nat := (0xA080 + n) * 256 + (0x06)
/-- A080+n:07 UNIT, U8, RO (R442). -/
@[reducible] def Shelf.unit (n : Nat) : Nat := (0xA080 + n) * 256 + (0x07)
/-- A080+n:10–FF WINDOW, U64, RO (R442). -/
@[reducible] def Shelf.window (n k : Nat) : Nat := (0xA080 + n) * 256 + (0x10 + k)

/-- B000:01 SD_CTRL, U8, CMD (R460). -/
@[reducible] def Sd.sdCtrl : Nat := 0xB000 * 256 + (0x01)
/-- B000:02 SD_AUTO, U8, RWS (R460). -/
@[reducible] def Sd.sdAuto : Nat := 0xB000 * 256 + (0x02)
/-- B000:03 SD_FAILED, BF8, RO (R460). -/
@[reducible] def Sd.sdFailed : Nat := 0xB000 * 256 + (0x03)
/-- B000:04 SD_SIG, U32, RO (R460). -/
@[reducible] def Sd.sdSig : Nat := 0xB000 * 256 + (0x04)
/-- B000:05 SD_STORED, U8, RO (R460). -/
@[reducible] def Sd.sdStored : Nat := 0xB000 * 256 + (0x05)
/-- B000:06 SD_BEAT, U64, RO (R460). -/
@[reducible] def Sd.sdBeat : Nat := 0xB000 * 256 + (0x06)
/-- B000:07 SD_TIME, U32, RO (R460). -/
@[reducible] def Sd.sdTime : Nat := 0xB000 * 256 + (0x07)

/-- B010:01 ST_STATE, U8, RO (R461). -/
@[reducible] def St.stState : Nat := 0xB010 * 256 + (0x01)
/-- B010:02 ST_FORM, U8, RO (R461). -/
@[reducible] def St.stForm : Nat := 0xB010 * 256 + (0x02)
/-- B010:03 ST_FAILED, BF8, RO (R461). -/
@[reducible] def St.stFailed : Nat := 0xB010 * 256 + (0x03)
/-- B010:04 ST_SIG, U32, RO (R461). -/
@[reducible] def St.stSig : Nat := 0xB010 * 256 + (0x04)
/-- B010:05 ST_EXPECT, U32, RO (R461). -/
@[reducible] def St.stExpect : Nat := 0xB010 * 256 + (0x05)
/-- B010:06 ST_TIME, U32, RO (R461). -/
@[reducible] def St.stTime : Nat := 0xB010 * 256 + (0x06)
/-- B010:07 ST_RETRY, U8, CMD (R461). -/
@[reducible] def St.stRetry : Nat := 0xB010 * 256 + (0x07)
/-- B010:08 ST_PARTIAL, U8, RWS (R461). -/
@[reducible] def St.stPartial : Nat := 0xB010 * 256 + (0x08)
/-- B010:09 ST_FIRST_FAIL, BF32, RO (R461). -/
@[reducible] def St.stFirstFail : Nat := 0xB010 * 256 + (0x09)

/-- B020+n:01 B_SIG, U32, RO (R462). -/
@[reducible] def Blk.bSig (n : Nat) : Nat := (0xB020 + n) * 256 + (0x01)
/-- B020+n:02 B_EXPECT, U32, RO (R462). -/
@[reducible] def Blk.bExpect (n : Nat) : Nat := (0xB020 + n) * 256 + (0x02)
/-- B020+n:03 B_TESTED, U16, RO (R462). -/
@[reducible] def Blk.bTested (n : Nat) : Nat := (0xB020 + n) * 256 + (0x03)
/-- B020+n:04 B_FAILS, U16, RO (R462). -/
@[reducible] def Blk.bFails (n : Nat) : Nat := (0xB020 + n) * 256 + (0x04)
/-- B020+n:05 B_FIRST, U16, RO (R462). -/
@[reducible] def Blk.bFirst (n : Nat) : Nat := (0xB020 + n) * 256 + (0x05)
/-- B020+n:06 B_TRIM, U8, RO (R462). -/
@[reducible] def Blk.bTrim (n : Nat) : Nat := (0xB020 + n) * 256 + (0x06)
/-- B020+n:07 B_TIME, U32, RO (R462). -/
@[reducible] def Blk.bTime (n : Nat) : Nat := (0xB020 + n) * 256 + (0x07)

/-- B030:01 START_STATE, U8, RO (R463). -/
@[reducible] def Start.startState : Nat := 0xB030 * 256 + (0x01)
/-- B030:02 START_ORDER, U64, RWS (R463). -/
@[reducible] def Start.startOrder : Nat := 0xB030 * 256 + (0x02)
/-- B030:03 START_GAP, U16, RWS (R463). -/
@[reducible] def Start.startGap : Nat := 0xB030 * 256 + (0x03)
/-- B030:04 IBC_WAIT, U16, RWS (R463). -/
@[reducible] def Start.ibcWait : Nat := 0xB030 * 256 + (0x04)
/-- B030:05 RELEASE_DELAY, U16, RWS (R463). -/
@[reducible] def Start.releaseDelay : Nat := 0xB030 * 256 + (0x05)
/-- B030:06 START_AUTO, U8, RWS (R463). -/
@[reducible] def Start.startAuto : Nat := 0xB030 * 256 + (0x06)
/-- B030:07 START_CTRL, U8, CMD (R463). -/
@[reducible] def Start.startCtrl : Nat := 0xB030 * 256 + (0x07)
/-- B030:08 FAIL_CAUSE, U8, RO (R463). -/
@[reducible] def Start.failCause : Nat := 0xB030 * 256 + (0x08)
/-- B030:09 FAIL_DETAIL, U8, RO (R463). -/
@[reducible] def Start.failDetail : Nat := 0xB030 * 256 + (0x09)
/-- B030:0A T_RELEASE, U32, RO (R463). -/
@[reducible] def Start.tRelease : Nat := 0xB030 * 256 + (0x0A)
/-- B030:0B BROWNOUT_LIMIT, U16, RWS (R463). -/
@[reducible] def Start.brownoutLimit : Nat := 0xB030 * 256 + (0x0B)
/-- B030:0C PAUSED_US, U32, RO (R463). -/
@[reducible] def Start.pausedUs : Nat := 0xB030 * 256 + (0x0C)

/-- B040:01 LENGTH, U32, RO (R464). -/
@[reducible] def LcAuth.length : Nat := 0xB040 * 256 + (0x01)
/-- B040:02 CURSOR, U32, RW (R464). -/
@[reducible] def LcAuth.cursor : Nat := 0xB040 * 256 + (0x02)
/-- B040:03 GEN, U32, RO (R464). -/
@[reducible] def LcAuth.gen : Nat := 0xB040 * 256 + (0x03)
/-- B040:04 COMMIT, U32, CMD (R464). -/
@[reducible] def LcAuth.commit : Nat := 0xB040 * 256 + (0x04)
/-- B040:05 LC_NONCE, U64, RO (R464). -/
@[reducible] def LcAuth.lcNonce : Nat := 0xB040 * 256 + (0x05)
/-- B040:06 LC_REFUSE, U8, RO (R464). -/
@[reducible] def LcAuth.lcRefuse : Nat := 0xB040 * 256 + (0x06)
/-- B040:10–FF WINDOW, U64, RW (R464). -/
@[reducible] def LcAuth.window (k : Nat) : Nat := 0xB040 * 256 + (0x10 + k)

/-- B050:01 AE_CTRL, U32, CMD (R465). -/
@[reducible] def Ae.aeCtrl : Nat := 0xB050 * 256 + (0x01)
/-- B050:02 AE_REPEAT, U16, RW (R465). -/
@[reducible] def Ae.aeRepeat : Nat := 0xB050 * 256 + (0x02)
/-- B050:03 AE_RUNS, U32, RO (R465). -/
@[reducible] def Ae.aeRuns : Nat := 0xB050 * 256 + (0x03)

/-- 9033:01 LENGTH, U32, RO (R403). -/
@[reducible] def Chunk.length : Nat := 0x9033 * 256 + (0x01)

/-- 9034:01 LENGTH, U32, RO (R404). -/
@[reducible] def UpdMap.length : Nat := 0x9034 * 256 + (0x01)
/-- 9034:02 CURSOR, U32, RW (R404). -/
@[reducible] def UpdMap.cursor : Nat := 0x9034 * 256 + (0x02)
/-- 9034:03 GEN, U32, RO (R404). -/
@[reducible] def UpdMap.gen : Nat := 0x9034 * 256 + (0x03)
/-- 9034:10–FF WINDOW, U64, RO (). -/
@[reducible] def UpdMap.window (k : Nat) : Nat := 0x9034 * 256 + (0x10 + k)

end Sys2Proof.Machine
end

