-- ==== Sys2Proof/Machine/DictTable.lean ====
section
/-! DEFINITION. The subs of the object dictionary (spec/03, R84 to R93): type, access code, default and write rule of every sub, as the manual's entry tables list them. -/

namespace Sys2Proof.Machine

/-- The type of a sub's value (R86): unsigned or signed in a number of bytes. -/
inductive Ty where
  | u (bytes : Nat)
  | s (bytes : Nat)
  deriving DecidableEq, Repr

/-- The access codes (R90). -/
inductive Acc where
  | ro | rw | rws | wo | rc | cmd
  deriving DecidableEq, Repr

/-- How a write of an out-of-range value is handled (R88, R89): any value of the type is stored; clamped into
[lo, hi]; rejected outside [lo, hi]; rejected when a bit outside the mask is set; rejected unless listed;
`act`: the write is a command; `special`: the rule of the sub's own Effect column (Machine/Host.lean). -/
inductive WRule where
  | any
  | clamp (lo hi : Int)
  | within (lo hi : Int)
  | mask (m : Nat)
  | oneOf (vs : List Int)
  | act
  | special
  deriving DecidableEq, Repr

/-- One row of an entry table: subs `lo` to `hi`, type, access, default by (instance, place in the range), write rule, and
whether the manual says that the count wraps. -/
structure Row where
  lo : Nat
  hi : Nat
  ty : Ty
  acc : Acc
  dflt : Nat → Nat → Int
  wrule : WRule
  wraps : Bool

/-- ST_EXPECT: the signature of the six expected block signatures (R451). -/
def stExpected : Word32 := sigOf ((List.range 6).map Config.bExpect)

/-- The subs of 1000. -/
def rowsIdent : List Row := [
  ⟨0x01, 0x01, .u 8, .ro, fun _ _ => 86059406413391, .any, false⟩,
  ⟨0x02, 0x02, .u 8, .ro, fun _ _ => 353283295572, .any, false⟩,
  ⟨0x03, 0x03, .u 8, .ro, fun _ _ => 80617631664474, .any, false⟩,
  ⟨0x04, 0x04, .u 2, .ro, fun _ _ => 770, .any, false⟩,
  ⟨0x05, 0x05, .u 4, .ro, fun _ _ => Config.lernosBuild.toNat, .any, false⟩,
  ⟨0x06, 0x06, .u 8, .ro, fun _ _ => Config.configHash.toNat, .any, false⟩,
  ⟨0x07, 0x07, .u 8, .ro, fun _ _ => Config.serial.toNat, .any, false⟩,
  ⟨0x08, 0x08, .u 2, .ro, fun _ _ => 512, .any, false⟩,
  ⟨0x09, 0x09, .u 4, .ro, fun _ _ => 851778159, .any, false⟩,
  ⟨0x0A, 0x0A, .u 4, .ro, fun _ _ => Config.ianaPen.toNat, .any, false⟩,
  ⟨0x0B, 0x0B, .u 2, .ro, fun _ _ => 1 + (Config.ringLatRaw % 32 : Nat), .any, false⟩,
  ⟨0x0C, 0x0C, .u 2, .ro, fun _ _ => Config.phaseCtlLat.toNat, .any, false⟩]

/-- The subs of 1001. -/
def rowsGenPar : List Row := [
  ⟨0x01, 0x01, .u 1, .ro, fun _ _ => 8, .any, false⟩,
  ⟨0x02, 0x02, .u 1, .ro, fun _ _ => 96, .any, false⟩,
  ⟨0x03, 0x03, .u 1, .ro, fun _ _ => 64, .any, false⟩,
  ⟨0x04, 0x04, .u 1, .ro, fun _ _ => 96, .any, false⟩,
  ⟨0x05, 0x05, .u 1, .ro, fun _ _ => 128, .any, false⟩,
  ⟨0x06, 0x06, .u 2, .ro, fun _ _ => 512, .any, false⟩,
  ⟨0x07, 0x07, .u 1, .ro, fun _ _ => 32, .any, false⟩,
  ⟨0x08, 0x08, .u 2, .ro, fun _ _ => 256, .any, false⟩,
  ⟨0x09, 0x09, .u 1, .ro, fun _ _ => 128, .any, false⟩,
  ⟨0x0A, 0x0A, .u 1, .ro, fun _ _ => 128, .any, false⟩,
  ⟨0x0B, 0x0B, .u 1, .ro, fun _ _ => 48, .any, false⟩,
  ⟨0x0C, 0x0C, .u 1, .ro, fun _ _ => 16, .any, false⟩,
  ⟨0x0D, 0x0D, .u 1, .ro, fun _ _ => 16, .any, false⟩,
  ⟨0x0E, 0x0E, .u 1, .ro, fun _ _ => 4, .any, false⟩,
  ⟨0x0F, 0x0F, .u 1, .ro, fun _ _ => 4, .any, false⟩,
  ⟨0x10, 0x10, .u 1, .ro, fun _ _ => 16, .any, false⟩]

/-- The subs of 1100. -/
def rowsIrq : List Row := [
  ⟨0x01, 0x01, .u 2, .ro, fun _ _ => 0, .any, false⟩,
  ⟨0x02, 0x02, .u 2, .rws, fun _ _ => 0, .mask 0x3FFF, false⟩,
  ⟨0x03, 0x03, .u 2, .wo, fun _ _ => 0, .mask 0x3FFF, false⟩,
  ⟨0x04, 0x04, .u 2, .wo, fun _ _ => 0, .mask 0x3FFF, false⟩]

/-- The subs of 1101. -/
def rowsAlarm : List Row := [
  ⟨0x01, 0x01, .u 2, .ro, fun _ _ => 0, .any, false⟩,
  ⟨0x02, 0x02, .u 2, .rc, fun _ _ => 0, .any, false⟩,
  ⟨0x03, 0x03, .u 1, .ro, fun _ _ => 0, .any, false⟩,
  ⟨0x04, 0x04, .u 1, .ro, fun _ _ => 0, .any, false⟩,
  ⟨0x05, 0x05, .u 1, .ro, fun _ _ => 0, .any, false⟩]

/-- The subs of 1102. -/
def rowsLost : List Row := [
  ⟨0x01, 0x01, .u 8, .ro, fun _ _ => 0, .any, false⟩,
  ⟨0x02, 0x02, .u 4, .ro, fun _ _ => 0, .any, false⟩,
  ⟨0x03, 0x03, .u 8, .ro, fun _ _ => 0, .any, false⟩,
  ⟨0x04, 0x04, .u 8, .ro, fun _ _ => 0, .any, false⟩,
  ⟨0x05, 0x05, .u 8, .ro, fun _ _ => 0, .any, false⟩]

/-- The subs of 1110. -/
def rowsLadder : List Row := [
  ⟨0x01, 0x01, .u 1, .ro, fun _ _ => 6, .any, false⟩,
  ⟨0x02, 0x02, .u 8, .ro, fun _ _ => 0, .any, false⟩,
  ⟨0x03, 0x03, .u 1, .ro, fun _ _ => 0, .any, false⟩,
  ⟨0x04, 0x04, .u 4, .rc, fun _ _ => 0, .any, false⟩]

/-- The subs of 1111. -/
def rowsSrcRail : List Row := [
  ⟨0x01, 0x08, .u 1, .ro, fun _ _ => 255, .any, false⟩]

/-- The subs of 1112. -/
def rowsSrcCd : List Row := [
  ⟨0x01, 0x04, .u 8, .ro, fun _ _ => 18446744073709551615, .any, false⟩]

/-- The subs of 1113. -/
def rowsSrcPt : List Row := [
  ⟨0x01, 0x08, .u 8, .ro, fun _ _ => 18446744073709551615, .any, false⟩]

/-- The subs of 1114. -/
def rowsSrcPd : List Row := [
  ⟨0x01, 0x06, .u 8, .ro, fun _ _ => 18446744073709551615, .any, false⟩]

/-- The subs of 1200. -/
def rowsXport : List Row := [
  ⟨0x01, 0x01, .u 1, .rws, fun _ _ => 7, .special, false⟩,
  ⟨0x02, 0x02, .u 1, .ro, fun _ _ => 0, .any, false⟩,
  ⟨0x03, 0x03, .u 4, .rc, fun _ _ => 0, .any, false⟩,
  ⟨0x04, 0x04, .u 4, .rc, fun _ _ => 0, .any, false⟩,
  ⟨0x05, 0x05, .u 1, .ro, fun _ _ => 0, .any, false⟩,
  ⟨0x06, 0x06, .u 4, .rc, fun _ _ => 0, .any, false⟩,
  ⟨0x07, 0x07, .u 1, .rws, fun _ _ => 0, .special, false⟩]

/-- The subs of 1201. -/
def rowsLegacy : List Row := [
  ⟨0x01, 0x01, .u 1, .rws, fun _ _ => 1, .within 0 1, false⟩,
  ⟨0x02, 0x02, .u 4, .rc, fun _ _ => 0, .any, false⟩,
  ⟨0x03, 0x03, .u 4, .rc, fun _ _ => 0, .any, false⟩]

/-- The subs of 1202. -/
def rowsDictSt : List Row := [
  ⟨0x01, 0x01, .u 1, .ro, fun _ _ => 0, .any, false⟩,
  ⟨0x02, 0x02, .u 4, .rc, fun _ _ => 0, .any, false⟩,
  ⟨0x03, 0x03, .u 4, .ro, fun _ _ => 0, .any, false⟩,
  ⟨0x04, 0x04, .u 4, .rc, fun _ _ => 0, .any, false⟩]

/-- The subs of 1210. -/
def rowsAct : List Row := [
  ⟨0x01, 0x01, .u 8, .wo, fun _ _ => 0, .act, false⟩,
  ⟨0x02, 0x02, .u 8, .wo, fun _ _ => 0, .act, false⟩,
  ⟨0x03, 0x03, .u 2, .ro, fun _ _ => 0, .any, false⟩,
  ⟨0x04, 0x04, .u 4, .rc, fun _ _ => 0, .any, false⟩,
  ⟨0x05, 0x05, .u 1, .ro, fun _ _ => 0, .any, false⟩,
  ⟨0x06, 0x06, .u 2, .rws, fun _ _ => 448, .special, false⟩]

/-- The subs of 1220 onward, one index per instance. -/
def rowsRing : List Row := [
  ⟨0x01, 0x01, .u 8, .rc, fun _ _ => 0, .any, false⟩,
  ⟨0x02, 0x02, .u 8, .ro, fun _ _ => 0, .any, false⟩,
  ⟨0x03, 0x03, .u 2, .ro, fun _ _ => 0, .any, false⟩,
  ⟨0x04, 0x04, .u 2, .rw, fun _ _ => 1, .clamp 1 512, false⟩]

/-- The subs of 1300. -/
def rowsLc : List Row := [
  ⟨0x01, 0x01, .u 1, .ro, fun _ _ => Config.lcFused.val, .any, false⟩,
  ⟨0x02, 0x02, .u 1, .cmd, fun _ _ => 0, .act, false⟩,
  ⟨0x03, 0x03, .u 1, .ro, fun _ _ => Config.lcFusesLeft.toNat, .any, false⟩]

/-- The subs of 1301. -/
def rowsKeyLad : List Row := [
  ⟨0x01, 0x01, .u 1, .ro, fun _ _ => Config.keyStatus.toNat, .any, false⟩,
  ⟨0x02, 0x02, .u 8, .ro, fun _ _ => Config.rootId, .any, false⟩,
  ⟨0x03, 0x03, .u 2, .ro, fun _ _ => Config.keyEpoch.toNat, .any, false⟩,
  ⟨0x04, 0x04, .u 4, .ro, fun _ _ => 0, .any, false⟩]

/-- The subs of 2000 onward, one index per instance. -/
def rowsRail : List Row := [
  ⟨0x01, 0x01, .u 1, .ro, fun _ _ => 0, .any, false⟩,
  ⟨0x02, 0x02, .u 1, .cmd, fun _ _ => 0, .act, false⟩,
  ⟨0x03, 0x03, .u 2, .rw, fun i _ => Config.vstart i, .act, false⟩,
  ⟨0x04, 0x04, .u 2, .ro, fun i _ => Config.vstart i, .any, false⟩,
  ⟨0x05, 0x05, .u 2, .rws, fun i _ => Config.vstart i, .special, false⟩,
  ⟨0x06, 0x06, .u 2, .rws, fun i _ => Config.vsetMax i, .special, false⟩,
  ⟨0x07, 0x07, .u 2, .ro, fun i _ => Config.vsetLimit i, .any, false⟩,
  ⟨0x08, 0x08, .u 2, .rws, fun i _ => Config.vfloor i, .special, false⟩,
  ⟨0x09, 0x09, .u 2, .rws, fun i _ => Config.tSoftstart i, .clamp 50 1000, false⟩,
  ⟨0x0A, 0x0A, .u 2, .rws, fun _ _ => 100, .clamp 0 1000, false⟩,
  ⟨0x0B, 0x0B, .u 2, .rws, fun i _ => Config.fsw i, .clamp 600 2000, false⟩,
  ⟨0x0C, 0x0C, .u 2, .rws, fun i _ => Config.rippleGain i, .clamp 1 10000, false⟩,
  ⟨0x0D, 0x0D, .u 4, .rws, fun i _ => Config.ilimRail i, .special, false⟩,
  ⟨0x0E, 0x0E, .u 4, .ro, fun i _ => Config.ilimRail i, .any, false⟩,
  ⟨0x0F, 0x0F, .u 2, .ro, fun _ _ => 0, .any, false⟩,
  ⟨0x10, 0x10, .u 4, .ro, fun _ _ => 0, .any, false⟩,
  ⟨0x11, 0x11, .u 4, .ro, fun _ _ => 0, .any, false⟩,
  ⟨0x12, 0x12, .u 2, .ro, fun _ _ => 0, .any, false⟩,
  ⟨0x13, 0x13, .u 1, .ro, fun _ _ => 0, .any, false⟩,
  ⟨0x14, 0x14, .u 1, .ro, fun i _ => Config.phCount i, .any, false⟩,
  ⟨0x15, 0x15, .u 1, .ro, fun _ _ => 1, .any, false⟩,
  ⟨0x16, 0x16, .u 1, .rws, fun _ _ => 1, .special, false⟩,
  ⟨0x17, 0x17, .u 1, .rws, fun _ _ => 1, .within 0 1, false⟩,
  ⟨0x18, 0x18, .u 1, .rws, fun _ _ => 30, .special, false⟩,
  ⟨0x19, 0x19, .u 1, .rws, fun _ _ => 70, .special, false⟩,
  ⟨0x1A, 0x1A, .u 2, .rws, fun _ _ => 20, .clamp 1 1000, false⟩,
  ⟨0x1B, 0x1B, .u 1, .rws, fun _ _ => 255, .special, false⟩,
  ⟨0x1C, 0x1C, .u 2, .rws, fun _ _ => 600, .clamp 160 800, false⟩,
  ⟨0x1D, 0x1D, .u 2, .rws, fun _ _ => 800, .clamp 200 2000, false⟩,
  ⟨0x1E, 0x1E, .u 2, .rws, fun _ _ => 20, .clamp 1 1000, false⟩,
  ⟨0x1F, 0x1F, .u 2, .rws, fun i _ => Config.snsAssigned i, .special, false⟩,
  ⟨0x20, 0x20, .u 2, .ro, fun i _ => Config.snsAssigned i, .any, false⟩,
  ⟨0x21, 0x21, .u 2, .ro, fun _ _ => 0, .any, false⟩,
  ⟨0x22, 0x22, .u 8, .ro, fun _ _ => 0, .any, false⟩,
  ⟨0x23, 0x23, .u 2, .ro, fun _ _ => 0, .any, false⟩,
  ⟨0x24, 0x24, .u 1, .cmd, fun _ _ => 0, .act, false⟩,
  ⟨0x25, 0x25, .u 4, .rc, fun _ _ => 0, .any, false⟩,
  ⟨0x26, 0x26, .u 4, .ro, fun _ _ => 0, .any, false⟩]

/-- The subs of 2000. -/
def rowsIbc : List Row := [
  ⟨0x30, 0x30, .u 1, .cmd, fun _ _ => 0, .act, false⟩,
  ⟨0x31, 0x31, .u 4, .ro, fun _ _ => 0, .any, false⟩,
  ⟨0x32, 0x32, .u 4, .ro, fun _ _ => 0, .any, false⟩,
  ⟨0x33, 0x33, .u 2, .ro, fun _ _ => 0, .any, false⟩,
  ⟨0x34, 0x34, .u 2, .rws, fun _ _ => 1, .clamp 1 100, false⟩,
  ⟨0x35, 0x35, .u 4, .rc, fun _ _ => 0, .any, false⟩,
  ⟨0x36, 0x36, .u 2, .rws, fun _ _ => 4096, .clamp 3277 5570, false⟩,
  ⟨0x37, 0x37, .u 2, .rws, fun _ _ => 32000, .clamp 24000 44000, false⟩,
  ⟨0x38, 0x38, .u 4, .rc, fun _ _ => 0, .any, false⟩]

/-- The subs of 2800 onward, one index per instance. -/
def rowsPh : List Row := [
  ⟨0x01, 0x01, .u 1, .ro, fun _ _ => 0, .any, false⟩,
  ⟨0x02, 0x02, .u 1, .ro, fun i _ => Config.phRail i, .any, false⟩,
  ⟨0x03, 0x03, .u 1, .ro, fun i _ => Config.phType i, .any, false⟩,
  ⟨0x04, 0x04, .u 2, .rws, fun i _ => Config.phRating i, .special, false⟩,
  ⟨0x05, 0x05, .u 2, .rws, fun _ _ => 6000, .clamp 500 7000, false⟩,
  ⟨0x06, 0x06, .u 2, .rws, fun _ _ => 1000, .special, false⟩,
  ⟨0x07, 0x07, .s 2, .ro, fun _ _ => 0, .any, false⟩,
  ⟨0x08, 0x08, .s 2, .ro, fun _ _ => 0, .any, false⟩,
  ⟨0x09, 0x09, .u 2, .ro, fun _ _ => 0, .any, false⟩,
  ⟨0x0A, 0x0A, .s 2, .ro, fun _ _ => 0, .any, false⟩,
  ⟨0x0B, 0x0B, .u 1, .ro, fun _ _ => 0, .any, false⟩,
  ⟨0x0C, 0x0C, .u 8, .ro, fun _ _ => 0, .any, false⟩,
  ⟨0x0D, 0x0D, .u 1, .cmd, fun _ _ => 0, .act, false⟩,
  ⟨0x0E, 0x0E, .u 8, .ro, fun _ _ => 0, .any, false⟩,
  ⟨0x0F, 0x0F, .u 4, .rc, fun _ _ => 0, .any, false⟩,
  ⟨0x10, 0x10, .u 4, .rc, fun _ _ => 0, .any, false⟩,
  ⟨0x11, 0x11, .u 4, .rc, fun _ _ => 0, .any, false⟩,
  ⟨0x12, 0x12, .u 4, .rc, fun _ _ => 0, .any, false⟩,
  ⟨0x13, 0x13, .u 4, .rc, fun _ _ => 0, .any, false⟩,
  ⟨0x14, 0x14, .u 4, .rc, fun _ _ => 0, .any, false⟩]

/-- The subs of 3200. -/
def rowsUpbeat : List Row := [
  ⟨0x01, 0x01, .u 1, .rws, fun _ _ => 1, .within 0 1, false⟩,
  ⟨0x02, 0x02, .u 1, .ro, fun _ _ => 32, .any, false⟩,
  ⟨0x03, 0x03, .u 1, .ro, fun _ _ => 8, .any, false⟩,
  ⟨0x04, 0x04, .u 1, .ro, fun _ _ => 16, .any, false⟩,
  ⟨0x05, 0x05, .u 1, .ro, fun _ _ => 48, .any, false⟩,
  ⟨0x06, 0x06, .u 2, .rws, fun _ _ => 10, .clamp 1 1000, false⟩,
  ⟨0x07, 0x07, .u 1, .rws, fun _ _ => 20, .clamp 5 100, false⟩,
  ⟨0x08, 0x08, .u 1, .rws, fun _ _ => 20, .clamp 5 100, false⟩,
  ⟨0x09, 0x09, .u 1, .rws, fun _ _ => 15, .clamp 5 100, false⟩,
  ⟨0x0A, 0x0A, .u 1, .rws, fun _ _ => 15, .clamp 5 100, false⟩,
  ⟨0x0B, 0x0B, .u 1, .rws, fun _ _ => 16, .clamp 4 80, false⟩,
  ⟨0x0C, 0x0C, .u 4, .rws, fun _ _ => 1077952576, .special, false⟩,
  ⟨0x0D, 0x0D, .u 8, .ro, fun _ _ => 0, .any, false⟩]

/-- The subs of 3201. -/
def rowsClassTab : List Row := [
  ⟨0x01, 0x01, .u 4, .ro, fun _ _ => 0, .any, false⟩,
  ⟨0x02, 0x10, .u 4, .rws, fun _ j => 5000 * (j + 1), .clamp 0 300000, false⟩]

/-- The subs of 3208 onward, one index per instance. -/
def rowsUbRail : List Row := [
  ⟨0x01, 0x01, .u 1, .rws, fun _ _ => 3, .within 0 3, false⟩,
  ⟨0x02, 0x02, .u 2, .rws, fun _ _ => 1500, .clamp 100 6000, false⟩,
  ⟨0x03, 0x03, .u 2, .rws, fun _ _ => 1024, .clamp 16 2047, false⟩,
  ⟨0x04, 0x04, .u 1, .rws, fun _ _ => 64, .clamp 1 96, false⟩,
  ⟨0x05, 0x05, .u 2, .rws, fun _ _ => 20, .clamp 0 1000, false⟩,
  ⟨0x06, 0x06, .u 2, .rws, fun _ _ => 80, .special, false⟩,
  ⟨0x07, 0x07, .u 2, .rws, fun _ _ => 200, .clamp 0 10000, false⟩,
  ⟨0x08, 0x08, .u 2, .rws, fun _ _ => 2000, .clamp 0 50000, false⟩,
  ⟨0x09, 0x09, .u 2, .rws, fun _ _ => 256, .clamp 64 4096, false⟩,
  ⟨0x0A, 0x0A, .u 2, .ro, fun _ _ => 0, .any, false⟩,
  ⟨0x0B, 0x0B, .u 8, .ro, fun _ _ => 0, .any, false⟩,
  ⟨0x0C, 0x0C, .u 4, .rc, fun _ _ => 0, .any, false⟩,
  ⟨0x0D, 0x0D, .u 4, .rc, fun _ _ => 0, .any, false⟩,
  ⟨0x0E, 0x0E, .u 4, .rc, fun _ _ => 0, .any, false⟩,
  ⟨0x0F, 0x0F, .u 4, .rc, fun _ _ => 0, .any, false⟩,
  ⟨0x10, 0x10, .u 2, .ro, fun _ _ => 0, .any, false⟩]

/-- The subs of 3210 onward, one index per instance. -/
def rowsLane : List Row := [
  ⟨0x01, 0x01, .u 1, .ro, fun i _ => (Config.laneCd i).val, .any, false⟩,
  ⟨0x02, 0x02, .u 1, .ro, fun i _ => Config.cdRail (Config.laneCd i).val, .any, false⟩,
  ⟨0x03, 0x03, .u 1, .rws, fun _ _ => 1, .within 0 1, false⟩,
  ⟨0x04, 0x04, .u 4, .rc, fun _ _ => 0, .any, false⟩,
  ⟨0x05, 0x05, .u 4, .rc, fun _ _ => 0, .any, false⟩,
  ⟨0x06, 0x06, .u 4, .rc, fun _ _ => 0, .any, false⟩,
  ⟨0x07, 0x07, .u 4, .rc, fun _ _ => 0, .any, false⟩,
  ⟨0x08, 0x08, .u 4, .rc, fun _ _ => 0, .any, false⟩,
  ⟨0x09, 0x09, .u 4, .rc, fun _ _ => 0, .any, false⟩,
  ⟨0x0A, 0x0A, .u 4, .rc, fun _ _ => 0, .any, false⟩,
  ⟨0x0B, 0x0B, .u 4, .rc, fun _ _ => 0, .any, false⟩,
  ⟨0x0C, 0x0C, .u 4, .rc, fun _ _ => 0, .any, false⟩,
  ⟨0x0D, 0x0D, .u 4, .rc, fun _ _ => 0, .any, false⟩,
  ⟨0x0E, 0x0E, .u 4, .rc, fun _ _ => 0, .any, false⟩,
  ⟨0x0F, 0x0F, .u 4, .ro, fun _ _ => 0, .any, false⟩,
  ⟨0x10, 0x1F, .u 2, .ro, fun i j => Config.qmap i j, .any, false⟩,
  ⟨0x20, 0x20, .u 8, .ro, fun _ _ => 18446744073709551615, .any, false⟩,
  ⟨0x21, 0x21, .u 4, .ro, fun _ _ => 0, .any, false⟩]

/-- The subs of 3240 onward, one index per instance. -/
def rowsSnare : List Row := [
  ⟨0x01, 0x01, .u 1, .rws, fun _ _ => 255, .special, false⟩,
  ⟨0x02, 0x02, .u 1, .rws, fun _ _ => 2, .clamp 1 4, false⟩,
  ⟨0x03, 0x03, .u 2, .ro, fun _ _ => 0, .any, false⟩,
  ⟨0x04, 0x04, .u 1, .ro, fun _ _ => 15, .any, false⟩,
  ⟨0x05, 0x05, .u 1, .ro, fun _ _ => 0, .any, false⟩,
  ⟨0x06, 0x09, .u 4, .rc, fun _ _ => 0, .any, false⟩,
  ⟨0x0A, 0x0A, .u 8, .ro, fun _ _ => 0, .any, false⟩,
  ⟨0x0B, 0x0B, .u 8, .ro, fun _ _ => 0, .any, false⟩,
  ⟨0x0C, 0x0C, .u 1, .cmd, fun _ _ => 0, .act, false⟩,
  ⟨0x0D, 0x0D, .u 8, .ro, fun _ _ => 0, .any, false⟩,
  ⟨0x0E, 0x0E, .u 8, .ro, fun _ _ => 0, .any, false⟩,
  ⟨0x0F, 0x0F, .u 8, .ro, fun _ _ => 0, .any, false⟩,
  ⟨0x10, 0x10, .u 4, .rws, fun _ _ => 1000, .clamp 1 4000, false⟩,
  ⟨0x11, 0x11, .u 4, .rc, fun _ _ => 0, .any, false⟩,
  ⟨0x12, 0x12, .u 8, .ro, fun _ _ => 0, .any, false⟩,
  ⟨0x13, 0x13, .u 4, .rc, fun _ _ => 0, .any, false⟩]

/-- The subs of 3000 onward, one index per instance. -/
def rowsCd : List Row := [
  ⟨0x01, 0x01, .u 1, .ro, fun _ _ => 3, .any, false⟩,
  ⟨0x02, 0x02, .u 1, .rw, fun _ _ => 64, .act, false⟩,
  ⟨0x03, 0x03, .u 1, .ro, fun _ _ => 64, .any, false⟩,
  ⟨0x04, 0x04, .u 2, .rws, fun i _ => Config.fTable i, .act, false⟩,
  ⟨0x05, 0x05, .u 1, .ro, fun i _ => Config.minCode0 i, .any, false⟩,
  ⟨0x06, 0x06, .u 1, .ro, fun _ _ => 64, .any, false⟩,
  ⟨0x07, 0x07, .u 1, .ro, fun _ _ => 64, .any, false⟩,
  ⟨0x08, 0x08, .u 1, .ro, fun i _ => Config.cdRail i, .any, false⟩,
  ⟨0x09, 0x09, .u 1, .rw, fun _ _ => 0, .act, false⟩,
  ⟨0x0A, 0x0A, .u 1, .ro, fun _ _ => 0, .any, false⟩,
  ⟨0x0B, 0x0B, .u 2, .ro, fun i _ => Config.altFreq i, .any, false⟩,
  ⟨0x0C, 0x0C, .u 2, .ro, fun _ _ => 0, .any, false⟩,
  ⟨0x0D, 0x0D, .u 1, .cmd, fun _ _ => 0, .act, false⟩,
  ⟨0x0E, 0x0E, .u 4, .rc, fun _ _ => 0, .any, false⟩,
  ⟨0x0F, 0x0F, .u 4, .rc, fun _ _ => 0, .any, false⟩,
  ⟨0x10, 0x10, .u 1, .ro, fun _ _ => 0, .any, false⟩,
  ⟨0x11, 0x11, .u 4, .ro, fun _ _ => 0, .any, false⟩,
  ⟨0x12, 0x12, .u 8, .ro, fun _ _ => 0, .any, false⟩,
  ⟨0x13, 0x13, .u 4, .ro, fun _ _ => 0, .any, false⟩,
  ⟨0x14, 0x14, .u 4, .rc, fun _ _ => 0, .any, false⟩,
  ⟨0x15, 0x15, .u 1, .ro, fun _ _ => 0, .any, false⟩,
  ⟨0x16, 0x16, .u 2, .ro, fun i _ => (Config.vptBase i).toNat, .any, false⟩,
  ⟨0x17, 0x17, .u 2, .ro, fun _ _ => 80, .any, false⟩,
  ⟨0x40, 0x5F, .u 8, .ro, fun i j => (Config.fmaxFused i j).toNat, .any, false⟩,
  ⟨0x60, 0x7F, .u 8, .ro, fun i j => (Config.fmaxFused i j).toNat, .any, false⟩]

/-- The subs of 3100 onward, one index per instance. -/
def rowsPd : List Row := [
  ⟨0x01, 0x01, .u 1, .ro, fun _ _ => 0, .any, false⟩,
  ⟨0x02, 0x02, .u 1, .rw, fun _ _ => 0, .act, false⟩,
  ⟨0x03, 0x03, .u 1, .ro, fun _ _ => 0, .any, false⟩,
  ⟨0x04, 0x04, .u 1, .cmd, fun _ _ => 0, .act, false⟩,
  ⟨0x05, 0x05, .u 1, .ro, fun i _ => (Config.pdRail i).val, .any, false⟩,
  ⟨0x06, 0x06, .u 1, .ro, fun i _ => (Config.pdCd i).val, .any, false⟩,
  ⟨0x07, 0x07, .u 1, .rws, fun i _ => if Config.pdRetCells i then Config.retMode i else 0, .special, false⟩,
  ⟨0x08, 0x08, .u 1, .ro, fun _ _ => 0, .any, false⟩,
  ⟨0x09, 0x09, .u 2, .rws, fun _ _ => 500, .special, false⟩,
  ⟨0x0A, 0x0A, .u 2, .rws, fun _ _ => 500, .special, false⟩,
  ⟨0x0B, 0x0B, .u 2, .rws, fun _ _ => 40, .clamp 8 200, false⟩,
  ⟨0x0C, 0x0C, .u 4, .ro, fun _ _ => 0, .any, false⟩,
  ⟨0x0D, 0x0D, .u 4, .ro, fun _ _ => 0, .any, false⟩,
  ⟨0x0E, 0x0E, .u 1, .ro, fun _ _ => 0, .any, false⟩,
  ⟨0x0F, 0x0F, .u 1, .ro, fun _ _ => 0, .any, false⟩,
  ⟨0x10, 0x10, .u 4, .rc, fun _ _ => 0, .any, false⟩]

/-- The subs of 3300. -/
def rowsClk : List Row := [
  ⟨0x01, 0x01, .u 1, .ro, fun _ _ => 0, .any, false⟩,
  ⟨0x02, 0x02, .u 1, .ro, fun _ _ => 0, .any, false⟩,
  ⟨0x03, 0x03, .u 8, .ro, fun _ _ => 0, .any, false⟩,
  ⟨0x04, 0x04, .u 4, .ro, fun _ _ => 0, .any, false⟩,
  ⟨0x05, 0x05, .u 4, .ro, fun _ _ => 0, .any, false⟩,
  ⟨0x06, 0x06, .s 4, .ro, fun _ _ => 0, .any, false⟩,
  ⟨0x07, 0x07, .u 1, .ro, fun _ _ => 0, .any, false⟩,
  ⟨0x08, 0x08, .u 1, .ro, fun _ _ => 0, .any, false⟩,
  ⟨0x09, 0x09, .u 4, .ro, fun _ _ => 0, .any, false⟩,
  ⟨0x0A, 0x0A, .u 1, .ro, fun _ _ => (Config.compDiode : Fin 48).val, .any, false⟩,
  ⟨0x0B, 0x0B, .s 4, .rws, fun _ _ => 0, .clamp (-50000) 50000, false⟩,
  ⟨0x0C, 0x0C, .s 4, .rws, fun _ _ => 0, .clamp (-100000) 100000, false⟩,
  ⟨0x0D, 0x0D, .s 4, .rws, fun _ _ => 0, .clamp (-100000) 100000, false⟩,
  ⟨0x0E, 0x0E, .s 4, .rws, fun _ _ => 0, .clamp (-100000) 100000, false⟩,
  ⟨0x0F, 0x0F, .s 4, .ro, fun _ _ => 0, .any, false⟩,
  ⟨0x10, 0x10, .u 1, .rws, fun _ _ => 1, .within 0 1, false⟩]

/-- The subs of 3301. -/
def rowsObs : List Row := [
  ⟨0x01, 0x01, .u 2, .rws, fun _ _ => 0, .special, false⟩,
  ⟨0x02, 0x02, .u 4, .rws, fun _ _ => 16, .special, false⟩,
  ⟨0x03, 0x03, .u 4, .rws, fun _ _ => 1, .clamp 1 1048576, false⟩]

/-- The subs of 4000 onward, one index per instance. -/
def rowsLoop : List Row := [
  ⟨0x01, 0x01, .u 1, .ro, fun _ _ => 0, .any, false⟩,
  ⟨0x02, 0x02, .u 2, .ro, fun _ _ => 0, .any, false⟩,
  ⟨0x03, 0x03, .u 2, .ro, fun _ _ => 0, .any, false⟩,
  ⟨0x04, 0x04, .s 2, .ro, fun _ _ => 0, .any, false⟩,
  ⟨0x05, 0x05, .u 2, .rws, fun _ _ => 200, .clamp 40 400, false⟩,
  ⟨0x06, 0x06, .u 1, .ro, fun _ _ => 0, .any, false⟩,
  ⟨0x07, 0x07, .u 1, .rc, fun _ _ => 0, .any, false⟩,
  ⟨0x08, 0x08, .u 1, .ro, fun _ _ => 0, .any, false⟩,
  ⟨0x09, 0x09, .u 2, .rws, fun _ _ => 40, .clamp 8 200, false⟩,
  ⟨0x0A, 0x0A, .u 1, .rws, fun _ _ => 8, .clamp 1 255, false⟩,
  ⟨0x0B, 0x0B, .u 1, .ro, fun _ _ => 0, .any, false⟩,
  ⟨0x0C, 0x0C, .u 1, .rw, fun _ _ => 255, .special, false⟩,
  ⟨0x0D, 0x0D, .u 2, .rws, fun _ _ => 58448, .any, false⟩,
  ⟨0x0E, 0x0E, .u 4, .rws, fun _ _ => 3939850, .special, false⟩,
  ⟨0x0F, 0x0F, .u 1, .rws, fun _ _ => 2, .clamp 1 10, false⟩,
  ⟨0x10, 0x10, .u 1, .rws, fun i _ => (Config.phCount i + 1) / 2, .special, false⟩,
  ⟨0x11, 0x11, .u 1, .rws, fun _ _ => 4, .clamp 1 255, false⟩,
  ⟨0x12, 0x12, .u 1, .rws, fun _ _ => 4, .clamp 1 8, false⟩,
  ⟨0x13, 0x13, .s 4, .ro, fun _ _ => 0, .any, false⟩,
  ⟨0x14, 0x14, .u 4, .rc, fun _ _ => 0, .any, false⟩,
  ⟨0x15, 0x15, .u 1, .rws, fun _ _ => 1, .within 0 1, false⟩,
  ⟨0x16, 0x16, .u 2, .rws, fun _ _ => 200, .clamp 40 800, false⟩,
  ⟨0x17, 0x17, .u 2, .rws, fun _ _ => 100, .clamp 1 20000, false⟩,
  ⟨0x18, 0x18, .u 2, .rws, fun _ _ => 20, .clamp 0 1000, false⟩,
  ⟨0x19, 0x19, .u 1, .rws, fun _ _ => 8, .clamp 1 16, false⟩,
  ⟨0x1A, 0x1A, .u 2, .rws, fun _ _ => 80, .special, false⟩,
  ⟨0x1B, 0x1B, .u 2, .rws, fun _ _ => 400, .clamp 20 20000, false⟩,
  ⟨0x1C, 0x1C, .s 2, .ro, fun _ _ => 0, .any, false⟩,
  ⟨0x1D, 0x1D, .u 2, .ro, fun _ _ => 0, .any, false⟩,
  ⟨0x1E, 0x1E, .u 2, .rc, fun _ _ => 0, .any, false⟩,
  ⟨0x1F, 0x1F, .u 4, .rc, fun _ _ => 0, .any, false⟩,
  ⟨0x20, 0x20, .u 8, .ro, fun _ _ => 0, .any, false⟩,
  ⟨0x21, 0x21, .u 4, .rc, fun _ _ => 0, .any, false⟩,
  ⟨0x22, 0x22, .u 4, .rc, fun _ _ => 0, .any, false⟩,
  ⟨0x23, 0x23, .u 8, .ro, fun _ _ => 0, .any, false⟩,
  ⟨0x24, 0x24, .u 4, .rc, fun _ _ => 0, .any, false⟩,
  ⟨0x3E, 0x3E, .u 1, .ro, fun _ _ => 0, .any, false⟩,
  ⟨0x3F, 0x3F, .u 1, .cmd, fun _ _ => 0, .act, false⟩,
  ⟨0x40, 0x7B, .u 8, .rws, fun i j => Config.coef i j, .special, false⟩]

/-- The subs of 4010 onward, one index per instance. -/
def rowsTrace : List Row := [
  ⟨0x01, 0x01, .u 4, .ro, fun _ _ => 0, .any, false⟩,
  ⟨0x02, 0x02, .u 4, .rw, fun _ _ => 0, .act, false⟩,
  ⟨0x03, 0x03, .u 4, .ro, fun _ _ => 0, .any, true⟩,
  ⟨0x05, 0x05, .u 8, .rws, fun _ _ => 1084818896978313728, .special, false⟩,
  ⟨0x06, 0x06, .u 2, .rws, fun _ _ => 1025, .special, false⟩,
  ⟨0x07, 0x07, .s 4, .rws, fun _ _ => 0, .special, false⟩,
  ⟨0x08, 0x08, .u 2, .rws, fun _ _ => 2048, .special, false⟩,
  ⟨0x09, 0x09, .u 1, .rws, fun _ _ => 0, .special, false⟩,
  ⟨0x0A, 0x0A, .u 1, .cmd, fun _ _ => 0, .act, false⟩,
  ⟨0x0B, 0x0B, .u 8, .ro, fun _ _ => 0, .any, false⟩,
  ⟨0x0C, 0x0C, .u 2, .ro, fun _ _ => 0, .any, false⟩,
  ⟨0x0D, 0x0D, .u 1, .ro, fun _ _ => 0, .any, false⟩,
  ⟨0x10, 0xFF, .u 8, .ro, fun _ _ => 0, .any, false⟩]

/-- The subs of 4080. -/
def rowsArb : List Row := [
  ⟨0x01, 0x05, .u 2, .rc, fun _ _ => 0, .any, false⟩,
  ⟨0x06, 0x0A, .u 8, .ro, fun _ _ => 0, .any, false⟩,
  ⟨0x0B, 0x0B, .u 4, .rc, fun _ _ => 0, .any, false⟩,
  ⟨0x0C, 0x0C, .u 4, .rc, fun _ _ => 0, .any, false⟩,
  ⟨0x0D, 0x0D, .u 2, .ro, fun _ _ => 1800, .any, false⟩]

/-- The subs of 6000. -/
def rowsBudget : List Row := [
  ⟨0x01, 0x01, .u 4, .rws, fun _ _ => 2400000, .clamp 10000 2400000, false⟩,
  ⟨0x02, 0x02, .u 1, .rws, fun _ _ => 0, .within 0 3, false⟩,
  ⟨0x03, 0x03, .u 4, .rws, fun _ _ => 2400000, .clamp 10000 2400000, false⟩,
  ⟨0x04, 0x04, .u 4, .ro, fun _ _ => 4294967295, .any, false⟩,
  ⟨0x05, 0x05, .u 4, .ro, fun _ _ => 2400000, .any, false⟩,
  ⟨0x06, 0x06, .u 1, .ro, fun _ _ => 0, .any, false⟩,
  ⟨0x07, 0x07, .u 4, .ro, fun _ _ => 0, .any, false⟩,
  ⟨0x08, 0x08, .u 4, .ro, fun _ _ => 0, .any, false⟩,
  ⟨0x09, 0x09, .u 1, .rws, fun _ _ => 2, .clamp 0 20, false⟩,
  ⟨0x0A, 0x0A, .u 2, .rws, fun _ _ => 100, .clamp 10 10000, false⟩,
  ⟨0x0B, 0x0B, .u 2, .rws, fun _ _ => 2000, .clamp 100 60000, false⟩,
  ⟨0x0C, 0x0C, .u 4, .ro, fun _ _ => 0, .any, false⟩,
  ⟨0x0D, 0x0D, .u 1, .ro, fun _ _ => 0, .any, false⟩,
  ⟨0x0E, 0x0E, .u 4, .rc, fun _ _ => 0, .any, false⟩,
  ⟨0x0F, 0x0F, .u 1, .rws, fun _ _ => 5, .clamp 1 50, false⟩,
  ⟨0x10, 0x17, .u 4, .ro, fun _ _ => 4294967295, .any, false⟩,
  ⟨0x18, 0x18, .u 1, .rws, fun _ _ => 95, .clamp 50 100, false⟩,
  ⟨0x19, 0x19, .s 4, .ro, fun _ _ => 0, .any, false⟩,
  ⟨0x1A, 0x1A, .u 4, .rc, fun _ _ => 0, .any, false⟩,
  ⟨0x1B, 0x1B, .u 1, .ro, fun _ _ => 0, .any, false⟩,
  ⟨0x1C, 0x1C, .u 8, .ro, fun _ _ => 0, .any, false⟩,
  ⟨0x1D, 0x1D, .u 4, .rc, fun _ _ => 0, .any, false⟩,
  ⟨0x1E, 0x1E, .u 4, .rc, fun _ _ => 0, .any, false⟩,
  ⟨0x1F, 0x1F, .u 4, .rc, fun _ _ => 0, .any, false⟩,
  ⟨0x20, 0x27, .u 2, .ro, fun _ j => Config.groupRails j, .any, false⟩,
  ⟨0x28, 0x28, .u 4, .rc, fun _ _ => 0, .any, false⟩,
  ⟨0x29, 0x29, .u 4, .rc, fun _ _ => 0, .any, false⟩,
  ⟨0x2A, 0x2A, .u 4, .rc, fun _ _ => 0, .any, false⟩,
  ⟨0x2B, 0x2B, .u 4, .rc, fun _ _ => 0, .any, false⟩,
  ⟨0x2C, 0x2C, .u 4, .rc, fun _ _ => 0, .any, false⟩,
  ⟨0x2D, 0x2D, .u 2, .rws, fun _ _ => 1000, .clamp 10 60000, false⟩,
  ⟨0x2E, 0x2E, .u 2, .rws, fun _ _ => 25, .clamp 0 1000, false⟩,
  ⟨0x2F, 0x2F, .u 1, .rws, fun _ _ => 3, .clamp 1 8, false⟩,
  ⟨0x30, 0x30, .u 1, .ro, fun _ _ => 0, .any, false⟩,
  ⟨0x31, 0x31, .u 2, .rws, fun _ _ => 20, .clamp 1 10000, false⟩,
  ⟨0x32, 0x32, .u 4, .rc, fun _ _ => 0, .any, false⟩]

/-- The subs of 6010. -/
def rowsOpTab : List Row := [
  ⟨0x01, 0x01, .u 4, .ro, fun _ _ => 24576, .any, false⟩,
  ⟨0x02, 0x02, .u 4, .rw, fun _ _ => 0, .act, false⟩,
  ⟨0x03, 0x03, .u 4, .ro, fun _ _ => 0, .any, true⟩,
  ⟨0x04, 0x04, .u 4, .cmd, fun _ _ => 0, .act, false⟩,
  ⟨0x05, 0x05, .u 1, .rws, fun _ _ => 0, .within 0 1, false⟩,
  ⟨0x06, 0x06, .u 8, .ro, fun _ _ => 0, .any, false⟩,
  ⟨0x07, 0x07, .u 1, .rws, fun _ _ => 5, .clamp 0 50, false⟩,
  ⟨0x08, 0x0F, .u 8, .ro, fun _ _ => 0, .any, false⟩,
  ⟨0x10, 0xFF, .u 8, .rw, fun _ _ => 0, .act, false⟩]

/-- The subs of 6100 onward, one index per instance. -/
def rowsPart : List Row := [
  ⟨0x01, 0x01, .u 1, .ro, fun i _ => (Config.ptCd i).val, .any, false⟩,
  ⟨0x02, 0x02, .u 1, .ro, fun i _ => Config.groupOfRail (Config.cdRail (Config.ptCd i).val), .any, false⟩,
  ⟨0x03, 0x03, .u 1, .rws, fun i _ => (Config.ptClass i).val, .within 0 3, false⟩,
  ⟨0x04, 0x04, .u 4, .rws, fun _ _ => 4294967295, .special, false⟩,
  ⟨0x05, 0x05, .u 1, .rws, fun _ _ => 4, .clamp 1 15, false⟩,
  ⟨0x06, 0x06, .u 4, .rws, fun i _ => Config.ptLeakRaw i % 200001, .clamp 0 200000, false⟩,
  ⟨0x07, 0x07, .u 4, .rws, fun i _ => Config.ptDefaultRaw i % 200001, .clamp 0 200000, false⟩,
  ⟨0x08, 0x08, .u 1, .ro, fun _ _ => 0, .any, false⟩,
  ⟨0x09, 0x09, .u 2, .ro, fun _ _ => 256, .any, false⟩,
  ⟨0x0A, 0x0A, .u 8, .ro, fun _ _ => 0, .any, false⟩,
  ⟨0x0B, 0x0B, .u 4, .ro, fun _ _ => 0, .any, false⟩,
  ⟨0x0C, 0x0C, .u 4, .ro, fun _ _ => 0, .any, false⟩,
  ⟨0x0D, 0x0D, .u 4, .ro, fun _ _ => 0, .any, false⟩,
  ⟨0x0E, 0x0E, .u 1, .ro, fun _ _ => 16, .any, false⟩,
  ⟨0x0F, 0x0F, .u 4, .ro, fun _ _ => 4294967295, .any, false⟩,
  ⟨0x10, 0x10, .u 4, .ro, fun _ _ => 0, .any, false⟩,
  ⟨0x11, 0x11, .u 1, .ro, fun _ _ => 0, .any, false⟩]

/-- The subs of 6200 onward, one index per instance. -/
def rowsPid : List Row := [
  ⟨0x01, 0x01, .u 4, .ro, fun _ _ => 1024, .any, false⟩,
  ⟨0x02, 0x02, .u 4, .rw, fun _ _ => 0, .act, false⟩,
  ⟨0x03, 0x03, .u 4, .ro, fun _ _ => 0, .any, true⟩,
  ⟨0x04, 0x04, .u 4, .cmd, fun _ _ => 0, .act, false⟩,
  ⟨0x05, 0x05, .u 8, .rws, fun _ _ => 18446744073709551615, .special, false⟩,
  ⟨0x06, 0x06, .u 8, .rws, fun _ _ => 0, .any, false⟩,
  ⟨0x07, 0x07, .u 4, .rws, fun _ _ => 0, .any, false⟩,
  ⟨0x08, 0x08, .u 8, .rws, fun _ _ => 0, .any, false⟩,
  ⟨0x09, 0x09, .u 4, .rws, fun _ _ => 0, .any, false⟩,
  ⟨0x0A, 0x0A, .u 1, .rws, fun _ _ => 1, .mask 1, false⟩,
  ⟨0x0B, 0x0B, .u 4, .ro, fun _ _ => 0, .any, false⟩,
  ⟨0x0C, 0x0C, .u 8, .ro, fun _ _ => 0, .any, false⟩,
  ⟨0x0D, 0x0D, .u 1, .cmd, fun _ _ => 0, .act, false⟩,
  ⟨0x0E, 0x0E, .u 4, .ro, fun _ _ => 0, .any, false⟩,
  ⟨0x10, 0xFF, .u 8, .rw, fun _ _ => 0, .act, false⟩]

/-- The subs of 5000 onward, one index per instance. -/
def rowsCh : List Row := [
  ⟨0x01, 0x01, .s 2, .ro, fun _ _ => -32768, .any, false⟩,
  ⟨0x02, 0x02, .u 1, .ro, fun i _ => Config.chKind i, .any, false⟩,
  ⟨0x03, 0x03, .u 1, .ro, fun i _ => Config.chSource i, .any, false⟩,
  ⟨0x04, 0x04, .u 1, .ro, fun i _ => if Config.chKind i = 0 then 4 else 0, .any, false⟩,
  ⟨0x05, 0x05, .s 2, .ro, fun _ _ => -32768, .any, false⟩,
  ⟨0x06, 0x06, .u 2, .ro, fun _ _ => 0, .any, false⟩,
  ⟨0x07, 0x07, .u 2, .rws, fun _ _ => 16515, .special, false⟩,
  ⟨0x08, 0x08, .u 2, .rws, fun _ _ => 3435, .special, false⟩,
  ⟨0x09, 0x09, .s 2, .rws, fun _ _ => 0, .special, false⟩,
  ⟨0x0A, 0x0A, .s 2, .rws, fun i _ => if Config.chKind i = 1 then 1760 else if Config.chKind i = 2 then 1360 else 32767, .special, false⟩,
  ⟨0x0B, 0x0B, .u 4, .ro, fun i _ => (Config.hkNb i).toNat, .any, false⟩,
  ⟨0x0C, 0x0C, .u 4, .rc, fun _ _ => 0, .any, false⟩,
  ⟨0x0D, 0x0D, .u 4, .rc, fun _ _ => 0, .any, false⟩,
  ⟨0x0E, 0x0E, .s 2, .rc, fun _ _ => -32768, .any, false⟩,
  ⟨0x0F, 0x0F, .u 8, .ro, fun _ _ => 0, .any, false⟩]

/-- The subs of 5080. -/
def rowsKettle : List Row := [
  ⟨0x01, 0x01, .u 4, .ro, fun _ _ => 5376, .any, false⟩,
  ⟨0x02, 0x02, .u 4, .rw, fun _ _ => 0, .act, false⟩,
  ⟨0x03, 0x03, .u 4, .ro, fun _ _ => 0, .any, true⟩,
  ⟨0x04, 0x04, .u 4, .cmd, fun _ _ => 0, .act, false⟩,
  ⟨0x05, 0x05, .u 8, .ro, fun _ _ => 0, .any, false⟩,
  ⟨0x06, 0x06, .u 1, .rws, fun _ _ => 64, .clamp 1 255, false⟩,
  ⟨0x07, 0x07, .u 1, .rws, fun _ _ => 48, .special, false⟩,
  ⟨0x08, 0x08, .u 2, .rws, fun _ _ => 240, .clamp 48 800, false⟩,
  ⟨0x09, 0x09, .u 2, .rws, fun _ _ => 128, .clamp 16 800, false⟩,
  ⟨0x0A, 0x0A, .u 1, .rws, fun _ _ => 4, .clamp 2 64, false⟩,
  ⟨0x0B, 0x0B, .u 2, .rws, fun _ _ => 80, .clamp 0 480, false⟩,
  ⟨0x0C, 0x0C, .u 1, .rws, fun _ _ => 1, .within 0 1, false⟩,
  ⟨0x0D, 0x0D, .u 1, .rws, fun _ _ => 50, .clamp 10 100, false⟩,
  ⟨0x0E, 0x0E, .u 1, .ro, fun _ _ => 0, .any, false⟩,
  ⟨0x0F, 0x0F, .u 1, .ro, fun _ _ => 0, .any, false⟩,
  ⟨0x10, 0xFF, .u 8, .rw, fun _ _ => 0, .act, false⟩]

/-- The subs of 5090. -/
def rowsGong : List Row := [
  ⟨0x01, 0x01, .u 1, .ro, fun _ _ => 0, .any, false⟩,
  ⟨0x02, 0x02, .u 1, .rws, fun _ _ => 0, .special, false⟩,
  ⟨0x03, 0x03, .u 1, .rws, fun _ _ => 10, .clamp 1 50, false⟩,
  ⟨0x04, 0x04, .u 1, .cmd, fun _ _ => 0, .act, false⟩,
  ⟨0x05, 0x05, .u 1, .rws, fun _ _ => 0, .within 0 1, false⟩,
  ⟨0x06, 0x06, .s 2, .ro, fun _ _ => 2000, .any, false⟩,
  ⟨0x07, 0x07, .s 2, .ro, fun _ _ => 1680, .any, false⟩,
  ⟨0x08, 0x08, .u 8, .ro, fun _ _ => 10000000, .any, false⟩,
  ⟨0x09, 0x09, .u 8, .ro, fun _ _ => 0, .any, false⟩,
  ⟨0x0A, 0x0A, .u 1, .ro, fun _ _ => 0, .any, false⟩,
  ⟨0x0B, 0x0B, .s 2, .ro, fun _ _ => 0, .any, false⟩,
  ⟨0x0C, 0x0C, .u 1, .ro, fun _ _ => 0, .any, false⟩,
  ⟨0x0D, 0x0D, .u 4, .ro, fun _ _ => 0, .any, false⟩,
  ⟨0x0E, 0x0E, .u 4, .ro, fun _ _ => 0, .any, false⟩,
  ⟨0x0F, 0x0F, .u 1, .ro, fun _ _ => 32, .any, false⟩]

/-- The subs of 50A0. -/
def rowsStageTh : List Row := [
  ⟨0x01, 0x01, .s 2, .rws, fun _ _ => 1760, .special, false⟩,
  ⟨0x02, 0x02, .s 2, .rws, fun _ _ => 2160, .special, false⟩,
  ⟨0x03, 0x03, .s 2, .ro, fun _ _ => 80, .any, false⟩,
  ⟨0x04, 0x04, .s 2, .ro, fun _ _ => 0, .any, false⟩,
  ⟨0x05, 0x05, .u 1, .ro, fun _ _ => 0, .any, false⟩]

/-- The subs of 7000. -/
def rowsNode : List Row := [
  ⟨0x01, 0x01, .u 1, .rws, fun _ _ => 0, .within 0 1, false⟩,
  ⟨0x02, 0x02, .u 1, .rws, fun _ _ => 0, .special, false⟩,
  ⟨0x03, 0x03, .u 1, .ro, fun _ _ => 0, .any, false⟩,
  ⟨0x04, 0x04, .u 1, .ro, fun _ _ => 255, .any, false⟩,
  ⟨0x05, 0x05, .u 1, .ro, fun _ _ => 3, .any, false⟩,
  ⟨0x06, 0x06, .u 1, .ro, fun _ _ => 1, .any, false⟩,
  ⟨0x07, 0x07, .u 1, .rws, fun _ _ => 3, .act, false⟩,
  ⟨0x08, 0x08, .u 1, .ro, fun _ _ => 5, .any, false⟩,
  ⟨0x09, 0x09, .s 4, .ro, fun _ _ => 0, .any, false⟩,
  ⟨0x0A, 0x0A, .u 2, .rws, fun _ _ => 20, .clamp 2 1000, false⟩,
  ⟨0x0B, 0x0B, .u 1, .rws, fun _ _ => 50, .clamp 1 100, false⟩,
  ⟨0x0C, 0x0C, .u 8, .ro, fun _ _ => 0, .any, false⟩,
  ⟨0x0D, 0x0D, .s 4, .ro, fun _ _ => 0, .any, false⟩,
  ⟨0x0E, 0x0E, .u 2, .ro, fun _ _ => 1, .any, false⟩,
  ⟨0x0F, 0x0F, .u 4, .rc, fun _ _ => 0, .any, false⟩]

/-- The subs of 7010 onward, one index per instance. -/
def rowsPort : List Row := [
  ⟨0x01, 0x01, .u 1, .ro, fun _ _ => 0, .any, false⟩,
  ⟨0x02, 0x02, .u 1, .ro, fun _ _ => 0, .any, false⟩,
  ⟨0x03, 0x03, .u 4, .ro, fun _ _ => 0, .any, false⟩,
  ⟨0x04, 0x04, .u 1, .ro, fun _ _ => 255, .any, false⟩,
  ⟨0x05, 0x05, .u 1, .ro, fun _ _ => 0, .any, false⟩,
  ⟨0x06, 0x06, .u 4, .ro, fun _ _ => 0, .any, false⟩,
  ⟨0x07, 0x07, .u 4, .ro, fun _ _ => 0, .any, false⟩,
  ⟨0x08, 0x08, .s 2, .rws, fun _ _ => 0, .clamp (-20000) 20000, false⟩,
  ⟨0x09, 0x09, .u 1, .rws, fun _ _ => 64, .clamp 8 255, false⟩,
  ⟨0x0A, 0x0A, .u 8, .ro, fun _ _ => 0, .any, false⟩,
  ⟨0x0B, 0x0B, .u 8, .ro, fun _ _ => 0, .any, false⟩,
  ⟨0x0C, 0x0C, .u 4, .rc, fun _ _ => 0, .any, false⟩,
  ⟨0x0D, 0x0D, .u 4, .rc, fun _ _ => 0, .any, false⟩,
  ⟨0x0E, 0x0E, .u 4, .rc, fun _ _ => 0, .any, false⟩,
  ⟨0x0F, 0x0F, .u 4, .rc, fun _ _ => 0, .any, false⟩,
  ⟨0x10, 0x10, .u 4, .ro, fun _ _ => 0, .any, false⟩,
  ⟨0x11, 0x11, .u 4, .ro, fun _ _ => 0, .any, false⟩,
  ⟨0x12, 0x12, .u 8, .ro, fun _ _ => 0, .any, false⟩,
  ⟨0x13, 0x13, .u 8, .ro, fun _ _ => 0, .any, false⟩,
  ⟨0x14, 0x14, .u 8, .ro, fun _ _ => 0, .any, false⟩,
  ⟨0x15, 0x15, .u 4, .rc, fun _ _ => 0, .any, false⟩]

/-- The subs of 7020. -/
def rowsPace : List Row := [
  ⟨0x01, 0x01, .u 1, .rws, fun _ _ => 255, .special, false⟩,
  ⟨0x02, 0x02, .u 4, .rws, fun _ _ => 4294967295, .any, false⟩,
  ⟨0x03, 0x03, .u 4, .rws, fun _ _ => 4294967295, .any, false⟩,
  ⟨0x04, 0x04, .u 1, .rws, fun _ _ => 0, .within 0 64, false⟩,
  ⟨0x05, 0x05, .u 1, .ro, fun _ _ => 0, .any, false⟩,
  ⟨0x06, 0x06, .u 1, .rws, fun _ _ => 2, .clamp 0 20, false⟩,
  ⟨0x07, 0x07, .u 1, .rws, fun _ _ => 1, .clamp 1 10, false⟩,
  ⟨0x08, 0x08, .u 4, .rws, fun _ _ => 10000, .clamp 1000 1000000, false⟩,
  ⟨0x09, 0x09, .u 1, .ro, fun _ _ => 0, .any, false⟩,
  ⟨0x0A, 0x0A, .u 2, .ro, fun _ _ => 0, .any, false⟩,
  ⟨0x0B, 0x0B, .u 4, .rc, fun _ _ => 0, .any, false⟩,
  ⟨0x0C, 0x0C, .u 8, .ro, fun _ _ => 0, .any, false⟩]

/-- The subs of 7030 onward, one index per instance. -/
def rowsGrp : List Row := [
  ⟨0x01, 0x01, .u 1, .ro, fun _ _ => 0, .any, false⟩,
  ⟨0x02, 0x02, .u 1, .ro, fun _ _ => 0, .any, false⟩,
  ⟨0x03, 0x03, .u 1, .ro, fun _ _ => 0, .any, false⟩,
  ⟨0x04, 0x04, .u 1, .ro, fun _ _ => 0, .any, false⟩,
  ⟨0x05, 0x05, .u 2, .ro, fun _ _ => 0, .any, false⟩,
  ⟨0x06, 0x06, .u 1, .ro, fun _ _ => 0, .any, false⟩,
  ⟨0x07, 0x07, .u 4, .rc, fun _ _ => 0, .any, false⟩,
  ⟨0x08, 0x08, .u 4, .rc, fun _ _ => 0, .any, false⟩,
  ⟨0x09, 0x09, .u 1, .rws, fun _ _ => 0, .act, false⟩]

/-- The subs of 7040. -/
def rowsColl : List Row := [
  ⟨0x01, 0x01, .u 1, .rws, fun _ _ => 1, .within 0 1, false⟩,
  ⟨0x02, 0x02, .u 4, .rws, fun _ _ => 10000, .clamp 1000 1000000, false⟩,
  ⟨0x03, 0x03, .u 8, .rws, fun _ _ => 18446744073709551615, .any, false⟩,
  ⟨0x04, 0x04, .u 8, .ro, fun _ _ => 0, .any, false⟩,
  ⟨0x05, 0x05, .u 8, .ro, fun _ _ => 0, .any, false⟩,
  ⟨0x06, 0x06, .u 1, .rws, fun _ _ => 3, .clamp 1 100, false⟩,
  ⟨0x07, 0x07, .u 1, .rws, fun _ _ => 0, .within 0 1, false⟩,
  ⟨0x08, 0x08, .u 4, .rws, fun _ _ => 2400000, .clamp 10000 2400000, false⟩,
  ⟨0x09, 0x09, .u 1, .ro, fun _ _ => 3, .any, false⟩,
  ⟨0x0A, 0x0A, .u 2, .ro, fun _ _ => 0, .any, false⟩,
  ⟨0x0B, 0x0B, .u 4, .rc, fun _ _ => 0, .any, false⟩,
  ⟨0x0C, 0x0C, .u 4, .ro, fun _ _ => 0, .any, false⟩]

/-- The subs of 8000 onward, one index per instance. -/
def rowsPEn : List Row := [
  ⟨0x01, 0x01, .u 8, .ro, fun _ _ => 0, .any, true⟩,
  ⟨0x02, 0x02, .u 8, .ro, fun _ _ => 0, .any, true⟩,
  ⟨0x03, 0x03, .u 8, .ro, fun _ _ => 0, .any, true⟩,
  ⟨0x04, 0x04, .u 8, .ro, fun _ _ => 0, .any, true⟩,
  ⟨0x05, 0x05, .u 1, .ro, fun i _ => Config.cdRail (Config.ptCd i).val, .any, false⟩,
  ⟨0x06, 0x06, .u 2, .rws, fun i _ => (Config.ptActW i).toNat, .any, false⟩,
  ⟨0x07, 0x07, .u 2, .rws, fun i _ => (Config.ptClkW i).toNat, .any, false⟩,
  ⟨0x08, 0x08, .u 4, .rws, fun i _ => Config.eLeakRaw i % 200001, .clamp 0 200000, false⟩,
  ⟨0x09, 0x09, .u 4, .ro, fun _ _ => 0, .any, false⟩,
  ⟨0x0A, 0x0A, .s 4, .ro, fun _ _ => 0, .any, false⟩,
  ⟨0x0B, 0x0B, .u 4, .ro, fun _ _ => 0, .any, false⟩]

/-- The subs of 8100 onward, one index per instance. -/
def rowsQEn : List Row := [
  ⟨0x01, 0x01, .u 8, .ro, fun _ _ => 0, .any, true⟩,
  ⟨0x02, 0x02, .u 8, .ro, fun _ _ => 0, .any, false⟩,
  ⟨0x03, 0x03, .u 8, .ro, fun _ _ => 0, .any, false⟩,
  ⟨0x04, 0x04, .u 4, .ro, fun _ _ => 0, .any, false⟩,
  ⟨0x05, 0x05, .u 4, .ro, fun _ _ => 0, .any, false⟩,
  ⟨0x06, 0x06, .u 2, .rws, fun i _ => (Config.qWeight i).toNat, .any, false⟩,
  ⟨0x07, 0x07, .u 1, .ro, fun i _ => (Config.qPt i).val, .any, false⟩,
  ⟨0x08, 0x08, .u 8, .ro, fun _ _ => 0, .any, true⟩,
  ⟨0x09, 0x09, .u 8, .ro, fun _ _ => 0, .any, false⟩]

/-- The subs of 8400. -/
def rowsEnTel : List Row := [
  ⟨0x01, 0x08, .u 8, .ro, fun _ _ => 0, .any, true⟩,
  ⟨0x09, 0x10, .u 8, .ro, fun _ _ => 0, .any, true⟩,
  ⟨0x11, 0x18, .u 2, .ro, fun _ _ => 0, .any, false⟩,
  ⟨0x19, 0x19, .u 8, .ro, fun _ _ => 0, .any, false⟩,
  ⟨0x1A, 0x1A, .u 4, .ro, fun _ _ => 0, .any, false⟩,
  ⟨0x1B, 0x1B, .u 1, .cmd, fun _ _ => 0, .act, false⟩,
  ⟨0x1C, 0x1C, .u 8, .ro, fun _ _ => 0, .any, false⟩,
  ⟨0x1D, 0x24, .u 8, .ro, fun _ _ => 0, .any, true⟩,
  ⟨0x28, 0x28, .u 2, .ro, fun _ _ => 2048, .any, false⟩,
  ⟨0x29, 0x29, .u 1, .rws, fun _ _ => 3, .clamp 1 3, false⟩,
  ⟨0x2A, 0x2A, .u 1, .rw, fun _ _ => 0, .within 0 1, false⟩,
  ⟨0x2B, 0x2B, .u 1, .ro, fun _ _ => 1, .any, false⟩,
  ⟨0x2C, 0x2C, .u 2, .rws, fun _ _ => 500, .clamp 20 5000, false⟩,
  ⟨0x2D, 0x2D, .u 8, .ro, fun _ _ => 0, .any, false⟩,
  ⟨0x2E, 0x2E, .u 1, .ro, fun _ _ => 0, .any, false⟩,
  ⟨0x2F, 0x2F, .u 4, .rc, fun _ _ => 0, .any, false⟩,
  ⟨0x30, 0x30, .u 8, .ro, fun _ _ => 0, .any, false⟩]

/-- The subs of 8401 onward, one index per instance. -/
def rowsWin : List Row := [
  ⟨0x01, 0x01, .u 1, .rw, fun _ _ => 0, .act, false⟩,
  ⟨0x02, 0x02, .u 1, .rw, fun _ _ => 1, .special, false⟩,
  ⟨0x03, 0x03, .u 2, .rw, fun _ _ => 0, .special, false⟩,
  ⟨0x04, 0x04, .u 8, .rw, fun _ _ => 0, .special, false⟩,
  ⟨0x05, 0x05, .u 4, .rw, fun _ _ => 64, .special, false⟩,
  ⟨0x06, 0x06, .u 8, .rw, fun _ _ => 0, .special, false⟩,
  ⟨0x07, 0x07, .u 1, .rw, fun _ _ => 0, .special, false⟩,
  ⟨0x08, 0x08, .u 1, .rw, fun _ _ => 0, .special, false⟩,
  ⟨0x09, 0x09, .u 4, .rw, fun _ _ => 1000, .special, false⟩,
  ⟨0x0A, 0x0A, .u 4, .rw, fun _ _ => 1000, .special, false⟩,
  ⟨0x0B, 0x0B, .u 4, .rw, fun _ _ => 0, .special, false⟩,
  ⟨0x0C, 0x0C, .u 8, .rw, fun _ _ => 0, .special, false⟩,
  ⟨0x0D, 0x0D, .u 4, .rw, fun _ _ => 0, .any, false⟩,
  ⟨0x0E, 0x0E, .u 4, .ro, fun _ _ => 0, .any, false⟩,
  ⟨0x0F, 0x0F, .u 4, .ro, fun _ _ => 0, .any, false⟩,
  ⟨0x10, 0x10, .u 4, .ro, fun _ _ => 0, .any, false⟩,
  ⟨0x11, 0x11, .u 4, .rc, fun _ _ => 0, .any, false⟩,
  ⟨0x12, 0x12, .u 8, .ro, fun _ _ => 0, .any, false⟩,
  ⟨0x13, 0x13, .u 4, .rc, fun _ _ => 0, .any, false⟩,
  ⟨0x14, 0x14, .u 4, .rc, fun _ _ => 0, .any, false⟩,
  ⟨0x20, 0x3B, .u 4, .rw, fun _ _ => 0, .special, false⟩]

/-- The subs of 9000. -/
def rowsFw : List Row := [
  ⟨0x01, 0x01, .u 4, .ro, fun _ _ => 0, .any, false⟩,
  ⟨0x02, 0x02, .u 1, .ro, fun _ _ => 0, .any, false⟩,
  ⟨0x03, 0x03, .u 1, .ro, fun _ _ => 0, .any, false⟩,
  ⟨0x04, 0x04, .u 1, .ro, fun _ _ => 0, .any, false⟩,
  ⟨0x05, 0x05, .u 1, .ro, fun _ _ => 0, .any, false⟩,
  ⟨0x06, 0x06, .u 1, .ro, fun _ _ => 3, .any, false⟩,
  ⟨0x07, 0x07, .u 8, .ro, fun _ _ => 60000000, .any, false⟩,
  ⟨0x08, 0x08, .u 2, .ro, fun _ _ => 5000, .any, false⟩,
  ⟨0x09, 0x09, .u 4, .ro, fun _ _ => 134480385, .any, false⟩,
  ⟨0x0A, 0x0A, .u 2, .rws, fun _ _ => 10, .clamp 1 100, false⟩,
  ⟨0x0B, 0x0B, .u 2, .rws, fun _ _ => 100, .clamp 10 1000, false⟩,
  ⟨0x0C, 0x0C, .u 1, .ro, fun _ _ => 1, .any, false⟩,
  ⟨0x0D, 0x0D, .u 1, .ro, fun _ _ => 3, .any, false⟩]

/-- The subs of 9010 onward, one index per instance. -/
def rowsFp : List Row := [
  ⟨0x01, 0x01, .u 1, .ro, fun _ _ => 0, .any, false⟩,
  ⟨0x02, 0x02, .u 1, .ro, fun _ _ => 0, .any, false⟩,
  ⟨0x03, 0x03, .u 1, .cmd, fun _ _ => 0, .act, false⟩,
  ⟨0x04, 0x04, .u 4, .ro, fun _ _ => 0, .any, false⟩,
  ⟨0x05, 0x05, .u 1, .ro, fun _ _ => 0, .any, false⟩,
  ⟨0x06, 0x06, .u 1, .ro, fun _ _ => 0, .any, false⟩,
  ⟨0x07, 0x07, .u 8, .ro, fun _ _ => 0, .any, false⟩,
  ⟨0x08, 0x08, .u 2, .ro, fun _ _ => 0, .any, false⟩,
  ⟨0x09, 0x09, .u 1, .ro, fun _ _ => 0, .any, false⟩,
  ⟨0x0A, 0x0A, .u 1, .rws, fun _ _ => 2, .clamp 1 10, false⟩,
  ⟨0x0B, 0x0B, .u 8, .rws, fun _ _ => 255, .special, false⟩,
  ⟨0x0C, 0x0C, .u 4, .ro, fun _ _ => 0, .any, false⟩]

/-- The subs of 9020 onward, one index per instance. -/
def rowsLog : List Row := [
  ⟨0x01, 0x01, .u 4, .ro, fun _ _ => 4096, .any, false⟩,
  ⟨0x02, 0x02, .u 4, .rw, fun _ _ => 0, .act, false⟩,
  ⟨0x03, 0x03, .u 4, .ro, fun _ _ => 0, .any, true⟩,
  ⟨0x05, 0x05, .u 4, .ro, fun _ _ => 0, .any, true⟩,
  ⟨0x06, 0x06, .u 4, .rc, fun _ _ => 0, .any, false⟩,
  ⟨0x10, 0xFF, .u 8, .ro, fun _ _ => 0, .any, false⟩]

/-- The subs of 9030. -/
def rowsUpd : List Row := [
  ⟨0x01, 0x01, .u 1, .ro, fun _ _ => 0, .any, false⟩,
  ⟨0x02, 0x02, .u 1, .cmd, fun _ _ => 0, .act, false⟩,
  ⟨0x03, 0x03, .u 2, .rws, fun _ _ => 500, .clamp 20 60000, false⟩,
  ⟨0x04, 0x04, .u 2, .ro, fun _ _ => 10, .any, false⟩,
  ⟨0x05, 0x05, .u 4, .ro, fun _ _ => 0, .any, false⟩,
  ⟨0x06, 0x06, .u 1, .ro, fun _ _ => 0, .any, false⟩,
  ⟨0x07, 0x07, .u 1, .ro, fun _ _ => 0, .any, false⟩,
  ⟨0x08, 0x08, .u 1, .ro, fun _ _ => 255, .any, false⟩,
  ⟨0x09, 0x09, .u 1, .rws, fun _ _ => 0, .within 0 2, false⟩,
  ⟨0x0A, 0x0A, .u 1, .ro, fun _ _ => 0, .any, false⟩,
  ⟨0x0B, 0x0B, .u 4, .rws, fun _ _ => 0, .special, false⟩,
  ⟨0x0C, 0x0C, .u 4, .rc, fun _ _ => 0, .any, false⟩,
  ⟨0x0D, 0x0D, .u 8, .ro, fun _ _ => 0, .any, false⟩,
  ⟨0x0E, 0x0E, .u 4, .ro, fun _ _ => 0, .any, false⟩]

/-- The subs of 9031 onward, one index per instance. -/
def rowsSlot : List Row := [
  ⟨0x01, 0x01, .u 1, .ro, fun _ _ => 0, .any, false⟩,
  ⟨0x02, 0x02, .u 2, .ro, fun _ _ => 0, .any, false⟩,
  ⟨0x03, 0x03, .u 4, .ro, fun _ _ => 0, .any, false⟩,
  ⟨0x04, 0x04, .u 4, .ro, fun _ _ => 0, .any, false⟩,
  ⟨0x05, 0x05, .u 2, .ro, fun _ _ => 0, .any, false⟩,
  ⟨0x06, 0x06, .u 2, .ro, fun _ _ => 0, .any, false⟩,
  ⟨0x07, 0x07, .u 4, .ro, fun _ _ => 0, .any, false⟩,
  ⟨0x08, 0x08, .u 4, .ro, fun _ _ => 0, .any, false⟩,
  ⟨0x09, 0x09, .u 1, .ro, fun _ _ => 0, .any, false⟩,
  ⟨0x0A, 0x0A, .u 1, .ro, fun _ _ => 0, .any, false⟩,
  ⟨0x0B, 0x0B, .u 8, .ro, fun _ _ => 0, .any, false⟩]

/-- The subs of 9035. -/
def rowsSett : List Row := [
  ⟨0x01, 0x01, .u 1, .ro, fun _ _ => 0, .any, false⟩,
  ⟨0x02, 0x02, .u 1, .ro, fun _ _ => 0, .any, false⟩,
  ⟨0x03, 0x03, .u 2, .ro, fun _ _ => 0, .any, false⟩,
  ⟨0x04, 0x04, .u 2, .ro, fun _ _ => 0, .any, false⟩,
  ⟨0x05, 0x05, .u 2, .rws, fun _ _ => 1000, .clamp 100 60000, false⟩,
  ⟨0x06, 0x06, .u 2, .ro, fun _ _ => 0, .any, false⟩,
  ⟨0x07, 0x07, .u 1, .cmd, fun _ _ => 0, .act, false⟩,
  ⟨0x08, 0x08, .u 4, .ro, fun _ _ => 0, .any, false⟩,
  ⟨0x09, 0x09, .u 4, .rc, fun _ _ => 0, .any, false⟩,
  ⟨0x0A, 0x0A, .u 4, .rws, fun _ _ => 600, .special, false⟩,
  ⟨0x0B, 0x0B, .u 1, .ro, fun _ _ => 0, .any, false⟩]

/-- The subs of A000. -/
def rowsEv : List Row := [
  ⟨0x01, 0x01, .u 1, .ro, fun _ _ => 0, .any, false⟩,
  ⟨0x02, 0x02, .u 1, .rc, fun _ _ => 0, .any, false⟩,
  ⟨0x03, 0x03, .u 4, .rc, fun _ _ => 0, .any, false⟩,
  ⟨0x04, 0x04, .u 2, .rws, fun _ _ => 0, .mask 0x3FE, false⟩,
  ⟨0x05, 0x05, .u 8, .ro, fun _ _ => 0, .any, false⟩]

/-- The subs of A010. -/
def rowsChest : List Row := [
  ⟨0x01, 0x01, .u 1, .ro, fun _ _ => 0, .any, false⟩,
  ⟨0x02, 0x02, .u 4, .ro, fun _ _ => 0, .any, false⟩,
  ⟨0x03, 0x03, .u 4, .ro, fun _ _ => 0, .any, false⟩,
  ⟨0x04, 0x04, .u 2, .ro, fun _ _ => 0, .any, false⟩,
  ⟨0x05, 0x05, .u 4, .ro, fun _ _ => 0, .any, false⟩,
  ⟨0x06, 0x06, .u 4, .ro, fun _ _ => 0, .any, false⟩,
  ⟨0x07, 0x07, .u 4, .ro, fun _ _ => 0, .any, false⟩,
  ⟨0x08, 0x08, .u 2, .ro, fun _ _ => 0, .any, false⟩,
  ⟨0x09, 0x09, .u 4, .ro, fun _ _ => 0, .any, false⟩,
  ⟨0x0A, 0x0A, .u 4, .ro, fun _ _ => 0, .any, false⟩,
  ⟨0x0B, 0x0B, .u 8, .ro, fun _ _ => 0, .any, false⟩,
  ⟨0x0C, 0x0C, .u 1, .ro, fun _ _ => 0, .any, false⟩,
  ⟨0x0D, 0x0D, .u 4, .rc, fun _ _ => 0, .any, false⟩,
  ⟨0x0E, 0x0E, .u 4, .ro, fun _ _ => 0, .any, false⟩]

/-- The subs of A011. -/
def rowsChestRd : List Row := [
  ⟨0x01, 0x01, .u 4, .ro, fun _ _ => 0, .any, false⟩,
  ⟨0x02, 0x02, .u 4, .rw, fun _ _ => 0, .act, false⟩,
  ⟨0x03, 0x03, .u 4, .ro, fun _ _ => 0, .any, true⟩,
  ⟨0x05, 0x05, .u 1, .ro, fun _ _ => 0, .any, false⟩,
  ⟨0x06, 0x06, .u 4, .rw, fun _ _ => 0, .act, false⟩,
  ⟨0x10, 0xFF, .u 8, .ro, fun _ _ => 0, .any, false⟩]

/-- The subs of A020. -/
def rowsHang : List Row := [
  ⟨0x01, 0x01, .u 1, .ro, fun _ _ => 0, .any, false⟩,
  ⟨0x02, 0x02, .u 1, .cmd, fun _ _ => 0, .act, false⟩,
  ⟨0x03, 0x03, .u 2, .rws, fun _ _ => 0, .special, false⟩,
  ⟨0x04, 0x04, .u 1, .wo, fun _ _ => 0, .act, false⟩,
  ⟨0x05, 0x05, .u 1, .rws, fun _ _ => 4, .special, false⟩,
  ⟨0x06, 0x06, .u 1, .ro, fun _ _ => 0, .any, false⟩,
  ⟨0x07, 0x07, .u 8, .ro, fun _ _ => 0, .any, false⟩,
  ⟨0x08, 0x08, .u 8, .ro, fun _ _ => 0, .any, false⟩,
  ⟨0x09, 0x09, .u 4, .ro, fun _ _ => 0, .any, false⟩,
  ⟨0x0A, 0x0A, .u 4, .rc, fun _ _ => 0, .any, false⟩,
  ⟨0x0B, 0x0B, .u 8, .ro, fun _ _ => 0, .any, false⟩]

/-- The subs of A030. -/
def rowsDump : List Row := [
  ⟨0x01, 0x01, .u 1, .ro, fun _ _ => 0, .any, false⟩,
  ⟨0x02, 0x02, .u 1, .ro, fun _ _ => 0, .any, false⟩,
  ⟨0x03, 0x03, .u 4, .ro, fun _ _ => 0, .any, false⟩,
  ⟨0x04, 0x04, .u 4, .ro, fun _ _ => 0, .any, false⟩,
  ⟨0x05, 0x05, .u 1, .rw, fun _ _ => 0, .within 0 1, false⟩,
  ⟨0x06, 0x06, .u 1, .cmd, fun _ _ => 0, .act, false⟩,
  ⟨0x07, 0x07, .u 4, .ro, fun _ _ => 2940928, .any, false⟩,
  ⟨0x08, 0x08, .u 4, .ro, fun _ _ => 0, .any, false⟩,
  ⟨0x09, 0x09, .u 4, .ro, fun _ _ => 0, .any, false⟩]

/-- The subs of A031. -/
def rowsDumpRd : List Row := [
  ⟨0x01, 0x01, .u 4, .ro, fun _ _ => 0, .any, false⟩,
  ⟨0x02, 0x02, .u 4, .rw, fun _ _ => 0, .act, false⟩,
  ⟨0x03, 0x03, .u 4, .ro, fun _ _ => 0, .any, true⟩,
  ⟨0x05, 0x05, .u 1, .ro, fun _ _ => 0, .any, false⟩,
  ⟨0x10, 0xFF, .u 8, .ro, fun _ _ => 0, .any, false⟩]

/-- The subs of A080 onward, one index per instance. -/
def rowsShelf : List Row := [
  ⟨0x01, 0x01, .u 4, .ro, fun _ _ => 2048, .any, false⟩,
  ⟨0x02, 0x02, .u 4, .rw, fun _ _ => 0, .act, false⟩,
  ⟨0x03, 0x03, .u 4, .ro, fun _ _ => 0, .any, true⟩,
  ⟨0x05, 0x05, .u 4, .ro, fun _ _ => 0, .any, false⟩,
  ⟨0x06, 0x06, .u 4, .rc, fun _ _ => 0, .any, false⟩,
  ⟨0x07, 0x07, .u 1, .ro, fun i _ => i, .any, false⟩,
  ⟨0x10, 0xFF, .u 8, .ro, fun _ _ => 0, .any, false⟩]

/-- The subs of B000. -/
def rowsSd : List Row := [
  ⟨0x01, 0x01, .u 1, .cmd, fun _ _ => 0, .act, false⟩,
  ⟨0x02, 0x02, .u 1, .rws, fun _ _ => 1, .within 0 1, false⟩,
  ⟨0x03, 0x03, .u 1, .ro, fun _ _ => 0, .any, false⟩,
  ⟨0x04, 0x04, .u 4, .ro, fun _ _ => 0, .any, false⟩,
  ⟨0x05, 0x05, .u 1, .ro, fun _ _ => 0, .any, false⟩,
  ⟨0x06, 0x06, .u 8, .ro, fun _ _ => 0, .any, false⟩,
  ⟨0x07, 0x07, .u 4, .ro, fun _ _ => 0, .any, false⟩]

/-- The subs of B010. -/
def rowsSt : List Row := [
  ⟨0x01, 0x01, .u 1, .ro, fun _ _ => 1, .any, false⟩,
  ⟨0x02, 0x02, .u 1, .ro, fun _ _ => 0, .any, false⟩,
  ⟨0x03, 0x03, .u 1, .ro, fun _ _ => 0, .any, false⟩,
  ⟨0x04, 0x04, .u 4, .ro, fun _ _ => 0, .any, false⟩,
  ⟨0x05, 0x05, .u 4, .ro, fun _ _ => stExpected.toNat, .any, false⟩,
  ⟨0x06, 0x06, .u 4, .ro, fun _ _ => 0, .any, false⟩,
  ⟨0x07, 0x07, .u 1, .cmd, fun _ _ => 0, .act, false⟩,
  ⟨0x08, 0x08, .u 1, .rws, fun _ _ => 0, .within 0 1, false⟩,
  ⟨0x09, 0x09, .u 4, .ro, fun _ _ => 0, .any, false⟩]

/-- The subs of B020 onward, one index per instance. -/
def rowsBlk : List Row := [
  ⟨0x01, 0x01, .u 4, .ro, fun _ _ => 0, .any, false⟩,
  ⟨0x02, 0x02, .u 4, .ro, fun i _ => (Config.bExpect i).toNat, .any, false⟩,
  ⟨0x03, 0x03, .u 2, .ro, fun _ _ => 0, .any, false⟩,
  ⟨0x04, 0x04, .u 2, .ro, fun _ _ => 0, .any, false⟩,
  ⟨0x05, 0x05, .u 2, .ro, fun _ _ => 65535, .any, false⟩,
  ⟨0x06, 0x06, .u 1, .ro, fun _ _ => 0, .any, false⟩,
  ⟨0x07, 0x07, .u 4, .ro, fun _ _ => 0, .any, false⟩]

/-- The subs of B030. -/
def rowsStart : List Row := [
  ⟨0x01, 0x01, .u 1, .ro, fun _ _ => 0, .any, false⟩,
  ⟨0x02, 0x02, .u 8, .rws, fun _ _ => 18446744070039541303, .special, false⟩,
  ⟨0x03, 0x03, .u 2, .rws, fun _ _ => 50, .clamp 0 10000, false⟩,
  ⟨0x04, 0x04, .u 2, .rws, fun _ _ => 100, .clamp 10 1000, false⟩,
  ⟨0x05, 0x05, .u 2, .rws, fun _ _ => 100, .clamp 0 10000, false⟩,
  ⟨0x06, 0x06, .u 1, .rws, fun _ _ => 1, .within 0 1, false⟩,
  ⟨0x07, 0x07, .u 1, .cmd, fun _ _ => 0, .act, false⟩,
  ⟨0x08, 0x08, .u 1, .ro, fun _ _ => 0, .any, false⟩,
  ⟨0x09, 0x09, .u 1, .ro, fun _ _ => 0, .any, false⟩,
  ⟨0x0A, 0x0A, .u 4, .ro, fun _ _ => 0, .any, false⟩,
  ⟨0x0B, 0x0B, .u 2, .rws, fun _ _ => 1000, .clamp 10 60000, false⟩,
  ⟨0x0C, 0x0C, .u 4, .ro, fun _ _ => 0, .any, false⟩]

/-- The subs of B040. -/
def rowsLcAuth : List Row := [
  ⟨0x01, 0x01, .u 4, .ro, fun _ _ => 512, .any, false⟩,
  ⟨0x02, 0x02, .u 4, .rw, fun _ _ => 0, .act, false⟩,
  ⟨0x03, 0x03, .u 4, .ro, fun _ _ => 0, .any, true⟩,
  ⟨0x04, 0x04, .u 4, .cmd, fun _ _ => 0, .act, false⟩,
  ⟨0x05, 0x05, .u 8, .ro, fun _ _ => Config.nonce.toNat, .any, false⟩,
  ⟨0x06, 0x06, .u 1, .ro, fun _ _ => 0, .any, false⟩,
  ⟨0x10, 0xFF, .u 8, .rw, fun _ _ => 0, .act, false⟩]

/-- The subs of B050. -/
def rowsAe : List Row := [
  ⟨0x01, 0x01, .u 4, .cmd, fun _ _ => 0, .act, false⟩,
  ⟨0x02, 0x02, .u 2, .rw, fun _ _ => 1, .clamp 1 65535, false⟩,
  ⟨0x03, 0x03, .u 4, .ro, fun _ _ => 0, .any, false⟩]

/-- The subs of 9033. -/
def rowsChunk : List Row := [
  ⟨0x01, 0x01, .u 4, .ro, fun _ _ => 264, .any, false⟩]

/-- The subs of 9034. -/
def rowsUpdMap : List Row := [
  ⟨0x01, 0x01, .u 4, .ro, fun _ _ => 4096, .any, false⟩,
  ⟨0x02, 0x02, .u 4, .rw, fun _ _ => 0, .act, false⟩,
  ⟨0x03, 0x03, .u 4, .ro, fun _ _ => 0, .any, true⟩,
  ⟨0x10, 0xFF, .u 8, .ro, fun _ _ => 0, .any, false⟩]

/-- The indices of the dictionary that exist in Z-REF: first index, count, subs (R2, R85). -/
def dictGroups : List (Nat × Nat × List Row) :=
  [(0x1000, 1, rowsIdent), (0x1001, 1, rowsGenPar), (0x1100, 1, rowsIrq), (0x1101, 1, rowsAlarm), (0x1102, 1, rowsLost), (0x1110, 1, rowsLadder), (0x1111, 1, rowsSrcRail), (0x1112, 1, rowsSrcCd), (0x1113, 1, rowsSrcPt), (0x1114, 1, rowsSrcPd), (0x1200, 1, rowsXport), (0x1201, 1, rowsLegacy)] ++
  [(0x1202, 1, rowsDictSt), (0x1210, 1, rowsAct), (0x1220, 2, rowsRing), (0x1300, 1, rowsLc), (0x1301, 1, rowsKeyLad), (0x2000, 8, rowsRail), (0x2800, 96, rowsPh), (0x3000, 64, rowsCd), (0x3100, 96, rowsPd), (0x3200, 1, rowsUpbeat), (0x3201, 1, rowsClassTab), (0x3208, 8, rowsUbRail)] ++
  [(0x3210, 32, rowsLane), (0x3240, 64, rowsSnare), (0x3300, 1, rowsClk), (0x3301, 1, rowsObs), (0x4000, 8, rowsLoop), (0x4010, 8, rowsTrace), (0x4080, 1, rowsArb), (0x5000, 128, rowsCh), (0x5080, 1, rowsKettle), (0x5090, 1, rowsGong), (0x50A0, 1, rowsStageTh), (0x6000, 1, rowsBudget)] ++
  [(0x6010, 1, rowsOpTab), (0x6100, 128, rowsPart), (0x6200, 256, rowsPid), (0x7000, 1, rowsNode), (0x7010, 4, rowsPort), (0x7020, 1, rowsPace), (0x7030, 16, rowsGrp), (0x7040, 1, rowsColl), (0x8000, 128, rowsPEn), (0x8100, 512, rowsQEn), (0x8400, 1, rowsEnTel), (0x8401, 15, rowsWin)] ++
  [(0x9000, 1, rowsFw), (0x9010, 4, rowsFp), (0x9020, 4, rowsLog), (0x9030, 1, rowsUpd), (0x9031, 2, rowsSlot), (0x9033, 1, rowsChunk), (0x9034, 1, rowsUpdMap), (0x9035, 1, rowsSett), (0xA000, 1, rowsEv), (0xA010, 1, rowsChest), (0xA011, 1, rowsChestRd), (0xA020, 1, rowsHang)] ++
  [(0xA030, 1, rowsDump), (0xA031, 1, rowsDumpRd), (0xA080, 128, rowsShelf), (0xB000, 1, rowsSd), (0xB010, 1, rowsSt), (0xB020, 6, rowsBlk), (0xB030, 1, rowsStart), (0xB040, 1, rowsLcAuth), (0xB050, 1, rowsAe)]


/-- Whether the unit of a shelf is present in Z-REF (R407). -/
def shelfUnit (u : Nat) : Bool :=
  decide (u < 4) || (decide (8 ≤ u) && decide (u < 16)) || (decide (16 ≤ u) && decide (u < 20)) || u = 24 || decide (64 ≤ u)

/-- The group that holds an index: its first index and its rows. Index 2000 alone also carries the converter subs (R150). -/
def groupOf (idx : Nat) : Option (Nat × List Row) :=
  match dictGroups.find? (fun g => decide (g.1 ≤ idx) && decide (idx < g.1 + g.2.1)) with
  | some g => if g.1 = 0xA080 && !shelfUnit (idx - 0xA080) then none else some (g.1, if idx = 0x2000 then g.2.2 ++ rowsIbc else g.2.2)
  | none => none

/-- The row of a key, with the instance of its index (R84, R85). -/
def rowOf (key : Nat) : Option (Nat × Row) :=
  match groupOf (key / 256) with
  | some (base, rows) =>
    match rows.find? (fun r => decide (r.lo ≤ key % 256) && decide (key % 256 ≤ r.hi)) with
    | some r => some (key / 256 - base, r)
    | none => none
  | none => none

/-- HIGHEST_SUB of an index (R85): the highest sub number present. -/
def highestSub (idx : Nat) : Option Nat :=
  match groupOf idx with
  | some (_, rows) => some (rows.foldl (fun m r => max m r.hi) 0)
  | none => none

/-- The default value of a key (R86, R90): what the sub holds at reset. -/
def dictDefault (key : Nat) : Int :=
  match rowOf key with
  | some (i, r) => r.dflt i (key % 256 - r.lo)
  | none => 0

/-- The type of a key's value. -/
def tyOf (key : Nat) : Ty :=
  match rowOf key with
  | some (_, r) => r.ty
  | none => .u 8

/-- Whether the manual says the count of this key wraps. -/
def wrapsOf (key : Nat) : Bool :=
  match rowOf key with
  | some (_, r) => r.wraps
  | none => false

end Sys2Proof.Machine
end

