-- ==== Sys2Proof/Machine/Table.lean ====
section
/-! DEFINITION. Sparse tables: lists of key and value pairs with strictly rising keys. An unlisted key reads as its default. -/

namespace Sys2Proof.Machine

/-- The value of a key: the listed one, or the default of the key. -/
def tabGet {α : Type} (d : Nat → α) (t : List (Nat × α)) (k : Nat) : α :=
  match t with
  | [] => d k
  | (k', v) :: r => if k = k' then v else tabGet d r k

/-- The table with the value of one key replaced, its keys still rising. -/
def tabPut {α : Type} (t : List (Nat × α)) (k : Nat) (v : α) : List (Nat × α) :=
  match t with
  | [] => [(k, v)]
  | (k', v') :: r => if k < k' then (k, v) :: (k', v') :: r else if k = k' then (k, v) :: r else (k', v') :: tabPut r k v

/-- The table without a key. -/
def tabDel {α : Type} (t : List (Nat × α)) (k : Nat) : List (Nat × α) := t.filter (fun p => p.1 ≠ k)

/-- The canonical form: keys strictly rise. -/
def tabWf {α : Type} : List (Nat × α) → Bool
  | [] => true
  | [_] => true
  | (k, _) :: (k', v') :: r => decide (k < k') && tabWf ((k', v') :: r)

/-- Replace the element at a place of a list. -/
def listSet {α : Type} (l : List α) (i : Nat) (v : α) : List α := l.set i v

end Sys2Proof.Machine
end

