-- ==== Sys2Proof/Machine/State.lean ====
section
/-! DEFINITION. The state of the block: the object dictionary (spec/03), and the state the manual's chapters give each part beside it; the queue of commands; reset. -/

namespace Sys2Proof.Machine

/-- What stops the block. No command of this model raises a fault: the manual describes no stop of the whole block. -/
inductive Fault where
  /-- Raised by nothing (safe). -/
  | none
  deriving DecidableEq, Repr

/-- What has no meaning in the model. -/
inductive Refusal where
  /-- A command without a meaning in the model: raised by the arms of exec that are still rejected (safe). -/
  | notModelled (mnemonic : String)
  /-- An access to F000–FFFF in a life-cycle state in which these indices serve production test, which the manual says it
  does not describe (R112): raised by DICT_WRITE, READ_CLEAR and the MCTP reads and writes (safe). -/
  | vendorReserved
  deriving DecidableEq, Repr

/-- The instant a record describes (R406, R408): its beat and tick, and whether the node's beat time was its own then (ALIGN_STATE UNLOADED
or HOLDOVER). -/
structure Stamp where
  beat : Nat := 0
  tick : Nat := 0
  own : Bool := false
  deriving DecidableEq, Repr

/-! ### Ladder and scheduler (spec/01) -/

/-- What one rung contributes to one actuator (R31, R32): at most one range and one demand. -/
structure Contrib where
  range : Option (Int × Int) := none
  demand : Option Int := none
  deriving DecidableEq, Repr

/-- A transaction (R28, R106): its tag, its SOFT_RST epoch, actuator and requested value. `tag` none: a dictionary or
firmware write, which has no completion record (R98, R106, R212); whether it came over the host target port (R110). -/
structure Txn where
  tag : Option Nat
  epoch : Nat
  rung : Nat
  act : Nat
  value : Int
  host : Bool
  deriving DecidableEq, Repr

/-- A pending scheduled action (R20 to R22): its instant, its order of acceptance, and for a firmware action its whole
contribution (R106, R252). -/
structure Sched where
  txn : Txn
  beat : Nat
  tick : Nat
  order : Nat
  delivered : Bool
  fw : Option Contrib
  deriving DecidableEq, Repr

/-- A transaction that waits: for the interlock to let its code through (R29), for set-point steps (R33), or for a power
domain (R212); `due`: the beat and tick of a scheduled one, which its record carries (R109). -/
structure Waiting where
  txn : Txn
  since : Nat
  due : Option (Nat × Nat)
  deriving DecidableEq, Repr

/-- A message to a satellite on the ring's two lanes (R15). -/
structure RingMsg where
  sat : Nat
  item : Nat
  value : Int
  on0 : Bool
  on1 : Bool
  taken : Bool
  deriving DecidableEq, Repr

/-- What the ring holds of one satellite (R16); `ftPend`: a write of F_TABLE that its DCU takes when it leaves isolation. -/
structure SatInt where
  lastGood : Nat := 0
  isolated : Bool := false
  broken0 : Bool := false
  broken1 : Bool := false
  ftPend : Bool := false
  deriving DecidableEq, Repr

/-- The hub's ladder, scheduler and ring state; the values last sent to the satellites with their HCLK; the interval of lost
management under way (R40: its beat, cause and rail) and the ended ones (end and length in beats, R41). -/
structure Hub where
  lad : List (Nat × Contrib) := []
  goal : List (Nat × Int) := []
  brush : List (Nat × Int) := []
  sched : List Sched := []
  schedOrder : Nat := 0
  schedAt : List (Nat × Nat) := []
  waiting : List Waiting := []
  ring : List RingMsg := []
  sats : List (Nat × SatInt) := []
  sent : List (Nat × Int × Nat) := []
  lost : Option (Nat × Nat × Nat) := none
  lostLog : List (Nat × Nat) := []
  ringH : List Word64 := []
  ringM : List Word64 := []
  tags : List Nat := []
  epoch : Nat := 0
  stagedA : Option Word64 := none
  keepAt : Nat := 0
  deriving DecidableEq, Repr

/-! ### Phase controller (spec/04) -/

/-- What the phase controller holds of one rail beside its dictionary subs; `upAt`: when it reached REGULATE or SHED. -/
structure RailInt where
  fsw : Option Int := none
  gain : Option Int := none
  tRamp : Nat := 0
  sns : Option Int := none
  uvSince : Option Nat := none
  ovSince : Option Nat := none
  vil : Option Int := none
  vwait : Option Int := none
  taken : Bool := true
  enteredAt : Nat := 0
  upAt : Nat := 0
  ramp : Int := 0
  rampNum : Int := 0
  rampDen : Int := 1
  softStop : Bool := false
  stopCause : Nat := 0
  okRun : Nat := 0
  diode : Bool := false
  ptr : Nat := 0
  step : Nat := 1
  count : Nat := 0
  trigger : Bool := false
  lastFire : Option Nat := none
  inhibit : Bool := false
  lastInhibit : Option Nat := none
  lastHit : Option Nat := none
  burst : Option (Nat × Nat) := none
  retiredAt : Option Nat := none
  latchedAt : Option Nat := none
  rung2 : Bool := false
  shedSince : Option Nat := none
  ovClamp : Bool := false
  sampling : Bool := false
  deriving DecidableEq, Repr

/-- The drive of a phase's PWM output (R42): high impedance, high side on, low side on. -/
inductive Pwm where
  | hiZ | high | low
  deriving DecidableEq, Repr

/-- A stretch of a phase's modelled current (R118, R126): its start with the current there, the voltage across the inductor, and
whether the current stays at zero below zero. -/
structure Seg where
  start : Nat
  cur : Int
  dv : Int
  floor : Bool
  deriving DecidableEq, Repr

/-- A firing of a type D phase that awaits its first frame (R131, R132): when its on-time ended and its switching period ends, the codes it
lasted, and whether the load was at least 5 A per phase. -/
structure FireCheck where
  off : Nat
  periodEnd : Nat
  ton : Int
  armed : Bool
  deriving DecidableEq, Repr

/-- What the phase controller holds of one phase beside its dictionary subs. -/
structure PhInt where
  en : Bool := false
  segs : List Seg := []
  area : Int := 0
  mean : Int := 0
  periodAt : Nat := 0
  ilim : Int := 0
  shedDue : Bool := false
  decidedAt : Nat := 0
  enAt : Nat := 0
  pwm : Pwm := .hiZ
  hiZAt : Nat := 0
  onTime : Bool := false
  onAt : Nat := 0
  offAt : Option Nat := none
  model : Int := 0
  modelAt : Nat := 0
  modelStart : Int := 0
  fails : Nat := 0
  zeroArmed : Bool := false
  zeroLow : Bool := false
  checks : List FireCheck := []
  limRun : Nat := 0
  persRun : Nat := 0
  limHere : Bool := false
  lastFrame : Option Nat := none
  lastSeq : Option Nat := none
  warnRun : Nat := 0
  coolRun : Nat := 0
  shutRun : Nat := 0
  derated : Bool := false
  excludedAt : Option Nat := none
  decided : Option Nat := none
  stageBits : Nat := 0
  deriving DecidableEq, Repr

/-- The converter supervision (R147, R148) and the hub's VIN_SENSE monitor window (R78, R117). -/
structure IbcInt where
  on : Bool := false
  nacks : Nat := 0
  lostRecorded : Bool := false
  mismatch : Nat := 0
  vin : List Int := []
  vinLow : Bool := false
  vinUnder : Option Nat := none
  vinMin : Option Int := none
  busUvAt : Option Nat := none
  busOkAt : Option Nat := none
  pollAt : Option Nat := none
  deriving DecidableEq, Repr

/-! ### Loop engine (spec/07) -/

/-- The four states of one biquad stage and their shared exponent (R221): mantissas at `es`. -/
structure Stage where
  x1 : Int := 0
  x2 : Int := 0
  y1 : Int := 0
  y2 : Int := 0
  es : Int := 0
  deriving DecidableEq, Repr

/-- What the loop engine holds of one rail beside its dictionary subs. -/
structure LoopInt where
  st1 : Stage := {}
  st2 : Stage := {}
  st3 : Stage := {}
  d : Int := 0
  corr : Int := 0
  vref : Int := 0
  target : Int := 0
  band : Nat := 0
  run : Nat := 0
  blank : Nat := 0
  feRunning : Bool := false
  feDue : Bool := false
  rung4 : Bool := false
  relRun : Nat := 0
  relMax : Int := 0
  hold : Bool := false
  holdPeriods : Nat := 0
  settleRun : Nat := 0
  sampledAt : Option Nat := none
  coef : List (Nat × Int) := []
  badWords : List Nat := []
  commit : Nat := 0
  newCoef : List (Nat × Int) := []
  lastRegion : Nat := 0
  nodes : List Int := []
  trace : List (List Int) := []
  traceCause : Option Nat := none
  traceFrozen : List (List Int) := []
  deriving DecidableEq, Repr

/-- A request that waits for the hub fabric (R236, R237): its level, 0 for A to 4 for E, its requester, the HCLK it came in, those of the
requester's accesses behind it, and whether it is promoted. -/
structure FabReq where
  level : Nat
  who : Nat
  since : Nat
  more : List Nat
  promoted : Bool
  deriving DecidableEq, Repr

/-- The hub fabric (R236): the requests that wait, the HCLK to which an access holds it, the requester granted last of each level; the
HCLK at which the last access of each level E requester ends, the drain's access whose record is not yet written (R412), and the words of
the scrub's pass not yet requested (R228). -/
structure ArbInt where
  waiting : List FabReq := []
  busyTo : Nat := 0
  last : List (Nat × Nat) := []
  engAt : List (Nat × Nat) := []
  drain : Option Nat := none
  scrubLeft : Nat := 0
  deriving DecidableEq, Repr

/-! ### Droop response (spec/05) -/

/-- What a DCU's Snare holds beside its subs (R155 to R158). -/
structure SnareInt where
  mgn : Nat := 0
  edge : Option Nat := none
  held : Nat := 0
  relDue : Nat := 0
  due : List (Nat × Nat) := []
  tripCode : Int := 64
  rung3 : Bool := false
  lastAt : Nat := 0
  endBeat : Option Nat := none
  beatEdges : Nat := 0
  beatLostq : Nat := 0
  swAt : Int := 0
  lostLast : Int := 0
  runBeats : Nat := 0
  runEdges : Nat := 0
  runLostq : Nat := 0
  deriving DecidableEq, Repr

/-- An announcement of a queue and its plan (R161 to R170), until its match report: its number, the edge and the HCLK of
its CMD_START, and whether its plan was retracted. -/
structure Ann where
  id : Nat
  q : Nat
  lane : Nat
  qsel : Nat
  cls : Nat
  lead : Nat
  wend8 : Int
  cmdEdge : Option Nat
  cmdAt : Nat
  retracted : Bool
  deriving DecidableEq, Repr

/-- A planned pulse (R165, R166) of an announcement: start in eighths of an HCLK (156.25 ps), the on-time code. -/
structure Pulse where
  id : Nat
  rail : Nat
  q : Nat
  lane : Nat
  qsel : Nat
  start8 : Int
  ton : Int
  held : Bool
  deriving DecidableEq, Repr

/-- A plan's offset contribution (R170): opens at `from8`, ends PREPOS_HOLD after the arrival. -/
structure Offset where
  id : Nat
  rail : Nat
  q : Nat
  amount : Int
  from8 : Int
  arrival : Option Nat
  deriving DecidableEq, Repr

/-- A CMD_START sampled after the sampling edge of an announcement of its lane that is on its way to the receiver (R160, R162): its edge
counted from the announcement before, and from that one; when it was sampled. -/
structure EarlyStart where
  q : Nat
  edge : Nat
  newEdge : Nat
  at_ : Nat
  deriving DecidableEq, Repr

/-- Upbeat's plans (spec/05). -/
structure UpbeatInt where
  nextId : Nat := 0
  anns : List Ann := []
  pulses : List Pulse := []
  offsets : List Offset := []
  early : List EarlyStart := []
  busyAt : List (Nat × Nat) := []
  deriving DecidableEq, Repr

/-! ### Clocks and power domains (spec/06) -/

/-- What a DCU holds beside its subs (R195 to R205); `softPend`: a soft stop that an isolated DCU has not taken (R16). -/
structure DcuInt where
  drvGate : Bool := false
  fp1Gate : Bool := false
  gateReq : Bool := false
  gateAt : Nat := 0
  gateAck : Bool := false
  ackAt : Option Nat := none
  force : Nat := 0
  startGate : Bool := true
  softPend : Bool := false
  waiting : Option Nat := none
  switchTo : Option Nat := none
  switchLost : Nat := 8
  switchDead : Option Nat := none
  domRst : Bool := false
  resetAt : Nat := 0
  inPlace : Bool := true
  target : Int := 64
  altPending : Bool := false
  hold : Bool := false
  duty : List (Nat × Int) := []
  beatEdges : Nat := 0
  edges : Nat := 0
  edgeAt : Nat := 0
  deriving DecidableEq, Repr

/-- What a PD controller holds beside its subs (R207 to R213, R466). -/
structure PdInt where
  want : Bool := false
  step : Nat := 0
  startedAt : Nat := 0
  stepAt : Nat := 0
  psw : Nat := 0
  iso : Bool := true
  ret : Bool := false
  rstN : Bool := false
  reversing : Bool := false
  step6Done : Bool := false
  retUsed : Bool := false
  waited : Bool := false
  forStop : Bool := false
  enabledAt : Nat := 0
  lostAt : Option Nat := none
  deriving DecidableEq, Repr

/-- The hub PLL and its references (R182 to R188); `corrApplied`: the temperature correction in force, in 0.001 ppm (R184). -/
structure ClkInt where
  xclkLive : Bool := false
  xclkOk : Bool := false
  xclkLostAt : Nat := 0
  kSto : Bool := false
  brefLive : Bool := false
  corrApplied : Int := 0
  slewPpm : Int := 0
  lastEnable : List (Nat × Nat) := []
  lastMove : List (Nat × Nat) := []
  deriving DecidableEq, Repr

/-- The observation pins (R71, R214): what CLK_OBS shows, its level and its next edge in 1/1000 HCLK; the divisor BEAT_OBS follows and the
HCLK of its last rise. -/
structure ObsInt where
  src : Nat := 0
  div : Nat := 16
  high : Bool := false
  edgeAt : Nat := 0
  beatDiv : Nat := 1
  beatAt : Option Nat := none
  deriving DecidableEq, Repr

/-! ### Thermal (spec/09) -/

/-- What the sequencer holds of one housekeeping channel beside its subs (R275 to R283). -/
structure ChInt where
  faultRun : Nat := 0
  cleanRun : Nat := 0
  failRun : Nat := 0
  passRun : Nat := 0
  warnRun : Nat := 0
  coolRun : Nat := 0
  warned : Bool := false
  lastGood : Int := -32768
  inRound : Bool := false
  faultNow : Bool := false
  excluded : Bool := false
  deriving DecidableEq, Repr

/-- The sequencer's calibration and Kettle's states in 1/4,096 °C (R276, R279, R280). -/
structure HkInt where
  running : Bool := false
  nextCh : Nat := 0
  refBad : Nat := 0
  s : List (Nat × Int) := []
  f : List (Nat × Int) := []
  pw : List (Nat × Int) := []
  eLast : List (Nat × Int) := []
  resid : List (Nat × Int) := []
  miss : List (Nat × Int) := []
  missRound : List Nat := []
  openLoop : List Nat := []
  correctDue : Option Nat := none
  hotMax : List (Nat × Int) := []
  pwSum : List (Nat × Int) := []
  pwCount : Nat := 0
  missLast : List Nat := []
  converted : Bool := false
  startAt : Nat := 0
  convAt : Option Nat := none
  roundAt : Option Nat := none
  updatedAt : Option Nat := none
  zero : Int := 0
  full : Int := 0
  refs : Option (Int × Int) := none
  refsOk : Option (Int × Int) := none
  stageHot : Int := 0
  stageHotPh : Nat := 0
  stageSeen : Bool := false
  deriving DecidableEq, Repr

/-- Gong beside its subs (R285 to R289): the Gong line, GONG_OUT_N, the hot history, the rails-off instant. -/
structure GongInt where
  line : Bool := false
  outN : Bool := true
  prevHot : Bool := false
  hotNow : Bool := false
  tripAt : Nat := 0
  x : Option Nat := none
  xCause : Nat := 0
  offDone : Bool := false
  orderly : Nat := 0
  coverLow : Bool := false
  deriving DecidableEq, Repr

/-! ### Energy (spec/11) -/

/-- The energy accumulators in weight units of 2^-40 J (R335): partitions' estimates and their adjustments in EU, queues,
command accumulators with their edges, rails; the values at the last reconciliation instant (R339), and the rails whose interval is not cut yet; the queues whose command started in
this HCLK (R343); VOUT and VSTART of the voltage factors last sent for a rail (R337). -/
structure EnergyInt where
  pe : List (Nat × Int) := []
  adj : List (Nat × Int) := []
  qe : List (Nat × Int) := []
  cmd : List (Nat × Int) := []
  cyc : List (Nat × Nat) := []
  off : List (Nat × Nat) := []
  rail : List (Nat × Int) := []
  peAtR : List (Nat × Int) := []
  railAtR : List (Nat × Int) := []
  pendingAdj : List (Nat × Int) := []
  pendingEst : List (Nat × Int) := []
  recBeat : Nat := 0
  recDue : Bool := false
  recAt : Nat := 0
  recLen : Nat := 0
  recCut : List Nat := []
  snapAt : Option Nat := none
  split : List Nat := []
  kv : List (Nat × (Int × Int)) := []
  deriving DecidableEq, Repr

/-! ### Telemetry windows (spec/11) -/

/-- A formed record of a telemetry window (R347): sequence, instant, item count and payload words, DROPS when it was formed, and
its flags. -/
structure TelRec where
  seq : Nat
  beat : Nat
  tick : Nat
  count : Nat
  words : List Nat
  drops : Nat
  gap : Bool
  flushed : Bool
  shared : Bool
  deriving DecidableEq, Repr

/-- A write on the initiator port (R53, R55): its window, its row (4: the counter add), its tag. -/
structure TipWrite where
  win : Nat
  row : Nat
  tag : Nat
  deriving DecidableEq, Repr

/-- A command's item that waits in its DCU for the ring (R349): the queue, the domain, its HCLK and instant, its words. -/
structure CmdItem where
  q : Nat
  cd : Nat
  at_ : Nat
  beat : Nat
  tick : Nat
  words : List Nat
  deriving DecidableEq, Repr

/-- What a telemetry window holds beside its subs (R349 to R351): the items of the forming record, the waiting record, the
record in issue with the rows not yet committed (bit 4: the counter add), the HCLK of its last sample. -/
structure WinInt where
  items : List (List Nat) := []
  firstBeat : Nat := 0
  firstTick : Nat := 0
  waiting : Option TelRec := none
  issue : Option TelRec := none
  rows : Nat := 0
  failed : Bool := false
  gap : Bool := false
  behind : Bool := false
  sampledAt : Option Nat := none
  deriving DecidableEq, Repr

/-- The windows and the meter of the initiator port (R356), in 1/800,000 of a row slot; the writes of the record in issue that the port
presents, first in, first out (window and row), whether the bucket has paid for the first of them, the accepted ones that are outstanding, the tag tried next (R53, R55), the items that
wait in the DCUs (R349). -/
structure TelInt where
  wins : List (Nat × WinInt) := []
  bucket : Nat := 0
  port : List (Nat × Nat) := []
  granted : Bool := false
  out : List TipWrite := []
  tagNext : Nat := 0
  cmdItems : List CmdItem := []
  deriving DecidableEq, Repr

/-! ### Budget (spec/08) -/

/-- The rung 5 limiter of a rail (R264): its ceiling, the lowest it reached, and the beats it has been active. -/
structure Limiter where
  stepBeat : Option Nat := none
  ceil : Int := 16
  low : Int := 16
  since : Nat := 0
  deriving DecidableEq, Repr

/-- What a partition's learning sums up beat by beat (R258): set-point, code and number of beats, and the last HCLK something tainted it. A
marker holds them as they stand at its acceptance, `at_`. -/
structure Snap where
  at_ : Nat := 0
  vSum : Int := 0
  cSum : Int := 0
  beats : Nat := 0
  taintAt : Option Nat := none
  deriving DecidableEq, Repr

/-- A phase marker in the queue, with its stamp (R253). -/
structure Marker where
  kind : Nat
  pid : Nat
  pt : Nat
  scope : Nat
  desc : Nat
  beat : Nat
  tick : Nat
  energy : Int
  snap : Snap := {}
  deriving DecidableEq, Repr

/-- An open learning instance of a partition (R254, R258), with the sums as they stood at its BEGIN. -/
structure Instance where
  beat : Nat
  energy : Int
  pid : Nat
  snap : Snap := {}
  deriving DecidableEq, Repr

/-- What an allocation shows and hands to hardware (R261, R262), as the subs read it: per partition and per rail. -/
structure AllocShow where
  want : List (Nat × Int) := []
  floor : List (Nat × Int) := []
  grant : List (Nat × Int) := []
  brush : List (Nat × Int) := []
  cap : List (Nat × Int) := []
  op0 : Nat := 0
  short : Int := 0
  predicted : Int := 0
  deriving DecidableEq, Repr

/-- A planned phase-ID switch (R252, R255); once submitted, with the derived demands and the allocation of its instant. -/
structure Plan where
  pts : List Nat
  pid : Nat
  beat : Nat
  tick : Nat
  submitted : Bool
  derived : List (Nat × Int) := []
  alloc : AllocShow := {}
  deriving DecidableEq, Repr

/-- FP1's working state, which it hands over (R373): open instances, planned switches, preloads that wait for a BEGIN
(partition, phase ID, last beat), and the timers of CAP_STATE (HCLK). -/
structure BudgetFw where
  insts : List (Nat × Instance) := []
  plans : List Plan := []
  preloads : List (Nat × Nat × Nat) := []
  overSince : Option Nat := none
  underSince : Option Nat := none
  isOver : Bool := false
  deriving DecidableEq, Repr

/-- The limiters' state, the marker queue, and what FP1 keeps in hub storage (spec/08). -/
structure BudgetInt where
  fw : BudgetFw := {}
  limiters : List (Nat × Limiter) := []
  pow : List (Nat × Int) := []
  predicted : Option Int := none
  markers : List Marker := []
  reading : Option Marker := none
  row : Option (List Byte) := none
  derived : List (Nat × Int) := []
  direct : List Nat := []
  cum : List (Nat × Snap) := []
  role : Nat := 0
  ptCap : List (Nat × Int) := []
  ilim : List (Nat × Int) := []
  capOld : List (Nat × Int × Nat) := []
  lastPeriod : Option Nat := none
  downAt : Option Nat := none
  bhScaled : Bool := false
  bhGrant : List (Nat × Int) := []
  bhZeroAt : Nat := 0
  deriving DecidableEq, Repr

/-! ### Drumline (spec/10, spec/12) -/

/-- The bulk chunk a port receives (R327). -/
structure BulkRx where
  stream : Nat
  chunk : Nat
  bytes : List Byte
  deriving DecidableEq, Repr

/-- The forwarding of a stream on a port (R381, R382): the next chunk, the chunks without an answer, the NAKs of each, those to
send again, the last chunk answered ACK, the map of those answered ACK in this pass, the HCLK of a pause, the stream whose pass is done and
the serial of the partner it was done with. -/
structure BulkTx where
  stream : Nat := 0
  next : Nat := 0
  flight : List Nat := []
  naks : List (Nat × Nat) := []
  again : List Nat := []
  lastAck : Option Nat := none
  acked : Nat := 0
  paused : Option Nat := none
  finished : Option Nat := none
  peer : Nat := 0
  deriving DecidableEq, Repr

/-- A child's GEN_UP values for a group (R321). -/
structure GenUp where
  gen : Nat
  members : Nat
  nodes : Nat
  deriving DecidableEq, Repr

/-- What a frame's bad CRC brings back (R301, R317): the group, its value from the port before, since when its result counts as heard, and
whether it stood cleared as stale. -/
structure ExUndo where
  group : Nat
  val : Option Nat
  heard : Option Nat
  cleared : Bool
  deriving DecidableEq, Repr

/-- What a Drumline port holds beside its subs (R300 to R327): DLn_UP, sequences, the delay exchange, the frames waiting by kind
(bulk entries: chunk, then TYPE and BODY), and per group the partner's values. -/
structure PortInt where
  up : Bool := false
  txSeq : Nat := 0
  rxSeq : Option Nat := none
  idles : Nat := 0
  exchanged : Bool := false
  heardAt : Nat := 0
  sinceIdle : Nat := 0
  lastTx : Nat := 0
  slotAt : Nat := 0
  beatDue : Bool := false
  beatCount : Nat := 0
  dreqDue : Bool := false
  dreqAt : Option Nat := none
  dreqId : Nat := 0
  dreqs : List (Nat × Nat) := []
  drsp : Option (Nat × Int) := none
  rtts : List Int := []
  gens : List (Nat × GenUp) := []
  genUps : List Nat := []
  genDowns : List Nat := []
  coll : Option (Nat × Nat) := none
  collRound : Option Nat := none
  collUp : Option Nat := none
  collDown : Option Nat := none
  bulkCtl : List Nat := []
  bulkData : List (Nat × Nat) := []
  exVal : List (Nat × Nat) := []
  exUndo : Option ExUndo := none
  exPend : List Nat := []
  exNext : Nat := 0
  rx : Option BulkRx := none
  tx : BulkTx := {}
  deriving DecidableEq, Repr

/-- FP2's working state, which it hands over (R373): the beat of its last evaluation, the dither of each domain with a rung 7
range (code, beats at code + 1) and the beat up to which it is submitted, since when it follows, the rounds missed in a row and whether
the loss they make is recorded. -/
structure DrumFw where
  evalAt : Nat := 0
  dither : List (Nat × Nat × Nat) := []
  dithTo : List (Nat × Nat) := []
  following : Option Nat := none
  loss : Nat := 0
  lost : Bool := false
  deriving DecidableEq, Repr

/-- The cap collective in the port hardware (R323 to R326): the round that is open (no grant decided yet) with its start and
period, the node's own values, whether COLL_UP was sent, the mode and factor that came, whether the root has formed its sums,
and the period last received. -/
structure CollInt where
  opened : Bool := false
  start : Nat := 0
  period : Nat := 0
  dOwn : Int := 0
  fOwn : Int := 0
  sent : Bool := false
  got : Option (Nat × Nat) := none
  summed : Bool := false
  learned : Option Nat := none
  deriving DecidableEq, Repr

/-- The Drumline node (spec/10), with since when FOLLOW_BEATS is not counted yet and the rounds missed while FP2 was away: ports, whether beat time is loaded, the high bits of the last SEL 1 frame with its HCLK, the
phase errors in 1/16 ps, the beat each group result was heard, the groups whose result is cleared as stale, the NODES of each
group's GEN_DOWN, the collective, the ring of the root as S2 took it, the HCLK in which BEAT frames were last made due, each group
result before the HCLK that changed it. -/
structure DrumInt where
  ports : List (Nat × PortInt) := []
  loaded : Bool := false
  sel1 : Option (Nat × Nat) := none
  errs : List Int := []
  resAt : List (Nat × Nat) := []
  cleared : List Nat := []
  genNodes : List (Nat × Nat) := []
  fw : DrumFw := {}
  coll : CollInt := {}
  ring : Bool := false
  beatAt : Option Nat := none
  resWas : List (Nat × Nat × Int) := []
  followAt : Option Nat := none
  away : Nat := 0
  deriving DecidableEq, Repr

/-! ### Firmware processors and update (spec/12) -/

/-- A record of a processor's log (R375). -/
structure LogRec where
  beat : Nat
  tick : Nat
  cls : Nat
  point : Nat
  a0 : Nat
  a1 : Nat
  deriving DecidableEq, Repr

/-- A record of the settings store (R393): TYPE, SUB, INDEX, SEQ, its place in the region, its data. -/
structure SetRec where
  ty : Nat
  sub : Nat
  idx : Nat
  seq : Nat
  at_ : Nat
  data : List Byte
  deriving DecidableEq, Repr

/-- A settings region (R393): its generation, the SEQ of its next record, the end of what is written and the start of what is not erased, both
counted on from the first sector, and its records. -/
structure Region where
  gen : Nat := 0
  seq : Nat := 0
  pos : Nat := 0
  tail : Nat := 0
  recs : List SetRec := []
  deriving DecidableEq, Repr

/-- A copy of the boot directory (R75, R298, R383, R390): its sequence number; of the slots the states, the streams and the maps of held
chunks; the active slot and MIN_SVN; ROOT_MODE and RING as last saved; the current settings region and the format of each. -/
structure DirRec where
  seq : Nat := 0
  stA : Nat := 0
  stB : Nat := 0
  streamA : Nat := 0
  streamB : Nat := 0
  mapA : Nat := 0
  mapB : Nat := 0
  active : Nat := 0
  minSvn : Nat := 0
  root : Option (Bool × Bool) := none
  region : Nat := 0
  fmt0 : Nat := 0
  fmt1 : Nat := 0
  deriving DecidableEq, Repr

/-- The activation of an image (R385 to R391): 0 none, 1 deferred, 2 moving, 3 rolling back, 4 falling back; the target slot,
when it was accepted and started, the time waited (HCLK), since when the quiet condition holds, a pause, the processors moved,
the one whose turn it is, why it ends, and whether a cold boot of the Custodian ended it. -/
structure ActInt where
  phase : Nat := 0
  target : Nat := 0
  acceptedAt : Nat := 0
  waited : Nat := 0
  quietAt : Option Nat := none
  startedAt : Nat := 0
  pausedAt : Option Nat := none
  moved : List Nat := []
  turn : Option Nat := none
  failFp : Nat := 255
  failCause : Nat := 0
  cancelled : Bool := false
  coldEnd : Bool := false
  rolled : Nat := 0
  why : Nat := 0
  confirmAt : Nat := 0
  tablesDue : Bool := false
  deriving DecidableEq, Repr

/-- The Steward's working state (R373): beats to the next derate, the rails whose coefficient reload is pending, whether a rewrite of FMAX_EFF
is in progress. -/
structure StewardFw where
  toDerate : Int
  reload : List Nat
  rewrite : Bool
  deriving DecidableEq, Repr

/-- The Custodian's working state (R373): the maps of held chunks, the forwarding cursor of each port, the save queue, whether a conversion is
in progress, the activation or rollback and the consecutive cancellations. -/
structure CustFw where
  held : List (Nat × Nat)
  cursors : List (Nat × Nat)
  queue : List Nat
  converting : Bool
  act : ActInt
  cancels : Int
  deriving DecidableEq, Repr

/-- A half of a processor's handover area (R372): the header's fields and the working state of R373 of each role, with the Budget's corr, the
orders of its submitted switches not yet completed and the beat of its last period, and the Drumline's published deficit, PACE_STATE,
collective round and GEN values. -/
structure Area where
  kind : Nat
  fmt : Nat
  seq : Nat
  beat : Nat
  at_ : Nat
  src : Nat
  dst : Nat
  steward : StewardFw
  corr : Int
  budget : BudgetFw
  tags : List Nat
  period : Option Nat
  drum : DrumFw
  deficit : Int
  pace : Int
  coll : CollInt
  gens : List (Nat × Nat)
  cust : CustFw
  deriving DecidableEq, Repr

/-- What the hub holds of one processor beside its subs (R367 to R374): the HCLK of its crashes; the boot under way (since,
slot, why: 0 start, 1 restart, 2 activation, 3 rollback or fall-back, 4 the slot it left after a failed check, 5 cold); the
handover; its halt (R426); the halves of its area; since when it runs and when its newest record was written; its log by place
(R375); the values WDT_MS has had lately, each with the HCLK at which it ended (R399). -/
structure FpInt where
  crashes : List Nat := []
  bootAt : Nat := 0
  bootSlot : Nat := 0
  bootWhy : Nat := 0
  bootRecord : Bool := false
  crashAt : Stamp := {}
  handAt : Nat := 0
  handDst : Nat := 0
  halted : Bool := false
  half0 : Option Area := none
  half1 : Option Area := none
  newest : Nat := 1
  areaSeq : Nat := 0
  runAt : Nat := 0
  ckptAt : Nat := 0
  log : List (Nat × LogRec) := []
  wdts : List (Nat × Nat) := []
  deriving DecidableEq, Repr

/-- A requester whose response waits (R103, R380, R420): transport, EID, message tag, COUNT, and the index, sub and bytes asked
for. -/
structure Asker where
  x : Xport
  src : Nat
  tag : Nat
  count : Nat
  idx : Nat
  sub : Nat
  off : Nat
  len : Nat
  deriving DecidableEq, Repr

/-- An image chunk on its way into a slot (R379 to R381): from 0 MCTP, 1 to 4 DL0 to DL3. -/
structure ChunkJob where
  slot : Nat
  chunk : Nat
  stream : Nat
  source : Nat
  bytes : List Byte
  asker : Option Asker
  deriving DecidableEq, Repr

/-- The Custodian's and the Steward's work (R379 to R395): the bit maps of held chunks of the slots, their first 256 bytes, the
chunks being programmed, the RWS marks with their HCLK, SAVE_NOW under way, the profiles' generations saved, the mask of
regions whose coefficients were reloaded, by rail; whether a chunk program runs on into an inhibit, whether a slot
resumes after a reset; the settings regions; the map of held chunks, with its stream, that the boot directory mirrors (R383); the two
copies of the boot directory, ROOT_MODE and RING as last saved (R298), and whether a settings program runs on into an inhibit. -/
structure FwInt where
  fps : List (Nat × FpInt) := []
  act : ActInt := {}
  held : List (Nat × Nat) := []
  headers : List (Nat × List Byte) := []
  program : List ChunkJob := []
  tail : Bool := false
  marks : List (Nat × Nat) := []
  saving : Bool := false
  resume : Bool := false
  profGen : List (Nat × Int) := []
  profAt : Nat := 0
  reloaded : List (Nat × Nat) := []
  regions : List (Nat × Region) := []
  mirror : List (Nat × (Nat × Nat)) := []
  dirs : List (Nat × DirRec) := []
  root : Option (Bool × Bool) := none
  saveTail : Bool := false
  deriving DecidableEq, Repr

/-! ### Start, tests and life cycle (spec/14) -/

/-- The start sequence beside its subs (R443 to R457): POR_N, a reset by the VAON monitor that stands, whether S0 has begun; the signature
store as Zilari last left it (R454), settings regions that the transition of this POR_N erased (R456); the straps, the instants of its
steps, what is done, the XCLK count under way, the rails of a Gong restart, CD_RST_N, the state left at HELD and at PAUSED, the failed scope
of the native test, the runs of the tests, the life-cycle request. -/
structure StartInt where
  porLow : Bool := true
  vaonAt : Option Nat := none
  s0 : Bool := false
  store : Option Bool := none
  erased : Bool := false
  porAt : Nat := 0
  hubUp : Bool := false
  hubAt : Nat := 0
  xspiAt : Option Nat := none
  strapSmb : Nat := 0
  dirRead : Bool := false
  part1At : Nat := 0
  part1Done : Bool := false
  part2Done : Bool := false
  settleAt : Nat := 0
  counting : Bool := false
  dcusUp : Bool := false
  settingsDone : Bool := false
  ibcAt : Option Nat := none
  busOk : Bool := false
  readyAt : Option Nat := none
  gongRestart : Bool := false
  scope : Nat := 0
  released : Bool := false
  heldFrom : Nat := 0
  pausedFrom : Nat := 0
  pausedAt : Nat := 0
  scanDone : Bool := false
  failScope : Nat := 0
  retries : Nat := 0
  sdAt : Nat := 0
  sdStore : Bool := false
  aeRun : Option (Nat × Nat × Nat) := none
  aeInst : Nat := 0
  scopes : List (Nat × Nat) := []
  sigs : List (Nat × Nat) := []
  trims : List (Nat × Int) := []
  storedTrims : List (Nat × Int) := []
  lcPending : Option Nat := none
  lcNext : Option Nat := none
  deriving DecidableEq, Repr

/-! ### Records (spec/13) -/

/-- An event record waiting in the record queue or on a shelf (R406, R412), with the tick of its instant and the HCLK it entered the
queue. -/
structure Rec where
  code : Nat
  flags : Nat
  source : Nat
  beat : Nat
  tick : Nat
  p1 : Nat
  p2 : Nat
  p3 : Nat
  seq : Nat
  entered : Nat
  deriving DecidableEq, Repr

/-- The record queue, the shelves and the losses (R411, R412), and when the drain last wrote a record. -/
structure ShelfInt where
  queue : List Rec := []
  slots : List (Nat × Rec) := []
  lost : List (Nat × Bool) := []
  postCut : Bool := false
  deriving DecidableEq, Repr

/-- The Chest controller (R416 to R422): its queue, the programs of the first record done, whether the programs are those of a
sector header, whether a program runs on into an inhibit, the records lost since the last CHEST_LOST, the sector (with its SECTOR_SEQ) and slot of the
next record, the inhibit, the scan, the fetched windows by transport (+ 4 for the dump) with the transports whose fetch runs, who waits
for a fetch, the last program given to the NOR; of this run, the records committed by CSEQ and the CSEQ of slot 0 of each sector opened. -/
structure ChestInt where
  queue : List Rec := []
  step : Nat := 0
  opening : Bool := false
  tail : Bool := false
  lostSince : Nat := 0
  sector : Nat := 0
  sectorSeq : Nat := 0
  slot : Nat := 0
  inhibitAt : Option Nat := none
  inhibitStamp : Stamp := {}
  scanned : Bool := false
  failed : Bool := false
  windows : List (Nat × List Byte) := []
  fetchX : List Nat := []
  dumpX : List Nat := []
  askers : List Asker := []
  dumpAskers : List Asker := []
  norAt : Nat := 0
  norBytes : List Byte := []
  journal : List (Nat × List Byte) := []
  firsts : List (Nat × Nat) := []
  erased : Nat := 0
  halfErased : Bool := false
  deriving DecidableEq, Repr

/-! ### Host and management access (spec/02, spec/03) -/

/-- The response of the host target port (R48 to R50): HTP_RSP_TAG, HTP_RSP_ERR, HTP_RSP_RDATA. -/
structure HtpRsp where
  tag : Nat
  err : Nat
  data : Word64
  deriving DecidableEq, Repr

/-- A message Zilari sends over MCTP: its transport, the requester's EID, the message tag, the bytes after the type byte. -/
structure MctpTx where
  x : Xport
  dst : Nat
  tag : Nat
  ctrl : Bool
  bytes : List Byte
  deriving DecidableEq, Repr

/-- A request of the host target port whose response is not taken yet (R48, R49): the response, and the HCLK from which it is offered. -/
structure HtpOut where
  rsp : HtpRsp
  validAt : Nat
  deriving DecidableEq, Repr

/-- A message under reassembly (R99). -/
structure Assembly where
  x : Xport
  src : Nat
  tag : Nat
  seq : Nat
  bytes : List Byte
  deriving DecidableEq, Repr

/-- A complete message that waits to be carried out (R99, R103): its transport, requester and tag, whether it is a control message,
and its bytes after the message type byte. -/
structure Inbound where
  x : Xport
  src : Nat
  tag : Nat
  ctrl : Bool
  bytes : List Byte
  deriving DecidableEq, Repr

/-- The host-facing side (R47, R93, R95, R105): cursors and staged words per transport, the response of the last request of the host port
and every request whose response is not taken yet (R48, R49), the last message sent and its packets (R99), messages under reassembly and those that wait, the transport an endpoint was last heard on, SOFT_RST,
the alarm bits notified with their HCLK, the in-band interrupt, the alert response, JTAG's instruction and data output; whether
the write being carried out was rejected, and the subs that dictionary writes reached in the HCLK of the last one, with those of
host writes carried out ahead of an MCTP write (R11, R92). -/
structure HostInt where
  cursors : List (Nat × Nat) := []
  staged : List (Nat × Nat) := []
  staging : List Nat := []
  rsp : Option HtpRsp := none
  outstanding : List HtpOut := []
  tx : Option MctpTx := none
  packets : List Packet := []
  asm : List Assembly := []
  inbox : List Inbound := []
  heard : List (Nat × Xport) := []
  softRst : Bool := false
  notifyAt : List (Nat × Nat) := []
  ibi : Bool := false
  alertRsp : Option Nat := none
  jtag : JtagIr := .idcode
  tdo : Option Word32 := none
  rejected : Bool := false
  wrAt : Nat := 0
  wrDict : List Nat := []
  wrEarly : List Nat := []
  deriving DecidableEq, Repr

/-- The shadow bank of a cut (R424, R432): what its items are taken from. -/
structure Shadow where
  dict : List (Nat × Int) := []
  hclk : Nat := 0
  beatHclk : Nat := 0
  hub : Hub := {}
  loops : List (Nat × LoopInt) := []
  upbeat : UpbeatInt := {}
  phs : List (Nat × PhInt) := []
  energy : EnergyInt := {}
  host : HostInt := {}
  chest : ChestInt := {}
  deriving DecidableEq, Repr

/-- Hang analysis (R423 to R434): the kick timer, the declared hang, the cut (its HCLK from hub reset, shadow bank, heads, stamps and the
domains without output edges), the stop, the dump, the areas being cleared, each area's committed payload in bytes and by sector
(area × 1,024 + sector), and whether a record of the Chest precedes the dump's next program. -/
structure HangInt where
  kickAt : Nat := 0
  missed : Bool := false
  action : Nat := 0
  cause : Nat := 0
  cutAt : Nat := 0
  cutHclk : Nat := 0
  stop : Bool := false
  releaseAt : Nat := 0
  area : Nat := 0
  dumpId : Nat := 0
  sectors : Nat := 0
  heads : List (Nat × Nat) := []
  shadow : Shadow := {}
  stamps : List StopStamp := []
  gated : List Nat := []
  clearing : List Nat := []
  lens : List (Nat × Nat) := []
  data : List (Nat × List Byte) := []
  yields : Bool := false
  page : Nat := 0
  running : Bool := false
  pageEnd : Nat := 0
  payload : List Byte := []
  counts : List (Nat × Nat) := []
  deriving DecidableEq, Repr

/-- The machine. `dict` holds every listed sub (key = index * 256 + sub); an unlisted sub reads as its default. -/
structure State where
  dict : List (Nat × Int) := []
  blob : List (Nat × Nat) := []
  hclk : Nat := 0
  beatHclk : Nat := 0
  free : Nat := 0
  irqN : Bool := true
  smbAlert : Bool := false
  notify : List Nat := []
  lostNow : Bool := false
  hub : Hub := {}
  rails : List (Nat × RailInt) := []
  phs : List (Nat × PhInt) := []
  ibc : IbcInt := {}
  loops : List (Nat × LoopInt) := []
  snares : List (Nat × SnareInt) := []
  upbeat : UpbeatInt := {}
  dcus : List (Nat × DcuInt) := []
  pds : List (Nat × PdInt) := []
  clk : ClkInt := {}
  obs : ObsInt := {}
  arb : ArbInt := {}
  scrubAt : Option Nat := none
  chs : List (Nat × ChInt) := []
  hk : HkInt := {}
  gong : GongInt := {}
  energy : EnergyInt := {}
  tel : TelInt := {}
  budget : BudgetInt := {}
  drum : DrumInt := {}
  fw : FwInt := {}
  start : StartInt := {}
  lfsr : Option Nat := none
  shelf : ShelfInt := {}
  chest : ChestInt := {}
  hang : HangInt := {}
  host : HostInt := {}
  pending : List Instr := []
  deriving DecidableEq, Repr

/-- The machine right after a reset (R46): POR_N low, every dictionary sub at its default (R90), nothing under way. -/
def State.reset : State := {}

end Sys2Proof.Machine
end

