-- ==== Sys2Proof/Machine/Ops.lean ====
section
/-! DEFINITION. The named operations over the state: reading and writing dictionary subs and internal records, time, open
roundings, event records (R406 to R412), the alarm and interrupt levels that follow the state (R36, R37, R52, R111). -/

namespace Sys2Proof.Machine

/-! ### Dictionary -/

/-- Whether the host side takes requests (R46, R47): the hub is out of reset and SOFT_RST is low. -/
def State.hostUp (s : State) : Bool := s.start.hubUp && !s.host.softRst

/-- Reduce a value into a type, two's complement for the signed ones (R86). -/
def reduceTo (ty : Ty) (v : Int) : Int :=
  match ty with
  | .u b => v % 2 ^ (8 * b)
  | .s b => (v + 2 ^ (8 * b - 1)) % 2 ^ (8 * b) - 2 ^ (8 * b - 1)

/-- What a sub holds when v is stored: v where its type holds it; wrapped where the manual says that the count wraps;
else a free value of the type (log 8). -/
def fit (key : Nat) (v : Int) : Int :=
  if reduceTo (tyOf key) v = v then v
  else if wrapsOf key then reduceTo (tyOf key) v
  else reduceTo (tyOf key) (Config.unrepresentable key v)

/-- The value of a sub. -/
def State.rd (s : State) (key : Nat) : Int := tabGet dictDefault s.dict key

/-- The value of an unsigned sub. -/
def State.rdN (s : State) (key : Nat) : Nat := (s.rd key).toNat

/-- Store a value in a sub. -/
def State.wr (s : State) (key : Nat) (v : Int) : State := { s with dict := tabPut s.dict key (fit key v) }

/-- The 8-byte slot of a sub (R86). -/
def State.slotWord (s : State) (key : Nat) : Nat := (s.rd key % 2 ^ 64).toNat

/-- Add to a counter. -/
def State.bump (s : State) (key : Nat) (n : Int := 1) : State := s.wr key (s.rd key + n)

/-- Whether a bit of a sub is set. -/
def State.bit (s : State) (key i : Nat) : Bool := (s.rdN key).testBit i

/-- Set a bit of a natural number to a value. -/
def putBit (v i : Nat) (b : Bool) : Nat := if b then v ||| 2 ^ i else if v.testBit i then v - 2 ^ i else v

/-- A number with a field of w bits at bit lo replaced. -/
def putField (v lo w x : Nat) : Nat := v - ((v / 2 ^ lo) % 2 ^ w) * 2 ^ lo + (x % 2 ^ w) * 2 ^ lo

/-- A field of w bits at bit lo. -/
def getField (v lo w : Nat) : Nat := (v / 2 ^ lo) % 2 ^ w

/-- Write one bit of a sub. -/
def State.wrBit (s : State) (key i : Nat) (b : Bool) : State := s.wr key (putBit (s.rdN key) i b)

/-- Apply a change where a condition holds. -/
def when (c : Bool) (f : State → State) (s : State) : State := if c then f s else s

/-- Apply a change for each element of a list, in order. -/
def forEach {α : Type} (l : List α) (f : α → State → State) (s : State) : State := l.foldl (fun s a => f a s) s

/-- Whether a command of a kind waits in the queue. Time passes only on an empty queue (log 1), so every command that waits belongs to the
present HCLK: where the manual's tables decide between two events of one HCLK, the loser looks for the winner here (log 93). -/
def State.comes (s : State) (f : Instr → Bool) : Bool := s.pending.any f

/-- The nearest value of v within lo and hi. -/
def clampI (lo hi v : Int) : Int := min (max v lo) hi

/-! ### Dictionary writes of one HCLK (R11, R92) -/

/-- The subs that dictionary writes have reached in this HCLK. -/
def State.writtenNow (s : State) : List Nat := if s.host.wrAt = s.hclk then s.host.wrDict else []

/-- The subs whose host write of this HCLK was carried out ahead of an MCTP write. -/
def State.earlyNow (s : State) : List Nat := if s.host.wrAt = s.hclk then s.host.wrEarly else []

/-- A dictionary write reaches a sub. -/
def State.noteWrite (s : State) (key : Nat) : State :=
  { s with host := { s.host with wrAt := s.hclk, wrDict := s.writtenNow ++ [key], wrEarly := s.earlyNow } }

/-- A host write was carried out ahead of its turn. -/
def State.noteEarly (s : State) (key : Nat) : State :=
  { s with host := { s.host with wrAt := s.hclk, wrDict := s.writtenNow, wrEarly := s.earlyNow ++ [key] } }

/-! ### Internal records -/

def State.rail (s : State) (n : Nat) : RailInt := tabGet (fun _ => {}) s.rails n
def State.setRail (s : State) (n : Nat) (r : RailInt) : State := { s with rails := tabPut s.rails n r }
def State.ph (s : State) (p : Nat) : PhInt := tabGet (fun _ => {}) s.phs p
def State.setPh (s : State) (p : Nat) (r : PhInt) : State := { s with phs := tabPut s.phs p r }
def State.loop (s : State) (n : Nat) : LoopInt := tabGet (fun _ => {}) s.loops n
def State.setLoop (s : State) (n : Nat) (r : LoopInt) : State := { s with loops := tabPut s.loops n r }
def State.snare (s : State) (c : Nat) : SnareInt := tabGet (fun _ => {}) s.snares c
def State.setSnare (s : State) (c : Nat) (r : SnareInt) : State := { s with snares := tabPut s.snares c r }
def State.dcu (s : State) (c : Nat) : DcuInt := tabGet (fun _ => {}) s.dcus c
def State.setDcu (s : State) (c : Nat) (r : DcuInt) : State := { s with dcus := tabPut s.dcus c r }
def State.pd (s : State) (d : Nat) : PdInt := tabGet (fun _ => {}) s.pds d
def State.setPd (s : State) (d : Nat) (r : PdInt) : State := { s with pds := tabPut s.pds d r }
def State.ch (s : State) (c : Nat) : ChInt := tabGet (fun _ => {}) s.chs c
def State.setCh (s : State) (c : Nat) (r : ChInt) : State := { s with chs := tabPut s.chs c r }
def State.sat (s : State) (i : Nat) : SatInt := tabGet (fun _ => {}) s.hub.sats i
def State.setSat (s : State) (i : Nat) (r : SatInt) : State := { s with hub := { s.hub with sats := tabPut s.hub.sats i r } }
def State.limiter (s : State) (n : Nat) : Limiter := tabGet (fun _ => {}) s.budget.limiters n
def State.setLimiter (s : State) (n : Nat) (r : Limiter) : State :=
  { s with budget := { s.budget with limiters := tabPut s.budget.limiters n r } }

def State.fp (s : State) (k : Nat) : FpInt := tabGet (fun _ => {}) s.fw.fps k
def State.setFp (s : State) (k : Nat) (r : FpInt) : State := { s with fw := { s.fw with fps := tabPut s.fw.fps k r } }
def State.port (s : State) (p : Nat) : PortInt := tabGet (fun _ => {}) s.drum.ports p
def State.setPort (s : State) (p : Nat) (r : PortInt) : State := { s with drum := { s.drum with ports := tabPut s.drum.ports p r } }

/-- The firmware processors of Z-REF. -/
def fpList : List Nat := List.range 4
/-- The rails of Z-REF. -/
def railList : List Nat := List.range 8
/-- The clock domains of Z-REF. -/
def cdList : List Nat := List.range 64
/-- The power domains of Z-REF. -/
def pdList : List Nat := List.range 96
/-- The partitions of Z-REF. -/
def ptList : List Nat := List.range 128

/-- The domains on a rail. -/
def State.cdsOf (s : State) (n : Nat) : List Nat := cdList.filter (fun c => s.rdN (Cd.cdRail c) = n)
/-- The partitions of a domain. -/
def State.ptsOfCd (s : State) (c : Nat) : List Nat := ptList.filter (fun p => s.rdN (Part.ptCd p) = c)
/-- The rail of a partition: the rail of its domain. -/
def State.ptRail (s : State) (p : Nat) : Nat := s.rdN (Cd.cdRail (s.rdN (Part.ptCd p)))
/-- The partitions whose domain is on a rail. -/
def State.ptsOf (s : State) (n : Nat) : List Nat := ptList.filter (fun p => s.ptRail p = n)
/-- The power domains on a rail. -/
def State.pdsOf (s : State) (n : Nat) : List Nat := pdList.filter (fun d => s.rdN (Pd.pdRail d) = n)

/-! ### Time (R7, R25) -/

/-- Beat time. -/
def State.beat (s : State) : Nat := s.beatHclk / 800
/-- The tick within the beat, truncated. -/
def State.tick (s : State) : Nat := (s.beatHclk % 800) * 1024 / 800
/-- Whether n HCLK have passed since a stored count. -/
def State.elapsed (s : State) (since n : Nat) : Bool := decide (since + n ≤ s.hclk)

/-! ### Open roundings (log 7) -/

/-- A quotient whose rounding the manual does not state: the floor or the next integer, as Config leaves open. -/
def divOpen (site : Nat) (num den : Int) : Int :=
  if num % den = 0 then num / den
  else if Config.roundUp site num den then num / den + 1 else num / den

/-- A quotient rounded to the nearest integer, a tie to either side as Config leaves open. -/
def divNear (site : Nat) (num den : Int) : Int :=
  if (2 * num) % (2 * den) = den % (2 * den) then divOpen site num den else (2 * num + den) / (2 * den)

/-- A quotient rounded to nearest, ties away from zero (R221). -/
def divAway (num den : Int) : Int :=
  if 0 ≤ num then (2 * num + den) / (2 * den) else -((2 * (-num) + den) / (2 * den))

/-- A quotient rounded up. -/
def divCeil (num den : Int) : Int := -((-num) / den)

/-- The next free value of a site (log 5). -/
def State.freeVal (s : State) (site : Nat) : Int := Config.freeValue site s.free

/-- The free value is taken: the next one is another. -/
def State.useFree (s : State) : State := { s with free := s.free + 1 }

/-! ### Interrupts (R111) -/

/-- Set an interrupt cause. -/
def State.cause (s : State) (b : Nat) : State := s.wrBit Irq.irqStatus b true

/-- A command entry has finished its action: its status value, and cause 1 (R111). -/
def State.cmdDone (s : State) (key : Nat) (v : Int) : State := (s.wr key v).cause 1

/-- Whether a key is a coefficient sub, 4000+n:40–7B (R242). -/
def isCoef (key : Nat) : Bool := decide (0x400000 ≤ key) && decide (key < 0x400800) && decide (0x40 ≤ key % 256) && decide (key % 256 ≤ 0x7B)

/-- A written RWS value is marked for the settings store from its first write on (R394); PENDING counts the marks. -/
def State.markRws (s : State) (key : Nat) : State :=
  if s.fw.marks.any (fun e => e.1 = key) then s
  else
    let m := tabPut s.fw.marks key s.hclk
    ({ s with fw := { s.fw with marks := m } }).wr Sett.pending m.length

/-! ### Event records (R406 to R412) -/

/-- Unsigned 32-bit form of a parameter; a signed one is sign-extended (R406). -/
def u32 (v : Int) : Nat := (v % 2 ^ 32).toNat

/-- The codes marked C in R410. -/
def chestCodes : List Nat :=
  [0x0108, 0x0202, 0x0309, 0x030A, 0x0401, 0x0402, 0x0403, 0x0602, 0x0603, 0x0606, 0x0607, 0x0608, 0x0609, 0x060A, 0x060B,
    0x0801, 0x0802, 0x0804, 0x0805, 0x0806, 0x0807, 0x0808, 0x0809]

/-- Whether a record of a code goes to the Chest (R417): marked C, all of class 9, or its class bit in CHEST_CLASSES. -/
def State.toChest (s : State) (code : Nat) : Bool :=
  chestCodes.contains code || decide (code / 256 = 9) || s.bit Ev.chestClasses (code / 256)

/-- Whether a unit has lost a record since its last one (R412). -/
def State.lostMark (s : State) (src : Nat) : Bool := tabGet (fun _ => false) s.shelf.lost src

/-- This instant, as a record describes it (R406, R408). -/
def State.stamp (s : State) : Stamp := ⟨s.beat, s.tick, s.rdN Node.alignState = 0 || s.rdN Node.alignState = 4⟩

/-- FLAGS of a record (R408): CHEST, FW, TIME_LOCAL of its instant, POST_CUT. LOST is set when the record reaches the shelf. -/
def State.recFlags (s : State) (i : Stamp) (code : Nat) (fw : Bool) : Nat :=
  (if s.toChest code then 1 else 0) + (if fw then 2 else 0) + (if i.own then 8 else 0) + (if s.shelf.postCut then 16 else 0)

/-- What the record queue keeps of records in queue order, n of them before the list (R412): from 112 on only those for the Chest, 128 in
all. The first that it does not keep comes beside it; the places behind that one are as they were. -/
def keepRecords (n : Nat) : List Rec → List Rec × Option Rec
  | [] => ([], none)
  | r :: q =>
    if n < 112 || (r.flags.testBit 0 && decide (n < 128)) then (r :: (keepRecords (n + 1) q).1, (keepRecords (n + 1) q).2) else (q, some r)

/-- The queue order of records of one HCLK (R412): SOURCE, CODE, P1, P2, P3. -/
def Rec.before (a b : Rec) : Bool :=
  if a.source ≠ b.source then decide (a.source < b.source)
  else if a.code ≠ b.code then decide (a.code < b.code)
  else if a.p1 ≠ b.p1 then decide (a.p1 < b.p1)
  else if a.p2 ≠ b.p2 then decide (a.p2 < b.p2) else decide (a.p3 < b.p3)

/-- A record takes its place in the queue (R412). -/
def enterQueue (q : List Rec) (r : Rec) : List Rec :=
  let later := fun (x : Rec) => x.entered = r.entered && r.before x
  q.filter (fun x => !later x) ++ r :: q.filter later

/-- A record is lost (R412): RECQ_LOST, SHELF_LOST of its unit, LOST in the unit's next record. -/
def State.loseRecord (s : State) (r : Rec) : State :=
  (({ s with shelf := { s.shelf with lost := tabPut s.shelf.lost r.source true } }).bump Ev.recqLost).bump (Shelf.shelfLost (r.source % 128))

/-- Enter a record of an instant into the record queue; it, or one of its HCLK that it puts behind the last place, is lost (R412). -/
def State.recordAt (s : State) (i : Stamp) (fw : Bool) (src code : Nat) (p1 p2 p3 : Int) : State :=
  let r : Rec := ⟨code, s.recFlags i code fw, src, i.beat, i.tick, u32 p1, u32 p2, u32 p3, 0, s.hclk⟩
  let q := keepRecords 0 (enterQueue s.shelf.queue r)
  let s1 : State := { s with shelf := { s.shelf with queue := q.1 } }
  match q.2 with
  | none => s1
  | some l => s1.loseRecord l

/-- Enter a hardware record of this instant. -/
def State.record (s : State) (src code : Nat) (p1 p2 p3 : Int) : State := s.recordAt s.stamp false src code p1 p2 p3

/-- Enter a firmware record of this instant. -/
def State.recordFw (s : State) (src code : Nat) (p1 p2 p3 : Int) : State := s.recordAt s.stamp true src code p1 p2 p3

/-- The shelf of a rail (R407). -/
def srcRail (n : Nat) : Nat := 8 + n
/-- The shelf of a DCU (R407). -/
def srcCd (c : Nat) : Nat := 0x40 + c
/-- The shelf of a Drumline port (R407). -/
def srcDl (p : Nat) : Nat := 0x10 + p
/-- Enter a record that FP2 writes on the DL0 port shelf (R408, R410). -/
def State.recordDl (s : State) (code : Nat) (p1 p2 p3 : Int) : State := s.recordFw (srcDl 0) code p1 p2 p3
/-- The Gong shelf (R407). -/
def srcGong : Nat := 0x18

end Sys2Proof.Machine
end

