-- ==== Sys2Proof/Machine/Blob.lean ====
section
/-! DEFINITION. The committed content of the writable BLOBs in 8-byte words (R93), with the fields that the block uses: the
operating-point tables (R245, R247), the Kettle parameters (R294) and the learned profiles (R271). -/

namespace Sys2Proof.Machine

/-- The key of a word of a BLOB. -/
def blobKey (idx w : Nat) : Nat := idx * 65536 + w

/-- The words before any commit: Lernos tables at 6010, Lernos parameters at 5080, else 0. -/
def blobDefault (k : Nat) : Nat :=
  let w := k % 65536
  if k / 65536 = 0x6010 then (Config.opTables w).toNat
  else if k / 65536 = 0x5080 then
    (if w < 256 then
      (if w % 2 = 0 then (Config.ktAnchor (w / 2)).val + Config.ktRf (w / 2) * 2 ^ 16 + Config.ktTauF (w / 2) * 2 ^ 32
       else Config.ktTLimit (w / 2))
     else if w < 288 then Config.ktRs (w - 256) + Config.ktTauS (w - 256) * 2 ^ 16 else 0)
  else 0

/-- A committed word. -/
def State.blobWord (s : State) (idx w : Nat) : Nat := tabGet blobDefault s.blob (blobKey idx w)

/-- Replace a committed word. -/
def State.setBlobWord (s : State) (idx w v : Nat) : State := { s with blob := tabPut s.blob (blobKey idx w) v }

/-! ### Kettle parameters (R294) -/

/-- ANCHOR of a partition. -/
def State.ktAnchor (s : State) (p : Nat) : Nat := getField (s.blobWord 0x5080 (2 * p)) 0 8
/-- RF of a partition, 0.001 °C/W. -/
def State.ktRf (s : State) (p : Nat) : Nat := getField (s.blobWord 0x5080 (2 * p)) 16 16
/-- TAU_F of a partition, ns. -/
def State.ktTauF (s : State) (p : Nat) : Nat := getField (s.blobWord 0x5080 (2 * p)) 32 32
/-- T_LIMIT of a partition, 1/16 °C. -/
def State.ktTLimit (s : State) (p : Nat) : Nat := getField (s.blobWord 0x5080 (2 * p + 1)) 0 16
/-- RS of a die diode, 0.001 °C/W. -/
def State.ktRs (s : State) (d : Nat) : Nat := getField (s.blobWord 0x5080 (256 + d)) 0 16
/-- TAU_S of a die diode, µs. -/
def State.ktTauS (s : State) (d : Nat) : Nat := getField (s.blobWord 0x5080 (256 + d)) 16 32
/-- The partitions anchored to a die diode. -/
def State.anchored (s : State) (d : Nat) : List Nat := ptList.filter (fun p => s.ktAnchor p = d)

/-! ### Operating points (R245, R247) -/

/-- An operating point (R245). -/
structure OpPoint where
  valid : Bool
  code : Nat
  vb : Nat
  va : Nat
  deriving DecidableEq, Repr

/-- Point k of a group in a mode. -/
def State.opPoint (s : State) (g m k : Nat) : OpPoint :=
  let w := s.blobWord 0x6010 ((g * 4 + m) * 32 + k)
  ⟨w.testBit 63, getField w 48 8, getField w 16 16, getField w 0 16⟩

/-- FMAX_REF of a domain at a point in a mode, MHz (R247). -/
def State.fmaxRef (s : State) (d i m : Nat) : Nat := getField (s.blobWord 0x6010 (1024 + d * 32 + i)) (16 * m) 16

/-! ### Learned profiles (R257, R271) -/

/-- The instance count of a phase ID on a partition. -/
def State.learnCount (s : State) (q p : Nat) : Nat := getField (s.blobWord (0x6200 + q) p) 32 16

/-- D of a phase ID on a partition, mW: PT_DEFAULT_MW while the count is 0. -/
def State.learnD (s : State) (q p : Nat) : Nat :=
  if s.learnCount q p = 0 then s.rdN (Part.ptDefaultMw p) else getField (s.blobWord (0x6200 + q) p) 0 32

end Sys2Proof.Machine
end

