-- ==== Sys2Proof/Machine/Flags.lean ====
section
/-! DEFINITION. The flags: the alarm bits, the ladder level, the ring depths and IRQ_N, brought up to the state after every command (R36, R37, R52, R111). -/

namespace Sys2Proof.Machine

/-! ### Levels that follow the state -/

/-- Rung 1 is active from the trip until the restart (R30, R289): ORDERLY, COOLING or READY. -/
def State.rung1 (s : State) : Bool :=
  decide (s.rd Gong.gongState = 1) || decide (s.rd Gong.gongState = 2) || decide (s.rd Gong.gongState = 3)

/-- A bit mask of the rails for which a condition holds. -/
def railMask (f : Nat → Bool) : Nat := railList.foldl (fun m n => if f n then m + 2 ^ n else m) 0

/-- Rails with rung 2 active. -/
def State.rung2Mask (s : State) : Nat := railMask (fun n => (s.rail n).rung2)
/-- Rails with rung 4 active. -/
def State.rung4Mask (s : State) : Nat := railMask (fun n => (s.loop n).rung4)
/-- Rails with rung 5 active: the ceiling is below code 16 (R264). -/
def State.rung5Mask (s : State) : Nat := railMask (fun n => decide ((s.limiter n).ceil < 16))
/-- Whether rung 3 is active on any domain. -/
def State.rung3Any (s : State) : Bool := s.snares.any (fun e => e.2.rung3)

/-- The ladder level (R36): the smallest rung of 1 to 5 that is active, else 6. -/
def State.levelOf (s : State) : Int :=
  if s.rung1 then 1 else if s.rung2Mask ≠ 0 then 2 else if s.rung3Any then 3 else if s.rung4Mask ≠ 0 then 4
  else if s.rung5Mask ≠ 0 then 5 else 6

/-- The alarm conditions that stand (1101). -/
def State.alarmsOf (s : State) : Nat :=
  (if s.rung1 then 1 else 0) + (if s.rung2Mask ≠ 0 then 2 else 0) + (if s.rung4Mask ≠ 0 then 4 else 0)
    + (if s.rung5Mask ≠ 0 then 8 else 0) + (if s.loops.any (fun e => e.2.hold) then 16 else 0)
    + (if s.rd Budget.capState = 2 then 32 else 0) + (if s.rd Fw.fixedMode ≠ 0 then 64 else 0)
    + (if s.hub.sats.any (fun e => e.2.isolated || e.2.broken0 || e.2.broken1) then 128 else 0)
    + (if s.rd Clk.brefState = 3 then 256 else 0)
    + (if s.rd Kettle.sensorsOut ≠ 0 || s.gong.coverLow || decide (2 ≤ s.hk.refBad)
          || s.chs.any (fun e => e.2.excluded) then 512 else 0)
    + (if s.rd Chest.chestState = 2 then 1024 else 0)

/-- RUNGS_ACTIVE: rungs 1 to 5 in [4:0], rung 7 in [5]. -/
def State.rungsOf (s : State) : Nat :=
  (if s.rung1 then 1 else 0) + (if s.rung2Mask ≠ 0 then 2 else 0) + (if s.rung3Any then 4 else 0)
    + (if s.rung4Mask ≠ 0 then 8 else 0) + (if s.rung5Mask ≠ 0 then 16 else 0)
    + (if cdList.any (fun c => getField (s.rdN (SrcCd.srcCd (c / 16))) (4 * (c % 16)) 4 = 7) then 32 else 0)

/-- Whether a thermal warning stands (R283, R284, R290). -/
def State.warnStands (s : State) : Bool := s.chs.any (fun e => e.2.warned) || s.rd Kettle.bhState = 1 || s.gong.coverLow

/-- The causes whose condition stands (R111): the depth of ring H at its threshold; a processor in RESTART or DOWN, or fixed mode; a
thermal warning. The other causes are of events (log 96). -/
def State.standingCauses (s : State) : List Nat :=
  (if s.rdN (Ring.cqThresh 0) ≤ s.hub.ringH.length then [0] else [])
    ++ (if s.rd Fw.fixedMode ≠ 0 || fpList.any (fun k => s.rd (Fp.fpState k) = 4 || s.rd (Fp.fpState k) = 5) then [6] else [])
    ++ (if s.warnStands then [8] else [])

/-- The alarms that begin (R111): standing now and not before; bit 11, an interval recorded, begins and ends at once. -/
def State.freshAlarms (s : State) : Nat :=
  (s.alarmsOf &&& (s.alarmsOf ^^^ s.rdN Alarm.alarmActive)) ||| (if s.lostNow then 2048 else 0)

/-- The alarms that begin while their latched bit is clear. -/
def State.newAlarms (s : State) : Nat := s.freshAlarms &&& (s.freshAlarms ^^^ (s.freshAlarms &&& s.rdN Alarm.alarmLatched))

/-- The interval is seen. -/
def State.seenLost (s : State) : State := { s with lostNow := false }

/-- Bits that wait to be notified (R105). -/
def State.toNotify (s : State) (l : List Nat) : State := { s with notify := s.notify ++ l }

/-- Bring the alarm registers up to the state: standing conditions, a latch for each that begins, and cause 2 where a latched bit goes
from 0 to 1 (R111). -/
def State.settleAlarms (s : State) : State :=
  let s1 := (s.seenLost.wr Alarm.alarmLatched (s.rdN Alarm.alarmLatched ||| s.freshAlarms : Nat)).wr Alarm.alarmActive s.alarmsOf
  if s.newAlarms = 0 then s1 else (s1.cause 2).toNotify ((List.range 16).filter (fun i => s.newAlarms.testBit i))

/-- Bring the ladder registers up to the state (R36, R37): the level, its instant and cause 3 at a change. -/
def State.settleLevel (s : State) : State :=
  let lv := s.levelOf
  let s1 := if s.rd Ladder.ladderLevel = lv then s
    else (((s.wr Ladder.ladderLevel lv).wr Ladder.levelSince s.beat).bump Ladder.levelChanges).cause 3
  (((s1.wr Ladder.rungsActive s.rungsOf).wr Alarm.rung2Rails s.rung2Mask).wr Alarm.rung4Rails s.rung4Mask).wr
    Alarm.rung5Rails s.rung5Mask

/-- Dictionary transactions in flight (R103): messages that wait to be carried out, for a chunk or for a fetch. -/
def State.inFlight (s : State) : Nat :=
  (s.host.inbox.filter (fun m => !m.ctrl)).length + (s.fw.program.filter (fun j => j.asker.isSome)).length + s.chest.askers.length
    + s.chest.dumpAskers.length

/-- Bring the ring and tag depths up to the state (1202:01, 1210:03, 1220:02, 1220:03, A000:01). -/
def State.settleRings (s : State) : State :=
  let h := s.hub.ringH
  let m := s.hub.ringM
  let s1 := (((((s.wr (Ring.cqDepth 0) h.length).wr (Ring.cqDepth 1) m.length).wr (Ring.cqPeek 0) ((h.headD 0).toNat)).wr
    (Ring.cqPeek 1) ((m.headD 0).toNat)).wr Act.actInflight s.hub.tags.length).wr Ev.recqDepth s.shelf.queue.length
  (s1.wr Ev.recqMax (max (s.rd Ev.recqMax) s.shelf.queue.length)).wr DictSt.dictInflight s.inFlight

/-- IRQ_N (R52): low while a cause is set and enabled. -/
def State.settleIrq (s : State) : State :=
  { s with irqN := decide (s.rdN Irq.irqStatus &&& s.rdN Irq.irqEnable = 0) }

/-- SHARED_EFF follows SHARED_MODE and CD_RST_N (R357). -/
def State.settleShared (s : State) : State :=
  s.wr EnTel.sharedEff (if s.rd EnTel.sharedMode = 1 || !s.start.released then 1 else 0)

/-- What taints a learning instance of a partition (R258): Brush below code 16, rung 1 to 5 on its rail or domain, or rung 7
binding its domain. -/
def State.taints (s : State) (p : Nat) : Bool :=
  let c := s.rdN (Part.ptCd p)
  let n := s.rdN (Cd.cdRail c)
  decide (tabGet (fun _ => (16 : Int)) s.hub.brush p < 16) || s.rung1 || (s.rail n).rung2 || (s.snare c).rung3
    || (s.loop n).rung4 || decide ((s.limiter n).ceil < 16)
    || getField (s.rdN (SrcCd.srcCd (c / 16))) (4 * (c % 16)) 4 = 7

/-- The last HCLK at which something tainted a partition that learns (R258). -/
def State.settleTaint (s : State) : State :=
  { s with
    budget := { s.budget with
      cum := s.budget.cum.map (fun e => if s.taints e.1 then (e.1, { e.2 with taintAt := some s.hclk }) else e) } }

/-- FP1's timers count only while it runs (R266): an outage moves their starts. -/
def BudgetFw.shift (f : BudgetFw) (n : Nat) : BudgetFw :=
  { f with overSince := f.overSince.map (fun t => t + n), underSince := f.underSince.map (fun t => t + n) }

/-- Since when a halted processor is halted (R426): the cut, or its arrival in RUN after it. -/
def State.haltFrom (s : State) (k : Nat) : Nat := max (s.fp k).runAt (s.hang.cutHclk + s.start.hubAt)

/-- Whether a processor is in RUN and not halted (R371, R426). -/
def State.fpRuns (s : State) (k : Nat) : Bool := s.rd (Fp.fpState k) = 2 && !(s.fp k).halted

/-- The mask of the processors in a state. -/
def State.fpMask (s : State) (st : Int) : Nat := fpList.foldl (fun m k => if s.rd (Fp.fpState k) = st then m + 2 ^ k else m) 0

/-- The crashes of a processor within the last 60,000,000 beats (R369), by their HCLK. -/
def State.crashesNow (s : State) (k : Nat) : List Nat := (s.fp k).crashes.filter (fun t => decide (s.hclk ≤ t + 48000000000))

/-- Fixed mode while any processor is DOWN (R369). -/
def State.fixedOf (s : State) : Int := if s.fpMask 5 = 0 then 0 else 1

/-- FP_UP, FP_DOWN, CRASHES_WINDOW, and fixed mode while any processor is DOWN, recorded at entry and exit with cause 6 (R369). -/
def State.settleFp (s : State) : State :=
  let down := s.fpMask 5
  let s0 := forEach fpList (fun k s => s.wr (Fp.crashesWindow k) (min 3 (s.crashesNow k).length : Nat)) s
  let s1 := (s0.wr Fw.fpUp (s.fpMask 2)).wr Fw.fpDown down
  if s.rd Fw.fixedMode = s.fixedOf then s1 else ((s1.wr Fw.fixedMode s.fixedOf).record 0 0x0603 s.fixedOf down 0).cause 6

/-- The quiet condition of R386 (the ladder at rung 6, every processor in RUN and not halted) and a pause of R389. -/
def State.settleQuiet (s : State) : State :=
  let a := s.fw.act
  let calm := decide (6 ≤ s.rd Ladder.ladderLevel) && fpList.all (fun k => s.rd (Fp.fpState k) = 2 && !(s.fp k).halted)
  { s with
    fw := { s.fw with
      act := { a with
        quietAt := if calm then some (a.quietAt.getD s.hclk) else none
        pausedAt := if a.phase = 2 && decide (s.rd Ladder.ladderLevel < 6) then some (a.pausedAt.getD s.hclk) else a.pausedAt } } }

/-- Whether a slot is in a state. -/
def State.slotIn (s : State) (v : Int) : Bool := (List.range 2).any (fun a => s.rd (Slot.slotState a) = v)

/-- UPD_STATE summarises the slots and the activation (R401). -/
def State.updStateOf (s : State) : Int :=
  match s.fw.act.phase with
  | 1 => 3
  | 2 => 4
  | 3 => 6
  | 4 => 6
  | _ => if s.slotIn 4 then 5 else if s.slotIn 2 then 2 else if s.slotIn 1 then 1 else 0

/-- UPD_STATE follows the state; a change is cause 11. -/
def State.settleUpd (s : State) : State := if s.rd Upd.updState = s.updStateOf then s else (s.wr Upd.updState s.updStateOf).cause 11

/-- With NOTIFY_EID 0 nothing is to be notified (R105). -/
def State.settleNotify (s : State) : State := if s.rd Xport.notifyEid = 0 then { s with notify := [] } else s

/-- Bring every level that follows the state up to it. -/
def State.settle (s : State) : State :=
  s.settleFp.settleAlarms.settleLevel.settleRings.settleShared.settleTaint.settleQuiet.settleUpd.settleNotify.settleIrq

/-- The outcome of a command with its effect: the next state, its levels brought up to it. -/
def done (s : State) : Host.Outcome State Fault Refusal := .next s.settle

end Sys2Proof.Machine
end

