-- ==== Sys2Proof/Machine/Convert.lean ====
section
/-! DEFINITION. The housekeeping converter (R67, R272, R274 to R276): the slot of an HCLK, the calibration, the conversion of a reading and its
electrical faults; and the Gong trip that a reading of this HCLK brings (R285, R292). -/

namespace Sys2Proof.Machine

/-- The multiple of 1,600 HCLK from hub reset at which the sequencer starts: the first at or after an HCLK (R272). -/
def State.slotFrom (s : State) (h : Nat) : Nat := s.start.hubAt + (h - s.start.hubAt + 1599) / 1600 * 1600

/-- Whether a reading stands at this HCLK, and has not been taken (R272). -/
def State.hkDue (s : State) : Bool :=
  s.hk.running && decide (s.hk.startAt < s.hclk) && (s.hclk - s.hk.startAt) % 1600 = 0 && s.hk.convAt ≠ some s.hclk

/-- The channel whose reading stands at this HCLK: a round converts 0 to 127 in order (R272). -/
def State.hkChan (s : State) : Nat := ((s.hclk - s.hk.startAt) / 1600 - 1) % 128

/-- A voltage by the gain and offset that the converter applies (R276), µV: none before the first round ends. -/
def State.hkVolt (s : State) (v : Int) : Int :=
  match s.hk.refs with
  | some (z, f) => if f - z ≤ 0 then v else divNear 161 ((v - z) * (Config.hkFullScale : Int)) (f - z)
  | none => v

/-- A sum of powers: z + z³/3 + z⁵/5 + … to a number of terms, in 2^-60. -/
def atanhSum (z : Int) : Nat → Nat → Int → Int
  | 0, _, _ => 0
  | k + 1, n, p => p / (n : Int) + atanhSum z k (n + 2) (p * z / 2 ^ 60 * z / 2 ^ 60)

/-- The natural logarithm of a ratio of positive numbers, in 2^-60: of its power of two, and of the rest by the sum of atanh. -/
def lnFix (a b : Nat) : Int :=
  let k : Int := (Nat.log2 a : Int) - (Nat.log2 b : Int)
  let m : Int := if 0 ≤ k then (a : Int) * 2 ^ 60 / ((b : Int) * 2 ^ k.toNat) else (a : Int) * 2 ^ 60 * 2 ^ (-k).toNat / (b : Int)
  let z := (m - 2 ^ 60) * 2 ^ 60 / (m + 2 ^ 60)
  2 * atanhSum z 20 1 z + k * 799144290325165979

/-- The temperature of a diode, 1/16 °C (R274): q × ΔVBE / (η k ln 4) − 273.15 °C, with q/k of the SI and η in 1/2^14. -/
def diodeTemp (dv eta : Int) : Int :=
  let num := 16 * dv * 16021766340 * 16384 * 1000000000000000
  let den := 1000000 * 1380649 * 1386294361119891 * eta
  divNear 162 (10 * num - 43704 * den) (10 * den)

/-- The temperature of a thermistor, 1/16 °C (R274): of R_T / 10 kΩ = V / (1.2 V − V) and β. -/
def thermistorTemp (v beta : Int) : Int :=
  let ln := lnFix v.toNat (1200000 - v).toNat
  let inv := 2 ^ 60 * 100 * beta + 29815 * ln
  if inv ≤ 0 then 32767 else divNear 163 (16 * 29815 * beta * 2 ^ 60 * 100 - 43704 * 10 * inv) (100 * inv)

/-- VALUE of a channel for a calibrated voltage, by its kind (R274). -/
def State.hkValue (s : State) (c : Nat) (v : Int) : Int :=
  match s.rdN (Ch.chKind c) with
  | 1 => diodeTemp v (s.rd (Ch.ideality c))
  | 2 => diodeTemp v (s.rd (Ch.ideality c))
  | 3 => diodeTemp v (s.rd (Ch.ideality c))
  | 4 => thermistorTemp v (s.rd (Ch.beta c))
  | 5 => 400 + divNear 164 (v - 600000) 500
  | 8 => Config.dieSensor v
  | _ => divNear 165 v 250

/-- Whether a reading is an electrical fault (R275): a diode open or short, a thermistor open or short, a TMON input above 1.650 V. -/
def State.hkFault (s : State) (c : Nat) (i : HkIn) : Bool :=
  let v := s.hkVolt i.uv.toNat
  match s.rdN (Ch.chKind c) with
  | 4 => decide (1190000 < v) || decide (v < 10000)
  | 5 => decide (1650000 < v)
  | k => decide (1 ≤ k) && decide (k ≤ 3) && (decide (1000000 < s.hkVolt i.bias.toNat) || decide (s.hkVolt i.vbe.toNat < 150000))

/-- VALUE of a reading (R274, R275): 0x8000 for a faulted one. -/
def State.hkRead (s : State) (c : Nat) (i : HkIn) : Int := if s.hkFault c i then -32768 else s.hkValue c (s.hkVolt i.uv.toNat)

/-- Whether a reading of this HCLK is hot for Gong (R285). -/
def State.hkHot (s : State) (i : HkIn) : Bool :=
  let c := s.hkChan
  s.hkDue && s.rd (Ch.chKind c) = 1 && s.rd (Ch.chStatus c) ≠ 3 && decide (s.rd Gong.gongLevel ≤ s.hkRead c i)

/-- Whether a reading that waits in this HCLK trips Gong (R146, R292). -/
def State.tripComes (s : State) : Bool :=
  s.gong.prevHot && (s.rd Gong.gongState = 0 || s.rd Gong.gongState = 4)
    && s.comes (fun i => match i with | .hkConversion r => s.hkHot r | _ => false)

end Sys2Proof.Machine
end

