-- ==== Sys2Proof/Machine/Reply.lean ====
section
/-! DEFINITION. Responses over MCTP (R100 to R104) and over the host target port (R48 to R50). -/

namespace Sys2Proof.Machine

/-- The four bytes of an enterprise number, big-endian (R100). -/
def penBytes (pen : Nat) : List Byte := (leBytes 4 pen).reverse

/-- The status codes of R101. -/
inductive Status where
  | ok | access | decode | retry | range | busy | length | pen | gen | version
  deriving DecidableEq, Repr

/-- The code of a status (R101). -/
def Status.code : Status → Nat
  | .ok => 0 | .access => 1 | .decode => 2 | .retry => 3 | .range => 4 | .busy => 5 | .length => 6 | .pen => 7 | .gen => 8
  | .version => 9

/-- A dictionary message of Zilari (R100), after its MCTP message type byte. -/
def dictBytes (op status count idx sub : Nat) (body : List Byte) : List Byte :=
  penBytes Config.ianaPen.toNat ++ leBytes 1 1 ++ leBytes 1 op ++ leBytes 1 status ++ leBytes 1 count ++ leBytes 2 idx
    ++ leBytes 1 sub ++ leBytes 1 0 ++ body

/-- The largest payload of a packet on a transport (R56, R99): the mailbox's 1,024 bytes hold the 4-byte header. -/
def packetMax (x : Xport) : Nat := if x = .mailbox then 1020 else 64

/-- A message cut into the transmission units of its transport (R99), with fuel for the packets left; sequence numbers count from 0, which
DSP0236 leaves to the sender (log 112). -/
def cutPackets (src : Byte) (t : MctpTx) (owner : Bool) : Nat → Nat → List Byte → List Packet
  | 0, _, _ => []
  | k + 1, i, b =>
    let last := decide (b.length ≤ packetMax t.x)
    ⟨src, BitVec.ofNat 8 t.dst, i = 0, last, BitVec.ofNat 2 i, owner, BitVec.ofNat 3 t.tag, b.take (packetMax t.x), true, true⟩
      :: (if last then [] else cutPackets src t owner k (i + 1) (b.drop (packetMax t.x)))

/-- The packets of a message: its type byte, 0x7F or 0 for control, and its bytes (R99). `owner`: the tag-owner bit, clear in a response
(R104). -/
def packetsOf (src : Byte) (t : MctpTx) (owner : Bool) : List Packet :=
  let b := (if t.ctrl then (0 : Byte) else 0x7F) :: t.bytes
  cutPackets src t owner b.length 0 b

/-- Whether a transport answers (R46, 1200:01): each MCTP transport while its bit is 1 and the hub is out of reset. -/
def State.xportOn (s : State) (x : Xport) : Bool :=
  s.start.hubUp && (match x with
  | .htp => false
  | .i3c => s.bit Xport.xportEn 0
  | .smbus => s.bit Xport.xportEn 1
  | .mailbox => s.bit Xport.xportEn 2)

/-- A message goes out over its transport, which sends nothing while it is disabled (1200:01). -/
def State.sendMsg (s : State) (t : MctpTx) (owner : Bool) : State :=
  if s.xportOn t.x then
    { s with host := { s.host with tx := some t, packets := packetsOf (BitVec.ofNat 8 (s.rdN Xport.mctpEid)) t owner } }
  else s

/-- A response goes out to its requester (R100, R104); BUSY answers are counted. -/
def State.respond (s : State) (a : Asker) (op : Nat) (st : Status) (count : Nat) (body : List Byte) : State :=
  let s1 := s.sendMsg ⟨a.x, a.src, a.tag, false, dictBytes (op + 128) st.code count a.idx a.sub body⟩ false
  if st = .busy then s1.bump DictSt.busyCount else s1

/-- A response where a requester waits for one. -/
def State.respondTo (s : State) (a : Option Asker) (op : Nat) (st : Status) (body : List Byte) : State :=
  match a with | some a => s.respond a op st a.count body | none => s

/-- The message a command carries out leaves the messages that wait (R103). -/
def State.takeMsg (s : State) (x : Xport) (src tag : Nat) : State :=
  match s.host.inbox.find? (fun m => m.x = x && m.src = src && m.tag = tag) with
  | some m => { s with host := { s.host with inbox := s.host.inbox.erase m } }
  | none => s

/-- Whether the turn of a message has come with an inbox (R104): no message to its index that arrived before it waits there, nor a block
read of it for its fetch, nor a chunk for its program. -/
def State.turnIn (s : State) (box : List Inbound) (x : Xport) (m : DictMsg) : Bool :=
  (match box.find? (fun e => !e.ctrl && leNat ((e.bytes.drop 8).take 2) = m.idx.toNat) with
    | some e => e.x = x && e.src = m.src.toNat && e.tag = m.tag.toNat
    | none => true)
  && !(m.idx = 0xA011 && s.chest.askers ≠ []) && !(m.idx = 0xA031 && s.chest.dumpAskers ≠ [])
  && !(m.idx = 0x9033 && s.fw.program.any (fun j => j.asker.isSome))

/-- Whether the turn of a message has come now (R104). -/
def State.msgTurn (s : State) (x : Xport) (m : DictMsg) : Bool := s.turnIn s.host.inbox x m

/-! ### The channels of the host target port (R48 to R51) -/

/-- HTP_REQ_READY (R46, R47, R49): low while the hub is in reset or SOFT_RST is high, and where 16 requests are outstanding. -/
def State.reqReady (s : State) : Bool := s.hostUp && decide (s.host.outstanding.length < 16)

/-- The response of an accepted request (R49, R50): tag, code, read data. It is offered 6 HCLK after its acceptance at the earliest, and
`most` HCLK after it at the latest, which the spec leaves to the blocking: a free value. -/
def State.htpRespondIn (s : State) (most tag err data : Nat) : State :=
  let r : HtpRsp := ⟨tag, err, BitVec.ofNat 64 data⟩
  let wait := 6 + (s.freeVal 215 % ((most : Int) - 5)).toNat
  ({ s with host := { s.host with
      rsp := some r, outstanding := s.host.outstanding ++ [⟨r, s.hclk + wait⟩] } } : State).useFree

/-- A response within the bound of R49. -/
def State.htpRespond (s : State) (tag err data : Nat) : State := s.htpRespondIn 206 tag err data

/-- What Zilari offers on the response channel (R48): the oldest outstanding response once it is valid; HTP_RSP_VALID is low for none. -/
def State.rspOffered (s : State) : Option HtpRsp :=
  match s.host.outstanding with
  | r :: _ => if s.hostUp && decide (r.validAt ≤ s.hclk) then some r.rsp else none
  | [] => none

/-- An edge of the response channel (R48, R51): an offered response is taken where HTP_RSP_READY is high, and held as it is where it is
low. No command carries the host's READY: it is a free value of each HCLK (log 113). -/
def State.rspEdge (s : State) : State :=
  if s.rspOffered.isSome then
    (if s.freeVal 216 % 2 = 1 then { s with host := { s.host with outstanding := s.host.outstanding.drop 1 } } else s).useFree
  else s

end Sys2Proof.Machine
end

