-- ==== Sys2Proof/Machine/Comes.lean ====
section
/-! DEFINITION. What an access over the host target port or MCTP meets first (R49, R50, R84 to R87, R91, R96, R97, R100 to R104), and the
dictionary writes of this HCLK that still wait in the queue (R11, R92; log 93). -/

namespace Sys2Proof.Machine

/-- The number of a transport (R89). -/
def xnum : Xport → Nat
  | .htp => 0 | .i3c => 1 | .smbus => 2 | .mailbox => 3

/-- Whether the fuses allow factory settings: MANUFACTURE and RETURNED (R455). -/
def State.factory (s : State) : Bool := s.rd Lc.lcState = 1 || s.rd Lc.lcState = 4

/-- Whether B050 is served: in MANUFACTURE and RETURNED (R455, R465). -/
def State.engineOpen (s : State) : Bool := s.factory

/-- Whether a sub is of a BLOB's window (R93): subs 10 to FF of an index with a CURSOR. -/
def isBlob (idx : Nat) : Bool :=
  idx = 0x6010 || idx = 0x5080 || idx = 0x9034 || idx = 0xA011 || idx = 0xA031 || idx = 0xB040
    || (decide (0x4010 ≤ idx) && decide (idx < 0x4018)) || (decide (0x6200 ≤ idx) && decide (idx < 0x6300))
    || (decide (0x9020 ≤ idx) && decide (idx < 0x9024)) || (decide (0xA080 ≤ idx) && decide (idx < 0xA100))

/-- Whether a BLOB is writable (R95). -/
def blobWritable (idx : Nat) : Bool :=
  idx = 0x6010 || idx = 0x5080 || idx = 0xB040 || (decide (0x6200 ≤ idx) && decide (idx < 0x6300))

/-- The processor that serves an entry (R91, R243, R332, R334, R365), none for hub hardware. -/
def servedBy (idx sub : Nat) : Option Nat :=
  if idx = 0x6000 then
    (if (decide (0x10 ≤ sub) && decide (sub ≤ 0x17)) || (decide (0x1B ≤ sub) && decide (sub ≤ 0x1E)) || sub = 0x30 then none else some 1)
  else if decide (0x6100 ≤ idx) && decide (idx < 0x6300) then some 1
  else if idx = 0x7020 || idx = 0x7040 then some 2
  else if decide (0x9030 ≤ idx) && decide (idx ≤ 0x9035) then some 3
  else none

/-- Whether an entry is present in this configuration (R85, R331): sub 00 of a present index, or a listed sub; 9033 has no sub
00 (R403). -/
def subPresent (idx sub : Nat) : Bool :=
  if sub = 0 then (highestSub idx).isSome && idx ≠ 0x9033
  else (rowOf (idx * 256 + sub)).isSome && !(decide (0x7011 ≤ idx) && decide (idx ≤ 0x7013) && (sub = 8 || sub = 9))

/-- Whether the life-cycle state denies an index (R112, R465). -/
def State.denied (s : State) (idx : Nat) : Bool :=
  (decide (0xF000 ≤ idx) && (s.rd Lc.lcState = 2 || s.rd Lc.lcState = 3)) || (idx = 0xB050 && !s.engineOpen)

/-- Whether an index serves production test now, which the manual does not describe (R112). -/
def State.vendorOpen (s : State) (idx : Nat) : Bool := decide (0xF000 ≤ idx) && !s.denied idx

/-- What stops any access to a sub (R49, R91, R112): absent, denied, or served by a processor that does not run. -/
def State.accessStatus (s : State) (idx sub : Nat) : Option Status :=
  if 0xF000 ≤ idx then (if s.denied idx then some .access else none)
  else if !subPresent idx sub then some .decode
  else if s.denied idx then some .access
  else match servedBy idx sub with
    | some k => if s.fpRuns k then none else some .retry
    | none => none

/-- The access code of a present sub. -/
def accOf (idx sub : Nat) : Acc := match rowOf (idx * 256 + sub) with | some (_, r) => if sub = 0 then .ro else r.acc | none => .ro

/-- The strobes that cover a value (R87). -/
def tyMask (t : Ty) : Nat := match t with | .u b => 2 ^ b - 1 | .s b => 2 ^ b - 1

/-- What stops a write (R50, R87): the access code, and strobes that miss a byte of the value. -/
def State.writeStatus (s : State) (idx sub strb : Nat) : Option Status :=
  match s.accessStatus idx sub with
  | some st => if strb = 0 && st ≠ .decode && st ≠ .access then some .ok else some st
  | none =>
    if strb = 0 then some .ok
    else if accOf idx sub = .ro || accOf idx sub = .rc then some .access
    else if strb &&& tyMask (tyOf (idx * 256 + sub)) ≠ tyMask (tyOf (idx * 256 + sub)) then some .access else none

/-- What stops a read (R50). -/
def State.readStatus (s : State) (idx sub : Nat) : Option Status :=
  match s.accessStatus idx sub with
  | some st => some st
  | none => if accOf idx sub = .wo then some .access else none

/-- The subs of a READ or WRITE. -/
def msgSubs (m : DictMsg) : List Nat := List.range' m.sub.toNat m.count.toNat

/-- COUNT and SUB of a READ or WRITE with a body of the right length (R101). -/
def lengthOk (m : DictMsg) (bytes : Nat) : Bool :=
  decide (1 ≤ m.count.toNat) && decide (m.count.toNat ≤ 32) && decide (m.sub.toNat + m.count.toNat ≤ 256) && m.body.length = bytes

/-- The slot and the strobes of place k of a WRITE (R100). -/
def msgSlot (m : DictMsg) (k : Nat) : Nat := leNat ((m.body.drop (8 * k)).take 8)
def msgStrobe (m : DictMsg) (k : Nat) : Nat := ((m.body.drop (8 * m.count.toNat + k)).headD 0).toNat

/-- The index and sub of a dictionary address (R84); none outside the range or misaligned. -/
def dictAddr (a : Nat) : Option (Nat × Nat) :=
  if a % 8 = 0 && decide (0x8000000 ≤ a) && decide (a < 0x10000000) then some ((a - 0x8000000) / 2048, (a - 0x8000000) / 8 % 256)
  else none

/-- The index and sub of a legacy address (R96); none where nothing is mapped. -/
def legacyAddr (a : Nat) : Option (Nat × Nat) :=
  let p := if a < 0x100 then some (0x1000, a / 8 + 1)
    else if a < 0x200 then some (0x1100, (a - 0x100) / 8 + 1)
    else if 0x1000 ≤ a && a < 0x1800 then some (0x2000 + (a - 0x1000) / 0x100, a % 0x100 / 8 + 1)
    else if 0x2000 ≤ a && a < 0x2800 then some (0x3000 + (a - 0x2000) / 0x20, a % 0x20 / 8 + 1)
    else if 0x4000 ≤ a && a < 0x4100 then some (0x5000 + (a - 0x4000) / 8, 1)
    else if 0x8000 ≤ a && a < 0x8100 then some (0xB000, (a - 0x8000) / 8 + 1) else none
  match p with | some (idx, sub) => if subPresent idx sub then some (idx, sub) else none | none => none

/-- The Preus 2 board regulator interface, which is not implemented (R96). -/
def legacyUnimpl (a : Nat) : Bool := decide (0xC000 ≤ a) && decide (a < 0xC800)

/-- Bytes [3:0] and [7:4] of a slot by strobes (R97); none for another pattern. -/
def legacyHalves (strb : Nat) : Option (Bool × Bool) :=
  match strb with | 0x0F => some (true, false) | 0xF0 => some (false, true) | 0xFF => some (true, true) | _ => none

/-- The slot after a write of halves (R97). -/
def halfMerge (old new : Nat) (lo hi : Bool) : Nat :=
  (if lo then new % 2 ^ 32 else old % 2 ^ 32) + (if hi then new / 2 ^ 32 else old / 2 ^ 32) * 2 ^ 32

/-- Bytes of a type. -/
def tyBytes (t : Ty) : Nat := match t with | .u b => b | .s b => b

/-- What every request message is checked for first (R101, R103): 64 in flight, PEN, VER. -/
def State.msgCheck (s : State) (op : Nat) (m : DictMsg) : Option Status :=
  if 64 ≤ s.inFlight then some .busy
  else if m.pen ≠ Config.ianaPen && !(m.pen = 0 && op = 1 && decide (0x1000 ≤ m.idx.toNat) && decide (m.idx.toNat ≤ 0x10FF)) then some .pen
  else if m.ver ≠ 1 then some .version else none

/-- The requester of a message. -/
def askerOf (x : Xport) (m : DictMsg) (off len : Nat) : Asker := 
  ⟨x, m.src.toNat, m.tag.toNat, m.count.toNat, m.idx.toNat, m.sub.toNat, off, len⟩

/-! ### Writes that wait in this HCLK -/

/-- The inbox without the message of a requester. -/
def boxWithout (box : List Inbound) (x : Xport) (m : DictMsg) : List Inbound :=
  match box.find? (fun e => e.x = x && e.src = m.src.toNat && e.tag = m.tag.toNat) with | some e => box.erase e | none => box

/-- The message that a command carries out, with its transport and whether it is a WRITE. -/
def msgOf (c : Instr) : Option (Xport × DictMsg × Bool) :=
  match c with
  | .mctpWrite x m => some (x, m, true)
  | .mctpRead x m | .mctpBlockRead x m | .mctpBlockWrite x m | .mctpActSubmit x m | .mctpCqPop x m | .updChunkWrite x m => some (x, m, false)
  | _ => none

/-- The WRITE messages that wait in a queue and whose turn comes there (R104), with the inbox as it stands before each. -/
def State.msgsIn (s : State) : List Inbound → List Instr → List (Xport × DictMsg)
  | _, [] => []
  | box, c :: r =>
    match msgOf c with
    | some (x, m, w) =>
      if s.xportOn x && s.turnIn box x m then
        (if w && (s.msgCheck 2 m).isNone && lengthOk m (9 * m.count.toNat) then [(x, m)] else []) ++ s.msgsIn (boxWithout box x m) r
      else s.msgsIn box r
    | none => s.msgsIn box r

/-- The WRITE messages that are carried out later in this HCLK. -/
def State.msgsComing (s : State) : List (Xport × DictMsg) := s.msgsIn s.host.inbox s.pending

/-- The sub and the slot of a request of the host target port that nothing stops. -/
def State.htpComing (s : State) (c : Instr) : List (Nat × Nat) :=
  if !s.reqReady then []
  else match c with
  | .dictWrite a d strb _ =>
    (match dictAddr a.toNat with
    | some (idx, sub) => if strb ≠ 0 && idx ≠ 0x9033 && (s.writeStatus idx sub strb.toNat).isNone then [(idx * 256 + sub, d.toNat)] else []
    | none => [])
  | .legacyWrite a d strb _ =>
    (match legacyAddr a.toNat, legacyHalves strb.toNat with
    | some (idx, sub), some (lo, hi) =>
      if s.rd Legacy.legacyEn = 1 && a.toNat % 8 = 0 && !legacyUnimpl a.toNat && !(accOf idx sub = .ro || accOf idx sub = .rc)
          && !(!lo && decide (tyBytes (tyOf (idx * 256 + sub)) ≤ 4)) then
        [(idx * 256 + sub, halfMerge (s.slotWord (idx * 256 + sub)) d.toNat lo hi)] else []
    | _, _ => [])
  | _ => []

/-- The subs and slots of a WRITE whose subs pass the checks of an access. -/
def State.msgComing (s : State) (m : DictMsg) : List (Nat × Nat) :=
  let subs := List.range m.count.toNat
  let idx := m.idx.toNat
  if subs.any (fun k => match s.writeStatus idx (m.sub.toNat + k) (msgStrobe m k) with | some st => st ≠ .ok | none => false) then []
  else (subs.filter (fun k => msgStrobe m k ≠ 0)).map (fun k => (idx * 256 + m.sub.toNat + k, msgSlot m k))

/-- The dictionary writes that still wait in this HCLK over any transport, as sub and slot. -/
def State.writesComing (s : State) : List (Nat × Nat) :=
  s.pending.flatMap (fun c => s.htpComing c) ++ s.msgsComing.flatMap (fun e => s.msgComing e.2)

/-- Whether a write of a sub waits in this HCLK with a value that satisfies a test. -/
def State.writeComes (s : State) (key : Nat) (p : Int → Bool) : Bool :=
  s.writesComing.any (fun e => e.1 = key && p (reduceTo (tyOf key) e.2))

/-- Whether a write of a sub with one value waits in this HCLK. -/
def State.valueComes (s : State) (key : Nat) (v : Int) : Bool := s.writeComes key (fun w => w = v)

end Sys2Proof.Machine
end

