-- ==== Sys2Proof/Machine/Operands.lean ====
section
/-! DEFINITION. The operands: actuators and their ranges (R26), what the rungs contribute and the walk over them (R31), the
V–F interlock (R27, R193), and the words of an actuator descriptor and a completion record (R107, R109). -/

namespace Sys2Proof.Machine

/-- An actuator number (R410): kind 0 set-point, 1 DCU ratio, 2 power-domain state, 3 Brush, 4 phase count; instance. -/
def actOf (kind inst : Nat) : Nat := kind * 4096 + inst
def aVset (n : Nat) : Nat := actOf 0 n
def aRatio (c : Nat) : Nat := actOf 1 c
def aPd (d : Nat) : Nat := actOf 2 d
def aBrush (p : Nat) : Nat := actOf 3 p
def aPhase (n : Nat) : Nat := actOf 4 n

/-- The lowest code of an actuator (R26, R190). -/
def State.minCode (s : State) (a : Nat) : Int :=
  match a / 4096 with
  | 0 => s.rd (Rail.vfloor (a % 4096))
  | 1 => s.rd (Cd.minCode (a % 4096))
  | 2 => 0
  | _ => 1

/-- The number of retired phases of a rail. -/
def State.retired (s : State) (n : Nat) : Nat := ((Config.phasesOf n).filter (fun p => s.rd (Ph.phState p) = 5)).length

/-- The highest code of an actuator (R26). The phase count's is the phases assigned and not retired, at least 1; rung 2 carries
the ceiling at PH_AVAIL (R30, R122). -/
def State.maxCode (s : State) (a : Nat) : Int :=
  match a / 4096 with
  | 0 => s.rd (Rail.vsetMax (a % 4096))
  | 1 => 64
  | 2 => 1
  | 3 => 16
  | _ => max 1 ((Config.phCount (a % 4096) : Int) - s.retired (a % 4096))

/-- The contribution of a rung to an actuator (R31). -/
def State.contrib (s : State) (rung a : Nat) : Contrib := tabGet (fun _ => {}) s.hub.lad (rung * 65536 + a)

/-- Replace the contribution of a rung to an actuator (R32). -/
def State.setContrib (s : State) (rung a : Nat) (c : Contrib) : State :=
  { s with hub := { s.hub with lad := tabPut s.hub.lad (rung * 65536 + a) c } }

/-- Replace the range of a rung. -/
def State.setRange (s : State) (rung a : Nat) (r : Option (Int × Int)) : State :=
  s.setContrib rung a { s.contrib rung a with range := r }

/-- The sub that shows the rung 8 demand of an actuator (R149, R216, R217). -/
def demandSub (a : Nat) : Option Nat :=
  match a / 4096 with
  | 0 => some (Rail.vsetDemand (a % 4096))
  | 1 => some (Cd.ratioDemand (a % 4096))
  | 2 => some (Pd.pdDemand (a % 4096))
  | _ => none

/-- VSET_DEMAND, RATIO_DEMAND and PD_DEMAND read the rung 8 demand, whoever wrote it (R137, R191; log 34). -/
def State.showDemand (s : State) (rung a : Nat) (d : Option Int) : State :=
  if rung = 8 then match d, demandSub a with | some v, some k => s.wr k v | _, _ => s else s

/-- A direct rung 8 demand of the driver replaces a derived one until a phase-ID switch changes that one (R251). -/
def State.noteDirect (s : State) (rung a : Nat) : State :=
  if rung ≠ 8 || s.budget.direct.contains a then s else { s with budget := { s.budget with direct := s.budget.direct ++ [a] } }

/-- Replace the demand of a rung; of rung 8 by the driver. -/
def State.setDemand (s : State) (rung a : Nat) (d : Option Int) : State :=
  ((s.setContrib rung a { s.contrib rung a with demand := d }).showDemand rung a d).noteDirect rung a

/-- A contribution as the resolver counts it: for a ratio, values below MIN_CODE count as MIN_CODE (R191). -/
def State.contribR (s : State) (rung a : Nat) : Contrib :=
  let c := s.contrib rung a
  if a / 4096 = 1 then
    ⟨c.range.map (fun r => (max r.1 (s.minCode a), max r.2 (s.minCode a))), c.demand.map (fun d => max d (s.minCode a))⟩
  else c

/-- The edges of the walk of R31 with the rung that owns each. -/
structure Edges where
  lo : Int
  hi : Int
  loBy : Int
  hiBy : Int
  deriving DecidableEq, Repr

/-- One rung's range in the walk (R31, source_of). -/
def walkStep (e : Edges) (r : Nat) (range : Option (Int × Int)) : Edges :=
  match range with
  | none => e
  | some (rl, rh) =>
    let e1 : Edges := if rl > e.lo then (if rl ≤ e.hi then { e with lo := rl, loBy := r } else { e with lo := e.hi, loBy := e.hiBy }) else e
    if rh < e1.hi then (if rh ≥ e1.lo then { e1 with hi := rh, hiBy := r } else { e1 with hi := e1.lo, hiBy := e1.loBy }) else e1

/-- The upper end of the walk before any rung: the range of R26, of a phase count every phase assigned, so that rung 2 owns the edge that
retirements lower (R30, R122, R146). -/
def State.topCode (s : State) (a : Nat) : Int := if a / 4096 = 4 then max 1 (Config.phCount (a % 4096)) else s.maxCode a

/-- The edges of an actuator under every rung (R31). -/
def State.edges (s : State) (a : Nat) : Edges :=
  [1, 2, 3, 4, 5, 6, 7, 8].foldl (fun e r => walkStep e r (s.contribR r a).range) ⟨s.minCode a, s.topCode a, 0xF, 0xF⟩

/-- The highest rung with a demand, and the demand (R31). -/
def State.topDemand (s : State) (a : Nat) : Option (Nat × Int) :=
  [1, 2, 3, 4, 5, 6, 7, 8].foldr (fun r rest => match (s.contribR r a).demand with | some d => some (r, d) | none => rest) none

/-- The ceiling of a rail's phase count: hi of R31 (R122). -/
def State.phCeil (s : State) (n : Nat) : Int := (s.edges (aPhase n)).hi

/-- The held value of an actuator (R31). -/
def State.held (s : State) (a : Nat) : Int :=
  match a / 4096 with
  | 0 => tabGet (fun n => s.rd (Rail.vsetRes n)) s.hub.goal (a % 4096)
  | 1 => s.rd (Cd.ratioRes (a % 4096))
  | 2 => s.rd (Pd.pdRes (a % 4096))
  | 3 => tabGet (fun _ => 16) s.hub.brush (a % 4096)
  | _ => s.rd (Rail.phFloor (a % 4096))

/-- The target: the highest rung's demand, or the held value (R31). -/
def State.targetOf (s : State) (a : Nat) : Int :=
  match s.topDemand a with | some (_, d) => d | none => s.held a

/-- The resolved value (R31). -/
def State.resolved (s : State) (a : Nat) : Int :=
  let e := s.edges a
  min (max (s.targetOf a) e.lo) e.hi

/-- The source of a resolved value (R31, source_of). -/
def State.sourceOf (s : State) (a : Nat) : Int :=
  let e := s.edges a
  let v := s.resolved a
  let t := s.targetOf a
  if v > t then e.loBy
  else if v < t then e.hiBy
  else if e.lo = e.hi then min e.loBy e.hiBy
  else match s.topDemand a with | some (r, _) => r | none => 0xF

/-! ### V–F interlock (R27, R193) -/

/-- VIL of a rail; before the first PRECHARGE-CHECK it stands at VFLOOR (log 9). -/
def State.vil (s : State) (n : Nat) : Int :=
  match (s.rail n).vil with | some v => v | none => s.rd (Rail.vfloor n)

/-- FMAX_EFF of a domain at a point in a mode: the lower of the written and the fused value (R193). -/
def State.fmaxAt (s : State) (c i m : Nat) : Int :=
  min (getField (s.rdN (Cd.fmaxEff c i)) (16 * m) 16) (getField (s.rdN (Cd.fmaxFused c i)) (16 * m) 16)

/-- f[m] of R193 at a voltage. -/
def State.fmaxMode (s : State) (c m : Nat) (v : Int) : Int :=
  let base := s.rd (Cd.vptBase c)
  let step := s.rd (Cd.vptStep c)
  if v < base then 0
  else
    let i := ((v - base) / step).toNat
    if i ≥ 31 then s.fmaxAt c 31 m
    else s.fmaxAt c i m + ((v - base - i * step) * (s.fmaxAt c (i + 1) m - s.fmaxAt c i m)) / step

/-- The modes of a precision set (R57, R173). -/
def modesOf (set : Nat) : List Nat := (List.range 4).filter (fun m => set.testBit m)

/-- Multiply an fmax by the factors in force, rounded down once (R188, R193, R312). -/
def State.fmaxFactors (s : State) (f : Int) : Int :=
  f * (if s.clk.kSto then 97 else 100) * (1000000 - s.clk.slewPpm) / 100000000

/-- fmax of a domain for a set of modes at a voltage (R174, R193). -/
def State.fmaxOf (s : State) (c set : Nat) (v : Int) : Int :=
  s.fmaxFactors ((modesOf set).foldl (fun a m => min a (s.fmaxMode c m v)) 65535)

/-- The interlock code for a set of modes at a voltage (R27, R193). -/
def State.vfCodeAt (s : State) (c set : Nat) (v : Int) : Int :=
  max (s.rd (Cd.minCode c)) (min 64 (s.fmaxOf c set v * 64 / s.rd (Cd.fTable c)))

/-- The interlock code of a domain now. -/
def State.vfNow (s : State) (c : Nat) : Int := s.vfCodeAt c (s.rdN (Snare.precSet c)) (s.vil (s.rdN (Cd.cdRail c)))

/-! ### Descriptor and completion record (R107, R109) -/

/-- The fields of word A. -/
structure WordA where
  tag : Nat
  sched : Bool
  kind : Nat
  inst : Nat
  value : Nat
  tick : Nat
  low : Nat
  deriving DecidableEq, Repr

/-- Word A taken apart (R107). -/
def wordA (w : Word64) : WordA :=
  let v := w.toNat
  ⟨getField v 55 9, v.testBit 54, getField v 50 4, getField v 42 8, getField v 26 16, getField v 16 10, getField v 0 16⟩

/-- The outcome codes (R28). -/
inductive TxnOutcome where
  | applied | clamped | superseded | late | rejectedRange | rejectedFull | stale | notime
  deriving DecidableEq, Repr

/-- The 4-bit code of an outcome (R28). -/
def TxnOutcome.code : TxnOutcome → Nat
  | .applied => 0 | .clamped => 1 | .superseded => 2 | .late => 3 | .rejectedRange => 4 | .rejectedFull => 5
  | .stale => 6 | .notime => 7

/-- A completion record (R109). -/
def completionRecord (tag outcome source : Nat) (value : Int) (tick beat : Nat) : Word64 :=
  BitVec.ofNat 64 (tag * 2 ^ 55 + outcome * 2 ^ 51 + source * 2 ^ 47 + (value % 65536).toNat * 2 ^ 31 + tick * 2 ^ 21
    + (beat % 2 ^ 20) * 2 + 1)

end Sys2Proof.Machine
end

