-- ==== Sys2Proof/Machine/Fabric.lean ====
section
/-! DEFINITION. The hub fabric (R236, R237): the accesses that wait at levels B to E, the coefficient fetch at level A, and the grant of an
HCLK edge. A command's own effect does not wait for its access (log 45), but for a record of the drain (R412). -/

namespace Sys2Proof.Machine

/-- The longest wait of a level from request to grant (R236). -/
def fabricBound (level : Nat) : Nat := match level with | 0 => 4 | 1 => 12 | 2 => 40 | 3 => 200 | _ => 2000

/-- An access of a requester at a level, 0 (A) to 4 (E): one that comes while another of the requester waits follows it. -/
def State.fabric (s : State) (level who : Nat) : State :=
  let l := s.arb.waiting
  let same := fun (r : FabReq) => r.level = level && r.who = who
  { s with arb := { s.arb with
      waiting := if l.any same then l.map (fun r => if same r then { r with more := r.more ++ [s.hclk] } else r)
        else l ++ [⟨level, who, s.hclk, [], false⟩] } }

/-- Whether a request over a transport is accepted: the host target port (R46, R47), or an MCTP transport that answers. -/
def State.answers (s : State) (x : Xport) : Bool := if x = .htp then s.hostUp else s.xportOn x

/-- A write that is a row of its own, over a transport (R42, R236): nothing where the transport takes no request, else its effect and its
level D access. -/
def State.overPort (s : State) (x : Xport) (f : State → State) : State :=
  if s.answers x then f (s.fabric 3 (if x = .htp then 0 else 1 + xnum x)) else s

/-- A host write that is a row of its own (R42, R236; log 79). -/
def State.hostRow (s : State) (f : State → State) : State := s.overPort .htp f

/-- A host write of a sub, noted for R11; one that an MCTP write of its HCLK had carried out first does nothing more (R92). -/
def State.hostOnce (s : State) (key : Nat) (f : State → State) : State :=
  if s.earlyNow.contains key then s else (f s).noteWrite key

/-- The place of a request in the order of the levels (R237): a promoted one comes after A and B. -/
def FabReq.rank (r : FabReq) : Nat := if r.promoted then 2 else if r.level < 2 then r.level else r.level + 1

/-- The requester of a level that was granted last. -/
def State.lastGrant (s : State) (level : Nat) : Nat := tabGet (fun _ => 0) s.arb.last level

/-- Whether a request goes before another: the higher level, within it round-robin by requester number from the one granted last. -/
def State.fabricBefore (s : State) (a b : FabReq) : Bool :=
  let turn := fun (r : FabReq) => if s.lastGrant r.level < r.who then r.who else r.who + 65536
  decide (a.rank < b.rank) || (a.rank = b.rank && decide (turn a < turn b))

/-- The request that a free edge grants. -/
def State.fabricNext (s : State) : Option FabReq :=
  s.arb.waiting.foldl (fun b r => match b with | none => some r | some x => if s.fabricBefore r x then some r else some x) none

/-- A wait of a level is over (R237, R242): its counters, and ARB_BOUND where it was longer than the level's bound. -/
def State.fabricGranted (s : State) (level wait : Nat) : State :=
  let s1 := (s.bump (Arb.grantsA level)).wr (Arb.waitMaxA level) (max (s.rd (Arb.waitMaxA level)) wait)
  if fabricBound level < wait then (s1.bump Arb.boundExceeded).record 0 0x0104 level wait 0 else s1

/-- How long an access holds the fabric: the drain's 4 HCLK (R412), else 1 to 4 HCLK, which the spec leaves to the access (R236). -/
def State.fabricLen (s : State) (r : FabReq) : Nat :=
  if r.level = 4 ∧ r.who = 1 then 4 else 1 + (s.freeVal 205 % 4).toNat

/-- A request is granted and holds the fabric; the next one of its requester waits since it came. -/
def State.fabricGrant (s : State) (r : FabReq) : State :=
  let len := s.fabricLen r
  let rest := s.arb.waiting.filter (fun x => !(x.level = r.level && x.who = r.who))
  let again := match r.more with | [] => [] | t :: l => [⟨r.level, r.who, t, l, false⟩]
  (({ s with arb := { s.arb with
      waiting := rest ++ again, busyTo := s.hclk + len, last := tabPut s.arb.last r.level r.who,
      engAt := if r.level = 4 then tabPut s.arb.engAt r.who (s.hclk + len) else s.arb.engAt,
      drain := if r.level = 4 ∧ r.who = 1 then some s.hclk else s.arb.drain } }).useFree).fabricGranted r.level (s.hclk - r.since)

/-- The requests that the hub's own engines make, each after its last access has ended: the drain while the record queue holds a record
(R412), the scrub while words of its pass are left (R228). -/
def State.fabricFeed (s : State) : State :=
  let a := s.arb
  let idle := fun (who : Nat) => !a.waiting.any (fun r => r.level = 4 && r.who = who) && decide (tabGet (fun _ => 0) a.engAt who ≤ s.hclk)
  let s1 := if idle 1 && a.drain.isNone && decide (s.shelf.queue ≠ []) then s.fabric 4 1 else s
  if idle 3 && decide (0 < a.scrubLeft) then ({ s1 with arb := { s1.arb with scrubLeft := a.scrubLeft - 1 } }).fabric 4 3 else s1

/-- A level E request that has waited E_PROMOTE_AT is promoted (R237). -/
def State.promoteDue (s : State) : State :=
  forEach (s.arb.waiting.filter (fun r => r.level = 4 && !r.promoted && s.elapsed r.since (s.rdN Arb.ePromoteAt))) (fun r s =>
    ({ s with arb := { s.arb with waiting := s.arb.waiting.map (fun x => if x = r then { x with promoted := true } else x) } }).bump
      Arb.ePromotions) s

/-- The fabric at an HCLK edge (R236, R237): at most one grant, where no access holds it. -/
def State.fabricTick (s : State) : State :=
  let s1 := s.fabricFeed.promoteDue
  if s1.hclk < s1.arb.busyTo then s1
  else match s1.fabricNext with
    | some r => if r.since ≤ s1.hclk then s1.fabricGrant r else s1
    | none => s1

/-- The level A blocking of a fetch (R223, R236): until the access that holds the fabric ends; nothing goes before level A. -/
def State.fetchWait (s : State) : Nat := s.arb.busyTo - s.hclk

/-- The coefficient fetch of a rail's period (R223, R236): two level A accesses of 1 HCLK, at the first free edge. -/
def State.fabricFetch (s : State) : State :=
  ({ s with arb := { s.arb with busyTo := max s.arb.busyTo s.hclk + 2 } }).fabricGranted 0 s.fetchWait |>.bump (Arb.grantsA 0)

end Sys2Proof.Machine
end

