-- ==== Sys2Proof/Machine/Phases.lean ====
section
/-! DEFINITION. The phase list of a rail (R119 to R123), the rotation, and the completion of transactions (R28, R109, R110). -/

namespace Sys2Proof.Machine

/-! ### Phase states (R151) -/

/-- Whether a phase is on its rail's active list: ACTIVE or DERATED. -/
def State.isActive (s : State) (p : Nat) : Bool := s.rd (Ph.phState p) = 2 || s.rd (Ph.phState p) = 3
/-- The active list in ascending order (R119). -/
def State.actList (s : State) (n : Nat) : List Nat := (Config.phasesOf n).filter s.isActive
/-- The STANDBY phases. -/
def State.standbyList (s : State) (n : Nat) : List Nat := (Config.phasesOf n).filter (fun p => s.rd (Ph.phState p) = 1)
/-- PH_AVAIL: neither retired nor excluded (R122). -/
def State.availOf (s : State) (n : Nat) : Nat :=
  ((Config.phasesOf n).filter (fun p => s.rd (Ph.phState p) ≠ 5 && s.rd (Ph.phState p) ≠ 4)).length

/-- Rail states (R149). -/
def State.railState (s : State) (n : Nat) : Int := s.rd (Rail.railState n)
/-- REGULATE or SHED. -/
def State.regulating (s : State) (n : Nat) : Bool := s.railState n = 3 || s.railState n = 4
/-- The on-states: PRECHARGE-CHECK, RAMP, REGULATE, SHED (R145). -/
def State.onState (s : State) (n : Nat) : Bool := s.railState n = 1 || s.railState n = 2 || s.railState n = 3 || s.railState n = 4

/-- REGULATE where the active count equals the ceiling, else SHED (R122). -/
def State.regOrShed (s : State) (n : Nat) : Int := if ((s.actList n).length : Int) = s.phCeil n then 3 else 4

/-- PH_ACTIVE, and REGULATE or SHED, follow the active list and the ceiling (R122). -/
def State.showActive (s : State) (n : Nat) : State :=
  let s1 := s.wr (Rail.phActive n) (s.actList n).length
  when (s1.regulating n) (fun s => s.wr (Rail.railState n) (s.regOrShed n)) s1

/-- The active list after an event, `old` the one before it: rebuilt where it has changed (R120): ptr mod n, count 0. -/
def State.rebuildList (s : State) (n : Nat) (old : List Nat) : State :=
  let len := (s.actList n).length
  let r := s.rail n
  (if s.actList n = old then s else s.setRail n { r with ptr := if len = 0 then 0 else r.ptr % len, count := 0 }).showActive n

/-! ### The modelled current of a phase (R118, R126) -/

/-- A modelled current after a span in HCLK, in 1/256 of 10 mA: it changes at the voltage across the inductor / PH_L. -/
def State.modelAfter (s : State) (p : Nat) (v dv : Int) (floor : Bool) (span : Int) : Int :=
  let w := v + divOpen 3 (10 * dv * (8 * span)) (s.rd (Ph.phL p))
  if floor && w < 0 then 0 else w

/-- The voltage across a phase's inductor: VBUS − VOUT in its on-time, −VOUT outside it. -/
def State.modelDv (s : State) (p : Nat) : Int :=
  let n := Config.phRail p
  if (s.ph p).onTime then s.rd (Rail.vinBus n) - s.rd (Rail.vout n) else -s.rd (Rail.vout n)

/-- Whether the modelled current stays at zero below zero: in diode emulation, and of a phase off the active list; not while the low sides
clamp an over-voltage (R141). -/
def State.modelFloor (s : State) (p : Nat) : Bool :=
  let r := s.rail (Config.phRail p)
  !(s.ph p).onTime && !r.ovClamp && (r.diode || !s.isActive p)

/-- The model at this instant. -/
def State.modelNow (s : State) (p : Nat) : Int :=
  let r := s.ph p
  s.modelAfter p r.model (s.modelDv p) (s.modelFloor p) ((s.hclk : Int) - r.modelAt)

/-- The stretches that reach back to an instant. -/
def recentSegs (t : Nat) : List Seg → List Seg
  | a :: b :: r => if b.start ≤ t then recentSegs t (b :: r) else a :: b :: r
  | l => l

/-- HCLK from a telemetry frame's start edge to its stop bit: 340 ns (R68). -/
def frameHclk : Nat := 272

/-- The model at an instant not more than a frame ago. -/
def State.modelBack (s : State) (p t : Nat) : Int :=
  let r := s.ph p
  if r.modelAt ≤ t then s.modelAfter p r.model (s.modelDv p) (s.modelFloor p) ((t : Int) - r.modelAt)
  else match recentSegs t r.segs with
    | a :: _ => s.modelAfter p a.cur a.dv a.floor (max 0 ((t : Int) - a.start))
    | [] => r.model

/-- Carry the model to this instant; the area below it since the last firing gives the mean of the switching period (R118). -/
def State.syncModel (s : State) (p : Nat) : State :=
  let r := s.ph p
  if r.modelAt = s.hclk then s
  else
    let v := s.modelNow p
    s.setPh p { r with
      model := v, modelAt := s.hclk, area := r.area + (r.model + v) * ((s.hclk : Int) - r.modelAt)
      segs := recentSegs (s.hclk - frameHclk) (r.segs ++ [⟨r.modelAt, r.model, s.modelDv p, s.modelFloor p⟩]) }

/-- The phase with the lowest stage temperature, ties to the lowest number (R123). -/
def State.coolest (s : State) (l : List Nat) : Option Nat :=
  l.foldl (fun b p => match b with | none => some p | some q => if s.rd (Ph.tstg p) < s.rd (Ph.tstg q) then some p else some q) none

/-- The phase with the highest stage temperature, ties to the highest number (R123). -/
def State.hottest (s : State) (l : List Nat) : Option Nat :=
  l.foldl (fun b p => match b with | none => some p | some q => if s.rd (Ph.tstg p) < s.rd (Ph.tstg q) then some q else some p) none

/-- Put one phase on the active list (R123): its trim starts at 0 (R124). -/
def State.activate (s : State) (p : Nat) : State :=
  ((s.syncModel p).wr (Ph.phState p) (if (s.ph p).derated then 3 else 2)).wr (Ph.trim p) 0

/-- Whether a decided retirement of a phase takes effect in this HCLK (R146). -/
def State.retireComes (s : State) (p : Nat) : Bool :=
  (s.ph p).decided.isSome && s.comes (fun i => match i with | .phaseRetire q => q.val = p | _ => false)

/-- Add one STANDBY phase, the coolest (R123); one that retires in this HCLK is passed over (R146). -/
def State.addPhase (s : State) (n : Nat) : State :=
  match s.coolest ((s.standbyList n).filter (fun p => !s.retireComes p)) with
  | some p => (s.activate p).rebuildList n (s.actList n)
  | none => s

/-- Add phases until k are active or none is in STANDBY (R123: all needed phases at once). -/
def State.addUpTo (s : State) (n : Nat) (k : Nat) : State :=
  (List.range (k - (s.actList n).length)).foldl (fun s _ => s.addPhase n) s

/-- A shed phase leaves the list and stands by (R123): EN stays high, PWM is at high impedance. -/
def State.standBy (s : State) (p : Nat) : State :=
  let n := Config.phRail p
  let s1 := s.syncModel p
  ((s1.setPh p { s1.ph p with shedDue := false, pwm := .hiZ, hiZAt := s.hclk }).wr (Ph.phState p) 1).rebuildList n (s.actList n)

/-- The active phases that are not to leave the list. -/
def State.staying (s : State) (n : Nat) : List Nat := (s.actList n).filter (fun p => !(s.ph p).shedDue)

/-- Shed one phase, the hottest active one (R123): it leaves the list at the end of its present on-time. -/
def State.shedPhase (s : State) (n : Nat) : State :=
  match s.hottest (s.staying n) with
  | some p => if (s.ph p).onTime then s.setPh p { s.ph p with shedDue := true } else s.standBy p
  | none => s

/-- Keep the active count between floor and ceiling, and at the ceiling while SHED_EN is 0 (R122, R123). -/
def State.fitPhases (s : State) (n : Nat) : State :=
  if s.railState n = 2 || s.regulating n then
    let want := if s.rd (Rail.shedEn n) = 0 then s.phCeil n else s.rd (Rail.phFloor n)
    s.addUpTo n want.toNat
  else s

/-! ### Completion of transactions (R28, R109, R110) -/

/-- Enter a completion record in its ring; a host-range record of an older epoch is discarded (R110). -/
def State.completeAt (s : State) (t : Txn) (o : TxnOutcome) (source value : Int) (beat tick : Nat) : State :=
  match t.tag with
  | none => s
  | some tag =>
    let r := completionRecord tag o.code source.toNat value tick beat
    if t.host then
      if t.epoch = s.hub.epoch then
        let s1 : State := { s with hub := { s.hub with ringH := s.hub.ringH ++ [r] } }
        when (decide (s1.rdN (Ring.cqThresh 0) ≤ s1.hub.ringH.length)) (fun s => s.cause 0) s1
      else s
    else
      let s1 : State := { s with hub := { s.hub with ringM := s.hub.ringM ++ [r] } }
      if s1.rdN (Ring.cqThresh 1) ≤ s1.hub.ringM.length then { s1 with notify := s1.notify ++ [16] } else s1

/-- Complete at this instant. -/
def State.complete (s : State) (t : Txn) (o : TxnOutcome) (source value : Int) : State :=
  s.completeAt t o source value s.beat s.tick

/-- The source shown for an actuator (1111 to 1114). -/
def State.srcShown (s : State) (a : Nat) : Int :=
  let i := a % 4096
  match a / 4096 with
  | 0 => (s.rdN (SrcRail.srcRail i)) % 16
  | 1 => getField (s.rdN (SrcCd.srcCd (i / 16))) (4 * (i % 16)) 4
  | 2 => getField (s.rdN (SrcPd.srcPd (i / 16))) (4 * (i % 16)) 4
  | 3 => getField (s.rdN (SrcPt.srcPt (i / 16))) (4 * (i % 16)) 4
  | _ => (s.rdN (SrcRail.srcRail i)) / 16

/-- Show the source of an actuator (1111 to 1114). -/
def State.showSrc (s : State) (a : Nat) (v : Int) : State :=
  let i := a % 4096
  match a / 4096 with
  | 0 => s.wr (SrcRail.srcRail i) (putField (s.rdN (SrcRail.srcRail i)) 0 4 v.toNat)
  | 1 => s.wr (SrcCd.srcCd (i / 16)) (putField (s.rdN (SrcCd.srcCd (i / 16))) (4 * (i % 16)) 4 v.toNat)
  | 2 => s.wr (SrcPd.srcPd (i / 16)) (putField (s.rdN (SrcPd.srcPd (i / 16))) (4 * (i % 16)) 4 v.toNat)
  | 3 => s.wr (SrcPt.srcPt (i / 16)) (putField (s.rdN (SrcPt.srcPt (i / 16))) (4 * (i % 16)) 4 v.toNat)
  | _ => s.wr (SrcRail.srcRail i) (putField (s.rdN (SrcRail.srcRail i)) 4 4 v.toNat)

/-- A waiting transaction completes: APPLIED and CLAMPED of a scheduled one carry its instant (R109). -/
def State.completeWaiting (s : State) (w : Waiting) (o : TxnOutcome) (source value : Int) : State :=
  match w.due with
  | some (b, k) => if o = .applied ∨ o = .clamped then s.completeAt w.txn o source value b k else s.complete w.txn o source value
  | none => s.complete w.txn o source value

/-- Complete every waiting transaction that a test picks, as it says, and stop waiting for it. -/
def State.finishWaiting (s : State) (pick : Waiting → Bool) (o : Waiting → TxnOutcome × Int × Int) : State :=
  let l := s.hub.waiting.filter pick
  let s1 : State := { s with hub := { s.hub with waiting := s.hub.waiting.filter (fun w => !pick w) } }
  l.foldl (fun s w => s.completeWaiting w (o w).1 (o w).2.1 (o w).2.2) s1

/-- A later write of the same rung supersedes the waiting transactions of an actuator (R28, R212). -/
def State.supersedeWaiting (s : State) (rung a : Nat) : State :=
  s.finishWaiting (fun w => w.txn.act = a && w.txn.rung = rung) (fun _ => (.superseded, s.srcShown a, s.held a))

end Sys2Proof.Machine
end

