-- ==== Sys2Proof/Machine/Ladder.lean ====
section
/-! DEFINITION. The ladder resolver (R31 to R34), what applying a resolved value does in each part, the satellite ring (R15, R16),
the beat scheduler (R20 to R25) and the course of a transaction (R28, R29). -/

namespace Sys2Proof.Machine

/-! ### Satellite ring (R15, R16) -/

/-- Ring address of a DCU. -/
def satCd (c : Nat) : Nat := c
/-- Ring address of a PD controller. -/
def satPd (d : Nat) : Nat := 64 + d
/-- The items a message carries: 0 ratio, 1 PD state, 2 Snare threshold, 3 precision set, 1000 + p Brush of partition p. -/
def itemBrush (p : Nat) : Nat := 1000 + p

/-- The value last sent to a satellite for an item, with its HCLK. -/
def State.lastSent (s : State) (sat item : Nat) : Option (Int × Nat) :=
  tabGet (fun _ => none) (s.hub.sent.map (fun e => (e.1, some e.2))) (sat * 2048 + item)

/-- Send a value to a satellite on both lanes (R15). -/
def State.sendNow (s : State) (sat item : Nat) (v : Int) : State :=
  { s with
    hub := { s.hub with
      sent := tabPut s.hub.sent (sat * 2048 + item) (v, s.hclk),
      ring := s.hub.ring ++ [⟨sat, item, v, true, true, false⟩] } }

/-- Send a value to a satellite where it differs from the last one sent (R14, R15). -/
def State.sendRing (s : State) (sat item : Nat) (v : Int) : State :=
  if (s.lastSent sat item).map (fun e => e.1) = some v then s else s.sendNow sat item v

/-- Send a value each period (R153): a copy of an earlier one that has not arrived is past the worst-case latency and is lost. -/
def State.sendAgain (s : State) (sat item : Nat) (v : Int) : State :=
  ({ s with hub := { s.hub with ring := s.hub.ring.filter (fun m => !(m.sat = sat && m.item = item && !m.taken)) } }).sendNow sat item v

/-- Whether a satellite hears the hub (R15, R16): it is not isolated, and a lane works. -/
def State.hears (s : State) (sat : Nat) : Bool := !(s.sat sat).isolated && !((s.sat sat).broken0 && (s.sat sat).broken1)

/-- Every copy of an item still on the ring for a satellite is to be discarded: the satellite has its newest value. -/
def State.dropCopies (s : State) (sat item : Nat) : State :=
  { s with hub := { s.hub with ring := s.hub.ring.map (fun m => if m.sat = sat && m.item = item then { m with taken := true } else m) } }

/-- Whether a DCU is isolated: it holds its outputs and takes no request of the hub (R16). -/
def State.cdIso (s : State) (c : Nat) : Bool := (s.sat (satCd c)).isolated

/-! ### Power-domain controller (R207 to R213, R466) -/

/-- Note a stage lowering on the rail of a power domain (R466). -/
def State.noteMove (s : State) (d : Nat) : State :=
  { s with clk := { s.clk with lastMove := tabPut s.clk.lastMove (s.rdN (Pd.pdRail d)) s.hclk } }

/-- Note a stage enable on the rail of a power domain (R209, R466). -/
def State.noteEnable (s : State) (d : Nat) : State :=
  ({ s with clk := { s.clk with lastEnable := tabPut s.clk.lastEnable (s.rdN (Pd.pdRail d)) s.hclk } }).noteMove d

/-- 64 HCLK have passed since the instant a table holds for a rail, if it holds one. -/
def State.spacedIn (s : State) (t : List (Nat × Nat)) (n : Nat) : Bool :=
  match t.find? (fun e => e.1 = n) with | some e => s.elapsed e.2 64 | none => true

/-- At least 64 HCLK since the last stage enable on the rail (R209). -/
def State.spaced (s : State) (d : Nat) : Bool := s.spacedIn s.clk.lastEnable (s.rdN (Pd.pdRail d))

/-- At least 64 HCLK since the last stage enable or lowering on the rail (R466). -/
def State.spacedMove (s : State) (d : Nat) : Bool := s.spacedIn s.clk.lastMove (s.rdN (Pd.pdRail d))

/-- The power-domain transactions that wait for a state complete APPLIED at the entry into it (R212). -/
def State.pdReached (s : State) (d : Nat) (v : Int) : State :=
  s.finishWaiting (fun w => w.txn.act = aPd d && w.txn.value = v) (fun _ => (.applied, s.srcShown (aPd d), v))

/-- STAGE_MIN of a domain in HCLK: ns × 4 / 5, rounded up. -/
def State.stageMin (s : State) (d : Nat) : Nat := (divCeil (s.rd (Pd.stageMin d) * 4) 5).toNat

/-- A finished OFF sequence (R208 step 6): OFF, with RET_VALID where step 1 held retention and no soft stop of the rail ends it. -/
def State.pdOff (s : State) (d : Nat) : State :=
  let r := s.pd d
  let s1 := (s.setPd d { r with step := 0, reversing := false, forStop := false }).wr (Pd.pdState d) 0
  let s2 := when (r.retUsed && r.ret && !(s.rail (s.rdN (Pd.pdRail d))).softStop) (fun s => s.wr (Pd.retValid d) 1) s1
  (s2.wr (Pd.seqLast d) (divOpen 1 (((s.hclk : Int) - r.startedAt) * 5) 4)).pdReached d 0

/-- Lower the highest stage that is enabled (R208, R466). -/
def State.pdLower (s : State) (d : Nat) : State :=
  let r := s.pd d
  let top := if r.psw.testBit 3 then 3 else if r.psw.testBit 2 then 2 else if r.psw.testBit 1 then 1 else 0
  (s.setPd d { r with psw := putBit r.psw top false, stepAt := s.hclk, step := 3 }).noteMove d

/-- Step 0 of the OFF sequence (R208). -/
def State.pdStartOff (s : State) (d : Nat) (forStop : Bool) : State :=
  (s.setPd d { s.pd d with
    step := 0, startedAt := s.hclk, stepAt := s.hclk, iso := true, reversing := false,
    retUsed := s.rd (Pd.retMode d) = 1 && !forStop, forStop := forStop }).wr (Pd.pdState d) 3

/-- The reversal of an ON sequence (R466). -/
def State.pdReverse (s : State) (d : Nat) (forStop : Bool) : State :=
  let r := s.pd d
  (s.setPd d { r with
    step := if r.step6Done then 1 else 2, startedAt := s.hclk, stepAt := s.hclk, iso := true,
    reversing := true, retUsed := r.step6Done && s.rd (Pd.retMode d) = 1 && !forStop,
    ret := if r.step6Done then s.rd (Pd.retMode d) = 1 && !forStop else r.retUsed,
    rstN := if r.step6Done then s.rd (Pd.retMode d) = 1 && !forStop else r.retUsed }).wr (Pd.pdState d) 3

/-- The step of R207 that enables the lowest stage that is off; step 5 where every stage is on. -/
def firstOff (psw : Nat) : Nat :=
  if !psw.testBit 0 then 1 else if !psw.testBit 1 then 2 else if !psw.testBit 2 then 3 else if !psw.testBit 3 then 4 else 5

/-- An OFF sequence turned back to ON (R213, R466): stages re-enabled from the present one, then steps 5 to 7. -/
def State.pdTurnBack (s : State) (d : Nat) : State :=
  let r := s.pd d
  (s.setPd d { r with
    step := firstOff r.psw, startedAt := s.hclk, stepAt := s.hclk, reversing := false,
    step6Done := false, waited := false, retUsed := r.ret }).wr (Pd.pdState d) 1

/-- Whether the 20 µs of a domain's sequence run out in this HCLK (R210): the timeout wins over a new state (R215). -/
def State.timeoutComes (s : State) (d : Nat) : Bool :=
  s.elapsed (s.pd d).startedAt 16000 && s.comes (fun i => match i with | .pdSeqTimeout e _ => e.val = d | _ => false)

/-- The PD controller takes a resolved state (R213). Starting an ON sequence is PD_ON_START's. -/
def State.pdTake (s : State) (d : Nat) (want : Bool) : State :=
  let s1 := s.setPd d { s.pd d with want := want }
  let st := s.rd (Pd.pdState d)
  let n := s.rdN (Pd.pdRail d)
  if (st = 1 || st = 3) && s.timeoutComes d then s1
  else if st = 1 && !want then s1.pdReverse d false
  else if st = 2 && !want && !s.gong.line then s1.pdStartOff d false
  else if st = 3 && want && !s.gong.line && s.onState n && !(s.rail n).softStop then s1.pdTurnBack d
  else s1

/-- A fault of a power domain that fell in this HCLK, by a PSW_ACK bit, is no fault beside its rail's immediate off (R215). -/
def State.unfault (s : State) (d : Nat) : State :=
  if (s.pd d).lostAt = some s.hclk && s.rd (Pd.pdFault d) = 3 then
    (({ s with
      shelf := { s.shelf with
        queue := s.shelf.queue.filter (fun r => !(r.code = 0x0211 && r.p1 = d && r.entered = s.hclk)) } }).wr (Pd.pdState d) 0).wr (Pd.pdFault d) 0
  else s

/-- The PD controllers of a rail at its immediate off or latch (R211). -/
def State.pdRailOff (s : State) (d : Nat) : State :=
  let s0 := s.unfault d
  let s1 := (s0.setPd d { s0.pd d with
    iso := true, rstN := false, ret := false, psw := 0, step := 0, reversing := false,
    step6Done := false, forStop := false }).wr (Pd.retValid d) 0
  if s0.rd (Pd.pdState d) = 4 then s1 else (s1.wr (Pd.pdState d) 0).pdReached d 0

/-- What a soft stop of its rail asks of a power domain (R211): off without retention, an ON sequence reversed. An isolated controller
holds its outputs until it hears the hub again (R16). -/
def State.pdSoftOff (s : State) (d : Nat) : State :=
  if (s.sat (satPd d)).isolated then s
  else
    let t := s.wr (Pd.retValid d) 0
    if s.rd (Pd.pdState d) = 2 then t.pdStartOff d true else if s.rd (Pd.pdState d) = 1 then t.pdReverse d true else t

/-! ### DCU: source switch request (R196, R205) -/

/-- Whether a gate request for a domain reaches its DCU in this HCLK too (R215). -/
def State.gateComes (s : State) (c : Nat) : Bool :=
  s.comes (fun i => match i with
    | .gateCtrlRequest d => s.hostUp && d.val = c
    | .fp1GateRequest d w => d.val = c && w
    | _ => false) || s.valueComes (Cd.gateCtrl c) 1

/-- A switch request that has passed R199, or an automatic one (R200, R202): in RUN the normal path begins; GATED changes
at once with no loss; in the other states, in an isolated DCU (R16), and beside a gate request of the same HCLK (R215), it waits. The
forced path that a request of its own HCLK set (R215) carries that request out. -/
def State.requestSwitch (s : State) (c : Nat) (target : Nat) : State :=
  let s0 := s.wr (Cd.srcSel c) target
  if s.cdIso c || (s.rd (Cd.cdState c) = 0 && s.gateComes c) then s0.setDcu c { s.dcu c with waiting := some target }
  else if (s.dcu c).switchDead.isSome && (s.dcu c).switchTo = some target then s0
  else match s.rd (Cd.cdState c) with
  | 0 => (s0.setDcu c { s.dcu c with switchTo := some target, switchLost := 8, switchDead := none }).wr (Cd.cdState c) 1
  | 3 => ((s0.setDcu c { s.dcu c with altPending := false }).wr (Cd.srcNow c) target).bump (Cd.switches c)
  | _ => s0.setDcu c { s.dcu c with waiting := some target }

/-! ### Applying a resolved value (R14, R27, R31, R33) -/

/-- Send the code of a domain under the interlock, show VF_CODE and the source, and leave ALT where R200 asks. While the Gong line is
asserted the DCU takes no later code (R17). -/
def State.applyRatio (s : State) (c : Nat) (v : Int) : State :=
  let vf := s.vfNow c
  let code := min v vf
  let s1 := ((s.wr (Cd.ratioRes c) v).wr (Cd.vfCode c) vf).showSrc (aRatio c) (if vf < v then 0xE else s.sourceOf (aRatio c))
  let s2 := if code = (s.dcu c).target || s.gong.line then s1
    else (s1.setDcu c { s1.dcu c with target := code, inPlace := false }).sendRing (satCd c) 0 code
  if s.rd (Cd.srcNow c) = 1 && decide (vf * s.rd (Cd.fTable c) < 64 * s.rd (Cd.altFreq c)) && !(s.dcu c).altPending then
    (s2.setDcu c { s2.dcu c with altPending := true, inPlace := false }).requestSwitch c 0
  else s2

/-- The interlock code of a domain is recomputed (R27): VIL, the precision set, FMAX_EFF or F_TABLE changed. -/
def State.refreshVf (s : State) (c : Nat) : State := s.applyRatio c (s.rd (Cd.ratioRes c))

/-- Whether every domain of a rail has its code in place under the present interlock (R27, R200). -/
def State.ratiosInPlace (s : State) (n : Nat) : Bool :=
  (s.cdsOf n).all (fun c => (s.dcu c).inPlace && !(s.dcu c).altPending)

/-- The set-point register takes a value; a rail in REGULATE or SHED waits for the loop engine to take it (R33). The last
step completes the waiting transactions. -/
def State.commitVset (s : State) (n : Nat) (v : Int) : State :=
  let s1 := (s.setRail n { s.rail n with vwait := none, taken := !s.regulating n }).wr (Rail.vsetRes n) v
  if s.held (aVset n) = v then
    let s2 : State := { s1 with hub := { s1.hub with goal := tabDel s1.hub.goal n } }
    s2.finishWaiting (fun w => w.txn.act = aVset n && w.txn.value = v) (fun _ => (.applied, s2.srcShown (aVset n), v))
  else s1

/-- VIL follows a lowering at once (R27), and the interlock codes with it. -/
def State.lowerVil (s : State) (n : Nat) (v : Int) : State :=
  if v < s.vil n then forEach (s.cdsOf n) (fun c s => s.refreshVf c) (s.setRail n { s.rail n with vil := some v }) else s

/-- One step of at most 50 mV toward the resolved set-point (R33). A lowering waits for the ratios (R27). -/
def State.stepVset (s : State) (n : Nat) : State :=
  let g := s.held (aVset n)
  let base := if (s.rail n).taken then s.rd (Rail.vsetRes n) else (s.loop n).target / 16
  let next := clampI (base - 200) (base + 200) g
  let s1 := s.lowerVil n next
  if next < s.rd (Rail.vsetRes n) && !s1.ratiosInPlace n then s1.setRail n { s1.rail n with vwait := some next }
  else s1.commitVset n next

/-- Apply a resolved set-point (R33): at once outside REGULATE and SHED; else at once within 50 mV of the set-point the
loop engine last took, or in steps. Where it changes, VIL follows a lowering at once (R27). -/
def State.applyVset (s : State) (n : Nat) (v : Int) : State :=
  let s0 : State := (({ s with hub := { s.hub with goal := tabPut s.hub.goal n v } }).showSrc (aVset n) (s.sourceOf (aVset n))).setRail n
    { s.rail n with vwait := none }
  let s1 := if v = s.held (aVset n) then s0 else s0.lowerVil n v
  if !s.regulating n then s1.commitVset n v
  else if v = s.rd (Rail.vsetRes n) then s1.commitVset n v |> (fun t => t.setRail n { t.rail n with taken := (s.rail n).taken })
  else if (s.rail n).taken || (decide (((s.loop n).target / 16 - v).natAbs ≤ 200)) then s1.stepVset n
  else s1

/-- Apply a resolved power-domain state (R15, R16, R212): it goes to the controller on both lanes, and the controller takes the first
copy at once, or, isolated or with both lanes broken, at a later RING_MESSAGE. DESIGN CHOICE, log 91: no ring latency is counted where
the controller hears the hub. -/
def State.applyPd (s : State) (d : Nat) (v : Int) : State :=
  let s1 := ((s.wr (Pd.pdRes d) v).showSrc (aPd d) (s.sourceOf (aPd d))).sendRing (satPd d) 1 v
  if s.hears (satPd d) then (s1.dropCopies (satPd d) 1).pdTake d (v = 1) else s1

/-- Apply a resolved Brush code: sent to the DCU of the partition's domain. -/
def State.applyBrush (s : State) (p : Nat) (v : Int) : State :=
  let s1 : State := { s with hub := { s.hub with brush := tabPut s.hub.brush p v } }
  (s1.showSrc (aBrush p) (s.sourceOf (aBrush p))).sendRing (satCd (s.rdN (Part.ptCd p))) (itemBrush p) v

/-- REGULATE and SHED follow the ceiling (R145). -/
def State.regulateOrShed (s : State) (n : Nat) : State :=
  when (s.regulating n) (fun s => s.wr (Rail.railState n) (s.regOrShed n)) s

/-- Apply a resolved phase floor (R122, R123): a floor above the active count adds all needed phases at once. -/
def State.applyPhase (s : State) (n : Nat) (v : Int) : State :=
  (((s.wr (Rail.phFloor n) v).showSrc (aPhase n) (s.sourceOf (aPhase n))).fitPhases n).regulateOrShed n

/-- Evaluate one actuator (R31). -/
def State.resolve (s : State) (a : Nat) : State :=
  let v := s.resolved a
  match a / 4096 with
  | 0 => s.applyVset (a % 4096) v
  | 1 => s.applyRatio (a % 4096) v
  | 2 => s.applyPd (a % 4096) v
  | 3 => s.applyBrush (a % 4096) v
  | _ => s.applyPhase (a % 4096) v

/-- A waiting transaction whose value a higher rung now holds elsewhere completes CLAMPED in that HCLK (R29). -/
def State.clampWaiting (s : State) (a : Nat) : State :=
  s.finishWaiting (fun w => w.txn.act = a && decide (w.txn.value ≠ s.held a)) (fun _ => (.clamped, s.srcShown a, s.held a))

/-- Evaluate an actuator whose contributions changed. -/
def State.reeval (s : State) (a : Nat) : State := (s.resolve a).clampWaiting a

/-- Evaluate a list of actuators whose contributions changed in one HCLK: the ratios first, so that a set-point that falls with them
waits for them (R27). -/
def State.reevalAll (s : State) (l : List Nat) : State :=
  forEach (l.filter (fun a => decide (a / 4096 = 1)) ++ l.filter (fun a => decide (a / 4096 ≠ 1))) (fun a s => s.reeval a) s

/-! ### Course of a transaction (R23, R26, R28, R29) -/

/-- The range and granularity of R26. `stepped`: a driver or operator write of rung 8, bound by the 50 mV step from the present resolved
value, which VSET_RES may still approach in steps (R33). -/
def State.inRange (s : State) (a : Nat) (v : Int) (stepped : Bool) : Bool :=
  if a / 4096 = 0 then
    decide (v % 10 = 0) && decide (s.minCode a ≤ v) && decide (v ≤ s.maxCode a)
      && (!stepped || decide ((v - s.held a).natAbs ≤ 200))
  else decide (s.minCode a ≤ v) && decide (v ≤ s.maxCode a)

/-- An instant in HCLK × 1,024. -/
def instant1024 (beat tick : Nat) : Int := ((beat * 1024 + tick) * 800 : Nat)

/-- Beat time now in HCLK × 1,024. -/
def State.now1024 (s : State) : Int := ((s.beatHclk * 1024 : Nat) : Int)

/-- Whether a firmware contribution passes the tests of R26; the 50 mV step does not bind it. -/
def State.contribOk (s : State) (a : Nat) (range : Option (Int × Int)) (demand : Option Int) : Bool :=
  (match range with | some (lo, hi) => s.inRange a lo false && s.inRange a hi false | none => true)
    && (match demand with | some d => s.inRange a d false | none => true)

/-- Whether an action passes the tests of R26 now: `fw` its contribution where it is the firmware's. -/
def State.passes (s : State) (t : Txn) (fw : Option Contrib) : Bool :=
  match fw with
  | some c => s.contribOk t.act c.range c.demand
  | none => s.inRange t.act t.value (t.rung = 8)

/-- Whether a scheduled action of a rung reaches an actuator in this HCLK (R24): applied in it, or due and not yet applied. -/
def State.beaten (s : State) (rung a : Nat) : Bool :=
  s.hub.schedAt.any (fun e => e.1 = rung * 65536 + a && e.2 = s.hclk)
    || s.hub.sched.any (fun e => e.txn.rung = rung && e.txn.act = a && decide (instant1024 e.beat e.tick ≤ s.now1024) && s.passes e.txn e.fw)

/-- A firmware contribution on the internal path (R26, R106): a range edge or a demand that fails is refused and the
previous contribution stands. -/
def State.firmwareWrite (s : State) (rung a : Nat) (range : Option (Int × Int)) (demand : Option Int) : State :=
  if s.contribOk a range demand then ((s.supersedeWaiting rung a).setContrib rung a ⟨range, demand⟩).showDemand rung a demand else s

/-- An unscheduled firmware contribution: a scheduled action of its rung in the same HCLK wins (R24). It is an access of FP1, or for rung 7
of FP2, at level C of the hub fabric (R236). -/
def State.firmwareNow (s : State) (rung a : Nat) (range : Option (Int × Int)) (demand : Option Int) : State :=
  if s.beaten rung a then s else (s.firmwareWrite rung a range demand).fabric 2 (if rung = 7 then 2 else 1)

/-- The state a power domain holds or is sequencing to. -/
def State.pdHeading (s : State) (d : Nat) : Int := if s.rd (Pd.pdState d) = 1 || s.rd (Pd.pdState d) = 2 then 1 else 0

/-- Whether a test runs on an instance of a block, which is isolated for it (R449): the part of the native test or of a retry that runs the
block, the shutdown-time test (R454), or the analogue engine (R465). -/
def State.underTest (s : State) (b i : Nat) : Bool :=
  (s.start.dirRead && (if b < 2 then !s.start.part1Done else s.start.part1Done && s.start.dcusUp && !s.start.part2Done)
      && (s.rd St.stState = 1 || (s.rd St.stState = 4 && s.bit St.stFailed b)))
    || s.rd Sd.sdCtrl = 1
    || (match s.start.aeRun with | some (k, _, _) => k = b && (s.start.aeInst = 0xFFFF || s.start.aeInst = i) | none => false)

/-- Whether a domain has output edges: not gated, forced, in a switch or held, by a stop or by a test of its DCO (R157, R204, R449). -/
def State.hasEdges (s : State) (c : Nat) : Bool :=
  (s.rd (Cd.cdState c) = 0 || s.rd (Cd.cdState c) = 2 || s.rd (Cd.cdState c) = 5) && !s.bit Hang.stoppedCd c && !s.underTest 2 c

/-- The voltage detectors act from a threshold of 0.30 V (R154). -/
def State.snareLive (s : State) (c : Nat) : Bool := decide (1200 ≤ s.rd (Snare.snThr c))

/-- A detector that a test has on its reference does not see its domain (R449). -/
def State.headOff (s : State) (c inp : Nat) : Bool := decide (inp < 4) && s.underTest 4 (4 * c + inp)

/-- The ceiling that a DCU holds on its ratio from a Snare trip on (R30, R34, R176): the code at its DCO at the trip. -/
def State.rung3Ceil (s : State) (c : Nat) : Option Int :=
  if (s.snare c).rung3 then (s.contrib 3 (aRatio c)).range.map (fun r => r.2)
  else if (s.snare c).edge.isSome then some (s.snare c).tripCode else none

/-- Whether a Snare trip of a domain waits in this HCLK (R176). -/
def State.snareComes (s : State) (c : Nat) : Bool :=
  s.hasEdges c && s.comes (fun i => match i with
    | .snareTrip d g => d.val = c && s.bit (Snare.snMask c) g.inp && (decide (4 ≤ g.inp) || s.snareLive c) && !s.headOff c g.inp
    | _ => false)

/-- The code above which a DCU refuses a ratio that is resolved in this HCLK (R34, R176). -/
def State.refusedAbove (s : State) (c : Nat) : Option Int :=
  match s.rung3Ceil c with | some hi => some hi | none => if s.snareComes c then some (s.rd (Cd.ratioOut c)) else none

/-- The outcome of a transaction after its resolution (R28, R29, R33, R176, R212): none while it waits. -/
def State.verdict (s : State) (t : Txn) (late : Bool) : Option (TxnOutcome × Int × Int) :=
  let a := t.act
  let i := a % 4096
  let v := s.held a
  let src := s.srcShown a
  if late then some (.late, if src = 0xE then s.sourceOf a else src, v)
  else if v ≠ t.value then
    some (.clamped, src, if a / 4096 = 1 then min v (s.rd (Cd.vfCode i)) else if a / 4096 = 2 then s.pdHeading i else v)
  else
    match a / 4096 with
    | 0 => if s.rd (Rail.vsetRes i) = v then some (.applied, src, v) else none
    | 1 => match s.refusedAbove i with
      | some hi => if hi < v then some (.clamped, 3, hi) else if s.rd (Cd.vfCode i) < v then none else some (.applied, src, v)
      | none => if s.rd (Cd.vfCode i) < v then none else some (.applied, src, v)
    | 2 => if s.gong.line && decide (s.pdHeading i ≠ v) then some (.clamped, 1, s.pdHeading i)
           else if s.rd (Pd.pdState i) = 2 * v then some (.applied, src, v) else none
    | _ => some (.applied, src, v)

/-- Carry a transaction out now: range, the demand of its rung, resolution, and its completion or its wait. An unscheduled one
that meets a scheduled action of its rung in the same HCLK is SUPERSEDED (R24). -/
def State.carryOut (s : State) (t : Txn) (late : Bool) (beat tick : Nat) : State :=
  if !s.inRange t.act t.value (t.rung = 8) then s.completeAt t .rejectedRange (s.srcShown t.act) (s.held t.act) beat tick
  else if !late && s.beaten t.rung t.act then s.completeAt t .superseded (s.srcShown t.act) (s.held t.act) beat tick
  else
    let s1 := ((s.supersedeWaiting t.rung t.act).setDemand t.rung t.act (some t.value)).reeval t.act
    match s1.verdict t late with
    | some (o, src, v) => s1.completeAt t o src v beat tick
    | none => { s1 with hub := { s1.hub with waiting := s1.hub.waiting ++ [⟨t, s.hclk, none⟩] } }

/-! ### Beat scheduler (R20 to R25) -/

/-- Whether scheduled submissions complete NOTIME: a member that has not loaded beat time (R25). -/
def State.noTime (s : State) : Bool := s.rdN Node.nodeRole ≠ 0 && s.rd Node.alignState = 0

/-- The shelf of the unit that owns an actuator (R23, R38). -/
def State.ownerSrc (s : State) (a : Nat) : Nat :=
  match a / 4096 with
  | 1 => srcCd (a % 4096)
  | 2 => srcRail (s.rdN (Pd.pdRail (a % 4096)))
  | 3 => srcCd (s.rdN (Part.ptCd (a % 4096)))
  | _ => srcRail (a % 4096)

/-- Lateness in ticks, signed (R23). -/
def State.lateness (s : State) (beat tick : Nat) : Int :=
  ((s.beat * 1024 + s.tick : Nat) : Int) - ((beat * 1024 + tick : Nat) : Int)

/-- The pending action of the same rung, actuator and instant (R24). -/
def Sched.same (t : Txn) (beat tick : Nat) (e : Sched) : Bool :=
  e.txn.rung = t.rung && e.txn.act = t.act && e.beat = beat && e.tick = tick

/-- An action that the scheduler accepts supersedes the earlier one of the same rung, actuator and instant (R24). -/
def State.supersedeSame (s : State) (t : Txn) (beat tick : Nat) : State :=
  let s1 : State := { s with hub := { s.hub with sched := s.hub.sched.filter (fun e => !e.same t beat tick) } }
  forEach (s.hub.sched.filter (fun e => e.same t beat tick))
    (fun e s => s.complete e.txn .superseded (s.srcShown t.act) (s.held t.act)) s1

/-- A LATE action (R23): applied at once, with SCHED_LATE where it passes the tests of R26. DESIGN CHOICE, log 114: R24 does not say whether
a LATE action still is the scheduled action that wins over an unscheduled write of its rung and actuator in its HCLK; in the model it is
not, and a later unscheduled write of that HCLK replaces it. -/
def State.applyLate (s : State) (t : Txn) (beat tick : Nat) (fw : Option Contrib) : State :=
  let s1 := match fw with
    | some c => (s.firmwareWrite t.rung t.act c.range c.demand).reeval t.act
    | none => s.carryOut t true s.beat s.tick
  when (s.passes t fw) (fun s => s.record (s.ownerSrc t.act) 0x0103 (s.lateness beat tick) t.act (t.tag.getD 0x1FF)) s1

/-- A scheduled submission (R21): NOTIME, STALE, LATE, REJECTED_FULL, or a place. -/
def State.schedule (s : State) (t : Txn) (beat tick : Nat) (fw : Option Contrib) : State :=
  let ahead := instant1024 beat tick - s.now1024
  if s.noTime then s.complete t .notime (s.srcShown t.act) (s.held t.act)
  else if ahead < -(1000 * 800 * 1024) then s.complete t .stale (s.srcShown t.act) (s.held t.act)
  else if ahead < 64 * 1024 then (when (s.passes t fw) (fun s => s.supersedeSame t beat tick) s).applyLate t beat tick fw
  else if 1024 ≤ s.hub.sched.length then s.complete t .rejectedFull (s.srcShown t.act) (s.held t.act)
  else
    let s1 := s.supersedeSame t beat tick
    { s1 with
      hub := { s1.hub with
        sched := s1.hub.sched ++ [⟨t, beat, tick, s1.hub.schedOrder, false, fw⟩], schedOrder := s1.hub.schedOrder + 1 } }

/-- A write of rung 8 without a completion record (R98, R212). -/
def State.demandWrite (s : State) (a : Nat) (v : Int) : State :=
  s.carryOut ⟨none, s.hub.epoch, 8, a, v, false⟩ false s.beat s.tick

end Sys2Proof.Machine
end

