-- ==== Sys2Proof/Machine/Rails.lean ====
section
/-! DEFINITION. What a change of a rail's state brings with it: RUN_BEGIN and RUN_END (R448), forced gating and its end (R202, R203),
the immediate off (R140, R211), the latch (R144), rung 2 (R30, R135), retirement (R135), and a failed start (R444). -/

namespace Sys2Proof.Machine

/-- Count a rejected write (R89): index, sub and transport in LAST_REJECT. -/
def State.reject (s : State) (key transport : Nat) : State :=
  let s1 := (s.bump DictSt.rejectCount).wr DictSt.lastReject (key * 256 + transport : Nat)
  { s1 with host := { s1.host with rejected := true } }

/-- Rails in RAMP, REGULATE or SHED. -/
def State.running (s : State) : Bool := railList.any (fun n => s.railState n = 2 || s.regulating n)

/-- The mask of rails in an on-state. -/
def State.onMask (s : State) : Nat := railMask (fun n => s.onState n)

/-! ### Forced gating (R202, R203, R205) -/

/-- Whether GATE_ACK is high at the edge at which a domain with GATE_REQ high is forced in this HCLK (R202): it was sampled high in this
HCLK, or is sampled high in it. -/
def State.ackHigh (s : State) (c : Nat) : Bool :=
  (s.dcu c).ackAt = some s.hclk
    || (s.rd (Cd.cdState c) = 2 && s.comes (fun i => match i with | .gateAck d => d.val = c | _ => false))

/-- Show GATE_CTRL for a domain (R216): a denial stands until the driver asks or withdraws again. -/
def State.showGate (s : State) (c : Nat) : State :=
  let v : Int := if (s.dcu c).drvGate then (if s.rd (Cd.cdState c) = 3 || s.rd (Cd.cdState c) = 4 then 2 else 1)
    else if s.rd (Cd.gateCtrl c) = 3 then 3 else 0
  if v = 2 && s.rd (Cd.gateCtrl c) ≠ 2 then s.cmdDone (Cd.gateCtrl c) 2 else s.wr (Cd.gateCtrl c) v

/-- A forced gate: the domain is FORCED, which is counted and recorded; NEEDS_RESET where GATE_ACK is low at its edge (R202). A domain
already GATED or FORCED has no edge to stop: its NEEDS_RESET is unchanged and no further forced gate is recorded (R205, log 35). A
switch under way completes without output; DESIGN CHOICE, log 94: it counts in SWITCHES, adds nothing to SW_LOST_CYC and leaves SW_STOP_HCLK. -/
def State.forceGate (s : State) (c : Nat) (cause : Nat) : State :=
  let d := s.dcu c
  let st := s.rd (Cd.cdState c)
  let ack := s.ackHigh c
  let s1 := s.setDcu c { d with
    force := d.force ||| (if cause = 1 then 1 else 2), switchTo := none, switchDead := none,
    altPending := d.altPending && d.switchTo.isNone, domRst := false, gateAck := d.gateAck || ack, ackAt := none }
  if (st = 3 && !ack) || st = 4 then (s1.wr (Cd.cdState c) 4).showGate c
  else
    let needs : Int := if ack then 0 else 1
    let s2 := (s1.wr (Cd.cdState c) 4).bump (Cd.gateForces c)
    let s3 := when (!ack) (fun s => s.wr (Cd.needsReset c) 1) s2
    let s4 := match d.switchTo with | some t => (s3.wr (Cd.srcNow c) t).bump (Cd.switches c) | none => s3
    (s4.record (srcCd c) 0x0305 needs cause 0).showGate c

/-- Gong, or a soft stop: the gate is requested first and forced after 4 µs (R202); a switch under way meets Gong with the
output held (R205, R215), and a soft stop's request waits for its end; in RESET the request waits for the 256 HCLK (R205). A stopped domain is
forced at once (R426). An isolated DCU takes a soft stop once it hears the hub again (R16); Gong has its own line (R17). -/
def State.requestForce (s : State) (c : Nat) (cause : Nat) : State :=
  let d := s.dcu c
  let st := s.rd (Cd.cdState c)
  if cause ≠ 1 && s.cdIso c then s.setDcu c { d with softPend := true }
  else
  let s1 := s.setDcu c { d with force := d.force ||| (if cause = 1 then 1 else 2) }
  if st = 3 then s1.wr (Cd.cdState c) 4
  else if s.bit Hang.stoppedCd c && st ≠ 4 then s1.forceGate c (if cause = 1 then 1 else 2)
  else if st = 0 then
    (s1.setDcu c { s1.dcu c with gateReq := true, gateAt := s.hclk, gateAck := false, ackAt := none }).wr (Cd.cdState c) 2
  else if st = 1 && cause = 1 then s1.forceGate c 1
  else s1

/-- Whether anyone asks for the gate of a domain (R201, R443). -/
def DcuInt.gateWanted (d : DcuInt) : Bool := d.drvGate || d.fp1Gate || d.startGate

/-- Open a gate: through RESET where the domain needs one (R203), else to RUN. -/
def State.openGate (s : State) (c : Nat) : State :=
  if s.rd (Cd.needsReset c) = 1 then
    ((s.setDcu c { s.dcu c with domRst := true, resetAt := s.hclk, gateReq := false, gateAck := false }).wr (Cd.cdState c) 5).showGate c
  else ((s.setDcu c { s.dcu c with gateReq := false, gateAck := false }).wr (Cd.cdState c) 0).showGate c

/-- Whether a stop holds a domain (R426). -/
def State.stopHeld (s : State) (c : Nat) : Bool := s.bit Hang.stoppedCd c

/-- A domain in RUN takes what waits for it (R205): a gate request first, else a switch request; an isolated one only what forces it
(R16). -/
def State.serveRun (s : State) (c : Nat) : State :=
  let d := s.dcu c
  if s.rd (Cd.cdState c) ≠ 0 || s.stopHeld c || (s.cdIso c && d.force = 0) then s
  else if d.gateWanted || d.force ≠ 0 then
    (s.setDcu c { d with gateReq := true, gateAt := s.hclk, gateAck := false, ackAt := none }).wr (Cd.cdState c) 2
  else match d.waiting with
    | some t => (s.setDcu c { d with waiting := none }).requestSwitch c t
    | none => s

/-- A domain whose output is held takes a switch request that waits, at once and with no loss (R203, R205). -/
def State.serveHeld (s : State) (c : Nat) : State :=
  match (s.dcu c).waiting with
  | some t => ((s.setDcu c { s.dcu c with waiting := none }).wr (Cd.cdState c) 3).requestSwitch c t
  | none => s

/-- A FORCED domain whose cause has ended and whose DCO is locked leaves FORCED (R189, R203, R205); an isolated one holds its output
(R16). -/
def State.leaveForced (s : State) (c : Nat) : State :=
  let d := s.dcu c
  if s.rd (Cd.cdState c) = 4 && d.force = 0 && s.rd (Cd.dcoLock c) = 1 && !s.cdIso c then
    let s1 := s.serveHeld c
    if s.rd (Cd.needsReset c) = 1 then s1.openGate c
    else if d.gateWanted then ((s1.setDcu c { s1.dcu c with gateReq := true }).wr (Cd.cdState c) 3).showGate c
    else (s1.openGate c).serveRun c
  else s

/-- The cause of forced gating ends when the domain's rail reaches REGULATE or SHED (R203, R288). -/
def State.forcedGateEnd (s : State) (c : Nat) : State := (s.setDcu c { s.dcu c with force := 0, softPend := false }).leaveForced c

/-- Every rail OFF. -/
def State.allOff (s : State) : Bool := railList.all (fun n => s.railState n = 0)

/-- The shutdown-time test starts (R454): it drives the DCOs (R189). -/
def State.sdStart (s : State) : State :=
  if s.rd Sd.sdCtrl = 1 then s
  else
    forEach cdList (fun c s => s.wr (Cd.dcoLock c) 0) (({ s with start := { s.start with sdAt := s.hclk } }).wr Sd.sdCtrl 1)

/-- Outside REGULATE and SHED a rail is not settled (R224). -/
def State.unsettle (s : State) (n : Nat) : State := (s.setLoop n { s.loop n with settleRun := 0 }).wr (Loop.settled n) 0

/-- A rail takes a state (R145): RUN_BEGIN and RUN_END (R448), the end of forced gating at REGULATE or SHED
(R203), and with SD_AUTO the shutdown-time test at the last OFF by RAIL_CTRL (R454). -/
def State.setRailState (s : State) (n : Nat) (st : Int) (why : Nat) : State :=
  let was := s.running
  let reg := s.regulating n
  let up := !reg && (decide (st = 3) || decide (st = 4))
  let s1 := (s.setRail n { s.rail n with enteredAt := s.hclk, upAt := if up then s.hclk else (s.rail n).upAt }).wr (Rail.railState n) st
  let s2 := if !was && s1.running then s1.record 0 0x0906 s1.onMask 0 0
    else if was && !s1.running then s1.record 0 0x0907 why 0 0 else s1
  let s2a := when (reg && !s2.regulating n) (fun s => s.unsettle n) s2
  let s3 := when (!reg && s2a.regulating n && !s.rung1) (fun s => forEach (s.cdsOf n) (fun c s => s.forcedGateEnd c) s) s2a
  when (decide (st = 0) && why = 1 && s3.allOff && s3.rd Sd.sdAuto = 1) (fun s => s.sdStart) s3

/-! ### A failed start (R444) -/

/-- How long the start has been PAUSED, in µs (R446). -/
def State.pauseUs (s : State) : Int := divOpen 147 (s.hclk - s.start.pausedAt : Nat) 800

/-- The start enters HELD with its cause and records START_FAIL, before RUNNING only (R445); a pause that it ends counts (R446). -/
def State.startFail (s0 : State) (cause detail : Nat) : State :=
  let st := s0.rdN Start.startState
  if st = 5 || st = 6 then s0
  else
    let s := if st = 7 then s0.bump Start.pausedUs s0.pauseUs else s0
    let s1 : State := { s with start := { s.start with heldFrom := if st = 7 then s.start.pausedFrom else st } }
    (((s1.wr Start.startState 6).wr Start.failCause cause).wr Start.failDetail detail).record 0 0x0903 cause detail st

/-- The rails of START_ORDER in their order (R443); of a Gong restart, those of its scope, the ones START_ORDER does not name last
(R288, R445). -/
def State.startRails (s : State) : List Nat :=
  let order := ((List.range 16).map (fun k => getField (s.rdN Start.startOrder) (4 * k) 4)).filter (fun n => decide (n < 8))
  if s.start.gongRestart then (order ++ railList.filter (fun n => !order.contains n)).filter (fun n => s.start.scope.testBit n) else order

/-- A rail of START_ORDER that latches during S10 fails the start, cause RAIL (R444). -/
def State.startRailLatch (s : State) (n : Nat) : State :=
  when (s.startRails.contains n && (s.rd Start.startState = 3 || (s.rd Start.startState = 7 && s.start.pausedFrom = 3)))
    (fun s => s.startFail 5 n) s

/-! ### Traces and Upbeat plans at an event -/

/-- An event trigger of a rail's trace (R234): kind 4 with this code; the lowest cause code stands. -/
def State.traceEvent (s : State) (n code : Nat) : State :=
  if s.rd (Trace.trCtrl n) = 1 && s.rdN (Trace.trTrig n) = 0x400 + code then
    let l := s.loop n
    s.setLoop n { l with traceCause := some (min 2 (l.traceCause.getD 2)) }
  else s

/-- Drop every unfired pulse of a rail into PF_DROPPED (R171). -/
def State.dropPulses (s : State) (n : Nat) : State :=
  let k := (s.upbeat.pulses.filter (fun p => p.rail = n)).length
  let s1 : State := { s with upbeat := { s.upbeat with pulses := s.upbeat.pulses.filter (fun p => p.rail ≠ n) } }
  (s1.bump (UbRail.pfDropped n) k).wr (UbRail.pendingPulses n) 0

/-- A rail is suppressed while rung 1, 2 or 4 is active on it or it is neither in REGULATE nor in SHED (R171). -/
def State.suppressed (s : State) (n : Nat) : Bool :=
  s.rung1 || (s.rail n).rung2 || (s.loop n).rung4 || !s.regulating n

/-! ### Rung 2 (R30, R129, R135) -/

/-- The phase ceiling of rung 2: PH_AVAIL where phases are retired or excluded (R30, R122). -/
def State.rung2Phases (s : State) (n : Nat) : State :=
  let av := s.availOf n
  let s1 := (s.wr (Rail.phAvail n) av).setRange 2 (aPhase n) (if av < Config.phCount n then some (1, (max 1 av : Nat)) else none)
  s1.wr (Rail.retireClear n) (s1.retired n)

/-- ILIM_EFF = floor(ILIM_RAIL × (n − k) / n) (R128). -/
def State.ilimEff (s : State) (n : Nat) : State :=
  let tot : Int := Config.phCount n
  s.wr (Rail.ilimEff n) (s.rd (Rail.ilimRail n) * (tot - s.retired n) / tot)

/-- The Brush ceiling PF_BRUSH selects (R135): none, a fixed code, or floor(16 × (n − k) / n), no lower than code 1. -/
def State.pfCeiling (s : State) (n : Nat) : Option (Int × Int) :=
  let pf := s.rd (Rail.pfBrush n)
  if pf = 0 then none
  else if pf = 255 then some (1, max 1 (16 * ((Config.phCount n : Int) - s.retired n) / Config.phCount n))
  else some (1, pf)

/-- Rung 2 becomes active on a rail: Upbeat is suppressed there (R171). -/
def State.activateRung2 (s : State) (n : Nat) : State :=
  (s.setRail n { s.rail n with rung2 := true }).dropPulses n

/-- The burst of a rail ends (R129), 100 µs after its last hit. -/
def State.burstEnd (s : State) (n : Nat) : State :=
  match (s.rail n).burst, (s.rail n).lastHit with
  | some (f, k), some t =>
    if s.elapsed t 80000 then (s.setRail n { s.rail n with burst := none }).record (srcRail n) 0x0203 f k 1 else s
  | _, _ => s

/-- A limit hit of a rail (R129): the count, the burst, a new one where the rail has had none for 100 µs, and rung 2. `first`: the phase, or
0xFF for a rail-limit inhibit. -/
def State.limitHit (s : State) (n first : Nat) : State :=
  let s0 := s.burstEnd n
  let r := s0.rail n
  let s1 := s0.bump (Rail.ilimHits n)
  match r.burst with
  | some (f, k) => (s1.setRail n { r with burst := some (f, k + 1), lastHit := some s.hclk }).activateRung2 n
  | none => ((s1.setRail n { r with burst := some (first, 1), lastHit := some s.hclk }).activateRung2 n).record (srcRail n) 0x0203 first 0 0

/-! ### Immediate off and latch (R140, R144) -/

/-- Every PWM of a rail at high impedance; its phases OFF but for the retired ones; EN falls 1 µs later (R140, R151). -/
def State.phasesOff (s : State) (n : Nat) : State :=
  forEach (Config.phasesOf n) (fun p s =>
    let r := s.ph p
    let s1 := s.setPh p { r with
      pwm := .hiZ, hiZAt := if r.pwm = .hiZ then r.hiZAt else s.hclk, onTime := false, zeroArmed := false,
      checks := [], excludedAt := none, limHere := false, shedDue := false }
    if s.rd (Ph.phState p) = 5 then s1 else s1.wr (Ph.phState p) 0) s

/-- The loop engine idles (R220): VREF_LOOP 0, every state and the transfer term 0, LOOP_STATE OFF. -/
def State.loopIdle (s : State) (n : Nat) : State :=
  let l := s.loop n
  (((((s.setLoop n { l with
    st1 := {}, st2 := {}, st3 := {}, d := 0, corr := 0, vref := 0, target := 0, hold := false, holdPeriods := 0,
    settleRun := 0, feRunning := false, feDue := false, run := 0 }).wr (Loop.loopState n) 0).wr (Loop.vrefLoop n) 0).wr
    (Loop.target n) 0).wr (Loop.corr n) 0).wr (Loop.xferNow n) 0 |>.wr (Loop.settled n) 0 |>.wr (Loop.feTimer n) 0
    |>.wr (Loop.holdSince n) 0

/-- The sense pairs in use (R149): SNS_MASK as the last PRECHARGE-CHECK took it. -/
def State.snsTaken (s : State) (n : Nat) : Int := (s.rail n).sns.getD (dictDefault (Rail.snsMask n))

/-- What leaving the on-states does: phases, loop, trigger, pending steps (R33), the dropped sense pairs return (R143); a soft stop
in progress ends. -/
def State.railDown (s : State) (n : Nat) (st : Int) (why : Nat) : State :=
  let r := s.rail n
  let s1 := ((s.phasesOff n).loopIdle n).setRail n { r with
    trigger := false, inhibit := false, softStop := false, diode := false, ovClamp := false, sampling := false, taken := true,
    vwait := none, shedSince := none, okRun := 0, uvSince := none, ovSince := none, count := 0, ptr := 0 }
  let s2 := ((s1.wr (Rail.phActive n) 0).setRailState n st why).dropPulses n
  let s3 := s2.commitVset n (s2.held (aVset n))
  let s4 := (s3.rung2Phases n).reeval (aPhase n) |> when (st = 0) (fun s => s.wr (Rail.snsWorking n) (s.snsTaken n))
  when (s.rd (Rail.railCtrl n) = 2) (fun s => s.cmdDone (Rail.railCtrl n) 1) s4

/-- The immediate off (R140): to OFF or FAULT-LATCH. Cause: 1 a RAIL_CTRL command, 2 the rails-off action of rung 1, 3 a
latch. The rail's power domains and clock domains follow in the same HCLK (R202, R211). -/
def State.immediateOff (s : State) (n : Nat) (cause : Nat) (st : Int) : State :=
  let s1 := (s.railDown n st cause).record (srcRail n) 0x0207 1 cause 0
  let s2 := forEach (s.pdsOf n) (fun d s => s.pdRailOff d) s1
  forEach (s.cdsOf n) (fun c s => s.forceGate c 3) s2

/-- Entry into FAULT-LATCH (R144): the immediate off, FAULT_CAUSE, LATCH_TIME, RAIL_LATCH, cause 5, rung 2 for 1 s. -/
def State.latch (s : State) (n : Nat) (causes : Nat) : State :=
  let vout := s.rd (Rail.vout n)
  let iout := s.rd (Rail.iout n)
  let s1 := (s.immediateOff n 3 5).wr (Rail.faultCause n) (s.rdN (Rail.faultCause n) ||| causes : Nat)
  let s2 := (s1.wr (Rail.latchTime n) s.beat).record (srcRail n) 0x0202 (s1.rd (Rail.faultCause n)) vout iout
  let s3 := (s2.setRail n { s2.rail n with latchedAt := some s.hclk }).activateRung2 n
  ((s3.cause 5).traceEvent n 5).startRailLatch n

/-- Current at limit (R139): an inhibit or a hit within the last 1 µs. -/
def State.atLimit (s : State) (n : Nat) : Bool :=
  let r := s.rail n
  r.inhibit || (match r.lastInhibit with | some t => decide (s.hclk ≤ t + 800) | none => false)
    || (match r.lastHit with | some t => decide (s.hclk ≤ t + 800) | none => false)

/-- SHORT_VOUT of R139: from 10 % of T_SOFTSTART in RAMP, VOUT below 50 mV with current at limit. -/
def State.shortVout (s : State) (n : Nat) : Bool :=
  s.railState n = 2 && !(s.rail n).softStop && s.elapsed (s.rail n).enteredAt (800 * (s.rail n).tRamp)
    && decide (s.rd (Rail.vout n) < 200) && s.atLimit n

/-- RAMP_TIMEOUT of R139: RAMP not left after 2 × T_SOFTSTART + 1 ms. -/
def State.rampLate (s : State) (n : Nat) : Bool :=
  s.railState n = 2 && !(s.rail n).softStop && s.elapsed (s.rail n).enteredAt (16000 * (s.rail n).tRamp + 800000)

/-- The conditions of R139 that stand in this HCLK, as cause bits: one latch takes all of them (R146). -/
def State.rampCauses (s : State) (n : Nat) : Nat := (if s.shortVout n then 1 else 0) + (if s.rampLate n then 256 else 0)

/-- Whether a phase's current, in 1/256 of 10 mA, exceeds its effective ILIM_PH (R127): ILIM_PH as the on-time took it, 75 % of it for a
DERATED phase. -/
def State.overIlim (s : State) (p : Nat) (cur : Int) : Bool :=
  decide ((if s.rd (Ph.phState p) = 3 then 192 else 256) * (s.ph p).ilim < cur)

/-- The current the cycle-by-cycle limit compares (R126): IMON of a type A phase, the model of a type D phase. -/
def State.limitCurrent (s : State) (p : Nat) (imon : Int) : Int := if s.rd (Ph.phType p) = 0 then 256 * imon else s.modelNow p

/-- The over-voltage limits (R141): max(resolved set-point, VREF_LOOP) + OV_MARGIN, and VSET_MAX + OV_MARGIN. -/
def State.overVoltage (s : State) (n : Nat) (v : Int) : Bool :=
  decide (max (s.rd (Rail.vsetRes n)) (s.rd (Loop.vrefLoop n)) + s.rd (Rail.ovMargin n) < v)
    || decide (s.rd (Rail.vsetMax n) + s.rd (Rail.ovMargin n) < v)

/-- Whether an over-voltage has stood for 80 HCLK without a break (R141). -/
def State.ovFault (s : State) (n : Nat) (v : Int) : Bool :=
  s.onState n && s.overVoltage n v && (match (s.rail n).ovSince with | some t => s.elapsed t 80 | none => false)

/-- A cycle-by-cycle hit that ends the sixteenth firing in a row in RAMP (R139). -/
def State.shortIlim (s : State) (p : Nat) (imon : Int) : Bool :=
  let n := Config.phRail p
  let r := s.ph p
  s.railState n = 2 && !(s.rail n).softStop && r.onTime && decide (16 ≤ r.limRun + 1) && s.overIlim p (s.limitCurrent p imon)

/-- Over-voltage and SHORT_ILIM that wait in this HCLK for a rail in RAMP (R146). -/
def State.rampComes (s : State) (n : Nat) : Nat :=
  if s.railState n ≠ 2 || (s.rail n).softStop then 0
  else s.pending.foldl (fun m i => m ||| (match i with
    | .overVoltage k v => if k.val = n && s.ovFault n v.toNat then 4 else 0
    | .cycleLimitHit p => if Config.phRail p.phase = n && s.shortIlim p.phase p.imon.toInt then 2 else 0
    | _ => 0)) 0

/-- Latch a rail in an on-state. -/
def State.latchOn (s : State) (n causes : Nat) : State :=
  if s.onState n then s.latch n (causes ||| s.rampCauses n ||| s.rampComes n) else s

/-- PH_AVAIL below PH_MIN in an on-state latches PH_MIN (R135, R145). -/
def State.checkPhMin (s : State) (n : Nat) : State :=
  when (decide (s.rd (Rail.phAvail n) < s.rd (Rail.phMin n))) (fun s => s.latchOn n 16) s

/-! ### Retirement (R130, R135) -/

/-- Whether a retirement of a phase has been decided by now (R130). -/
def State.retireDue (s : State) (p : Nat) : Bool := (s.ph p).decided.isSome && decide ((s.ph p).decidedAt ≤ s.hclk)

/-- A retirement is decided at an instant (R130), unless one is decided no later; it takes effect within 2 µs of it. -/
def State.decideRetireAt (s : State) (p cause at_ : Nat) : State :=
  if s.rd (Ph.phState p) = 5 || ((s.ph p).decided.isSome && decide ((s.ph p).decidedAt ≤ at_)) then s
  else s.setPh p { s.ph p with decided := some cause, decidedAt := at_ }

/-- A retirement is decided now. -/
def State.decideRetire (s : State) (p cause : Nat) : State := s.decideRetireAt p cause s.hclk

/-- A retirement takes effect (R135); that of a phase that was to be shed restarts the shed dwell (R146). -/
def State.retirePhase (s : State) (p cause : Nat) : State :=
  let n := Config.phRail p
  let r := s.ph p
  let s1 := s.setPh p { r with
    pwm := .hiZ, hiZAt := s.hclk, onTime := false, decided := none, excludedAt := none, zeroArmed := false, checks := [],
    limHere := false, shedDue := false, warnRun := 0, coolRun := 0, shutRun := 0 }
  let s2 := ((s1.wr (Ph.phState p) 5).wr (Ph.retireCause p) cause).wr (Ph.retireTime p) s.beat
  let s3 := ((s2.rung2Phases n).ilimEff n).rebuildList n (s.actList n)
  let s4 := (s3.setRail n { s3.rail n with retiredAt := some s.hclk, shedSince := if r.shedDue then none else (s3.rail n).shedSince }).activateRung2 n
  let s5 := forEach (s4.ptsOf n) (fun q s => (s.setRange 2 (aBrush q) (s.pfCeiling n)).reeval (aBrush q)) (s4.reeval (aPhase n))
  let s6 := ((s5.record (srcRail n) 0x0201 p cause (s.rd (Rail.iout n))).cause 5).traceEvent n 6
  s6.checkPhMin n

end Sys2Proof.Machine
end

