-- ==== Sys2Proof/Machine/Hub.lean ====
section
/-! DEFINITION. What a satellite takes, the commands of the beat scheduler (R22) and the V–F interlock (R27, R29). -/

namespace Sys2Proof.Machine

/-! ### What a DCU takes -/

/-- A DCU takes a ratio code (R17, R34, R192): one above its own rung 3 ceiling is refused with source 3. While the Gong line is asserted
the hub sends no code, and one sent before the trip is the code resolved at it, to which the step completes. -/
def State.dcuTake (s : State) (c : Nat) (code : Int) : State :=
  match s.rung3Ceil c with
  | some hi => if hi < code then s.showSrc (aRatio c) 3 else s.wr (Cd.ratioOut c) code
  | none => s.wr (Cd.ratioOut c) code

/-- The Brush code on ISSUE_DUTY_PTnnn: 1 while the DCU is in reset or the Gong line is asserted (R17, R61), else the last
code the DCU took, 16 by default. -/
def State.dutyOut (s : State) (p : Nat) : Int :=
  if s.gong.line || !s.start.dcusUp then 1
  else tabGet (fun _ => 16) (s.dcu (s.rdN (Part.ptCd p))).duty p

/-- A domain takes its threshold (R153); below 0.30 V its voltage detectors are held released (R154). -/
def State.thrTake (s : State) (c : Nat) (v : Int) : State :=
  when (decide (v < 1200)) (fun s => s.wr (Snare.snTripped c) (s.rdN (Snare.snTripped c) / 16 * 16 : Nat)) (s.wr (Snare.snThr c) v)

/-- A value reaches a satellite (R15). -/
def State.ringDeliver (s : State) (sat item : Nat) (v : Int) : State :=
  if sat < 64 then
    match item with
    | 0 => s.dcuTake sat v
    | 2 => s.thrTake sat v
    | _ => s.setDcu sat { s.dcu sat with duty := tabPut (s.dcu sat).duty (item - 1000) v }
  else s.pdTake (sat - 64) (v = 1)

/-! ### Beat scheduler (R22) -/

/-- SCHED_DELIVER (R22, R236): the earliest action not yet delivered, at least 64 HCLK before its instant, goes to its part. -/
def execSchedDeliver (s : State) : Host.Outcome State Fault Refusal :=
  let first := (s.hub.sched.filter (fun e => !e.delivered && decide (s.now1024 + 64 * 1024 ≤ instant1024 e.beat e.tick))).foldl (fun b e => match b with
    | none => some e
    | some x => if instant1024 e.beat e.tick < instant1024 x.beat x.tick then some e else some x) (none : Option Sched)
  done (match first with
    | some e =>
      ({ s with
        hub := { s.hub with
          sched := s.hub.sched.map (fun (x : Sched) => if x.order = e.order then { x with delivered := true } else x) } }).fabric 1 0
    | none => s)

/-- One due action passes the ladder (R20, R26): its contribution, noted for R24, or nothing where it fails the tests. -/
def State.schedContribute (s : State) (e : Sched) : State :=
  if s.passes e.txn e.fw then
    let s1 : State := { s with hub := { s.hub with schedAt := tabPut s.hub.schedAt (e.txn.rung * 65536 + e.txn.act) s.hclk } }
    match e.fw with
    | some c => s1.firmwareWrite e.txn.rung e.txn.act c.range c.demand
    | none => (s1.supersedeWaiting e.txn.rung e.txn.act).setDemand e.txn.rung e.txn.act (some e.txn.value)
  else s

/-- One due action completes at its instant (R28, R29). -/
def State.schedComplete (s : State) (ok : Bool) (e : Sched) : State :=
  if !ok then s.complete e.txn .rejectedRange (s.srcShown e.txn.act) (s.held e.txn.act)
  else match s.verdict e.txn false with
    | some (o, src, v) => s.completeAt e.txn o src v e.beat e.tick
    | none => { s with hub := { s.hub with waiting := s.hub.waiting ++ [⟨e.txn, s.hclk, some (e.beat, e.tick)⟩] } }

/-- The caps and HW_AT_OP0 that an allocation hands to the limiters (R262, R264). -/
def State.showCaps (s : State) (a : AllocShow) : State :=
  (forEach a.cap (fun e s => s.wr (Budget.hwCapRail e.1) e.2) s).wr Budget.hwAtOp0 a.op0

/-- What FP1 shows of an allocation (R261), with its predicted die power (R260). -/
def State.showGrants (s : State) (a : AllocShow) : State :=
  let put := fun (key : Nat → Nat) (l : List (Nat × Int)) (s : State) => forEach l (fun e s => s.wr (key e.1) e.2) s
  let s1 := put Part.brushCeil a.brush (put Part.grantMw a.grant (put Part.floorMw a.floor (put Part.wantMw a.want s)))
  { s1.wr Budget.shortfallMw a.short with budget := { s1.budget with predicted := some a.predicted } }

/-- The derived demands that stand from a phase-ID switch on: one that the switch changes ends a direct write of its actuator (R251). -/
def State.switchDerived (s : State) (new : List (Nat × Int)) : State :=
  let changed := fun (a : Nat) => decide ((s.budget.derived.find? (fun e => e.1 = a)).map (fun e => e.2) ≠
    (new.find? (fun e => e.1 = a)).map (fun e => e.2))
  { s with budget := { s.budget with derived := new, direct := s.budget.direct.filter (fun a => !changed a) } }

/-- A planned switch takes its place in a list in the order of the instants. -/
def Plan.insert (x : Plan) : List Plan → List Plan
  | [] => [x]
  | y :: l => if instant1024 x.beat x.tick ≤ instant1024 y.beat y.tick then x :: y :: l else y :: x.insert l

/-- Planned switches in the order of their instants, those of one instant in the order of the list. -/
def byInstant (l : List Plan) : List Plan := l.foldr (fun x t => x.insert t) []

/-- PID_NEXT and NEXT_AT of a partition (R270): the earliest switch still planned for it; none clears PID_NEXT. -/
def State.showNext (s : State) (p : Nat) : State :=
  let first := s.budget.fw.plans.foldl (fun b x =>
    if !x.pts.contains p then b
    else match b with
      | none => some x
      | some y => if instant1024 x.beat x.tick < instant1024 y.beat y.tick then some x else some y) (none : Option Plan)
  match first with
  | some x => (s.wr (Part.pidNext p) x.pid).wr (Part.nextAt p) x.beat
  | none => s.wr (Part.pidNext p) 0x100

/-- A submitted phase-ID switch at its instant (R252, R266): the limiters' caps follow it, and FP1, where it is up, sets PID_NOW and shows its
allocation; while FP1 restarts or is down no switch is made. -/
def State.planDue (s : State) (x : Plan) : State :=
  let s1 := s.showCaps x.alloc
  if s.rd (Fp.fpState 1) = 2 then
    forEach x.pts (fun p s => (s.wr (Part.pidNow p) x.pid).showNext p) ((s1.showGrants x.alloc).switchDerived x.derived)
  else s1

/-- The submitted phase-ID switches whose instant is reached, in the order of their instants; a halted FP1 makes them when it goes on (R426). -/
def State.plansDue (s : State) : State :=
  let due := fun (x : Plan) => x.submitted && decide (instant1024 x.beat x.tick ≤ s.now1024)
  let f := s.budget.fw
  let l := byInstant (f.plans.filter due)
  if (s.fp 1).halted && s.rd (Fp.fpState 1) = 2 then forEach l (fun x s => s.showCaps x.alloc) s
  else
    forEach l (fun x s => s.planDue x)
      { s with budget := { s.budget with fw := { f with plans := f.plans.filter (fun x => !due x) } } }

/-- The value of an item that is still on the ring for a satellite, the newest. -/
def State.onRing (s : State) (sat item : Nat) : Option Int :=
  s.hub.ring.foldl (fun b m => if m.sat = sat && m.item = item && !m.taken then some m.value else b) none

/-- A satellite applies a value that was delivered to it before its instant (R22): an isolated one holds its outputs (R16). -/
def State.takeNow (s : State) (sat item : Nat) : State :=
  if (s.sat sat).isolated then s
  else match s.onRing sat item with
    | some v => (s.dropCopies sat item).ringDeliver sat item v
    | none => s

/-- The satellite and the item of an actuator that a satellite drives. -/
def State.satItem (s : State) (a : Nat) : Option (Nat × Nat) :=
  match a / 4096 with
  | 1 => some (satCd (a % 4096), 0)
  | 3 => some (satCd (s.rdN (Part.ptCd (a % 4096))), itemBrush (a % 4096))
  | _ => none

/-- The part that drives an actuator applies the action delivered to it (R22). -/
def State.applyDelivered (s : State) (e : Sched) : State :=
  match s.satItem e.txn.act with
  | some (sat, item) => when e.delivered (fun s => s.takeNow sat item) s
  | none => s

/-- What rung 1 holds of an actuator at a trip (R30, R286): Brush at code 1, the others at their resolved values; the phase count is free. -/
def State.freezeAct (s : State) (a : Nat) : State :=
  match a / 4096 with
  | 3 => s.setRange 1 a (some (1, 1))
  | 4 => s
  | _ => s.setRange 1 a (some (s.held a, s.held a))

/-- A trip that waits in this HCLK binds the due actions of it (R292). -/
def State.tripFirst (s : State) (acts : List Nat) : State :=
  if s.tripComes then forEach acts (fun a s => s.freezeAct a) s else s

/-- SCHED_APPLY (R20, R22, R26): every action whose instant is reached passes the ladder together (R31); a part applies the value
delivered to it. DESIGN CHOICE, log 108: of two due actions of one rung and actuator with different instants in one HCLK the one accepted
later sets the demand, and the other completes on the resolution that results. -/
def State.schedApply (s : State) : State :=
  let due := s.hub.sched.filter (fun e => decide (instant1024 e.beat e.tick ≤ s.now1024))
  let ok := due.map (fun e => e.fw.isSome || s.inRange e.txn.act e.txn.value (e.txn.rung = 8))
  let s1 : State := { s with hub := { s.hub with sched := s.hub.sched.filter (fun e => !decide (instant1024 e.beat e.tick ≤ s.now1024)) } }
  let acts := (due.map (fun e => e.txn.act)).eraseDups
  let s2 := (forEach due (fun e s => s.schedContribute e) (s1.tripFirst acts)).reevalAll acts
  let s3 := forEach due (fun e s => s.applyDelivered e) s2
  (forEach (due.zip ok) (fun e s => s.schedComplete e.2 e.1) s3).plansDue

/-- SCHED_APPLY. -/
def execSchedApply (s : State) : Host.Outcome State Fault Refusal := done s.schedApply

/-! ### Interlock (R27, R29) -/

/-- INTERLOCK_CLAMP_TIMEOUT (R29): 20 µs bound only by the interlock: CLAMPED, source 0xE; the demand stands. -/
def execInterlockClampTimeout (tag : Fin 512) (s : State) : Host.Outcome State Fault Refusal :=
  done (s.finishWaiting
    (fun w => w.txn.tag = some tag.val && w.txn.act / 4096 = 1 && s.elapsed w.since 16000)
    (fun w => (.clamped, 0xE, min w.txn.value (s.rd (Cd.vfCode (w.txn.act % 4096))))))

/-- A DCU reports its ratio in place (R27, R29): transactions whose code is reached complete, and a set-point that waits for
the rail's ratios moves. -/
def State.ratioInPlace (s : State) (c : Nat) : State :=
  let d := s.dcu c
  if d.target ≠ s.rd (Cd.ratioOut c) || d.altPending then s
  else
    let n := s.rdN (Cd.cdRail c)
    let s1 := (s.setDcu c { d with inPlace := true }).finishWaiting (fun w => w.txn.act = aRatio c && w.txn.value = d.target)
      (fun w => (.applied, s.sourceOf (aRatio c), w.txn.value))
    match (s1.rail n).vwait with
    | some v => if s1.ratiosInPlace n then s1.commitVset n v else s1
    | none => s1

/-- RATIO_IN_PLACE. -/
def execRatioInPlace (c : Fin 64) (s : State) : Host.Outcome State Fault Refusal := done (s.ratioInPlace c)

end Sys2Proof.Machine
end

