-- ==== Sys2Proof/Machine/Clock.lean ====
section
/-! DEFINITION. Clock domains and power domains (spec/06): the table frequency, the source switch, the gate, the ON and OFF
sequences, and the loss and return of XCLK. -/

namespace Sys2Proof.Machine

/-! ### Gate and switch (R195 to R205) -/

/-- A domain enters RUN; one whose reset is still held goes on in RESET (R203). -/
def State.enterRun (s : State) (c : Nat) : State :=
  if (s.dcu c).domRst then s.wr (Cd.cdState c) 5 else (s.wr (Cd.cdState c) 0).serveRun c

/-- Whether a write of F_TABLE reaches a domain in this HCLK: its gate does not release before the relock (R215). -/
def State.fTableComes (s : State) (c : Nat) : Bool :=
  (s.hostUp && s.comes (fun i => match i with | .fTableWrite d _ => d.val = c | _ => false)) || s.writeComes (Cd.fTable c) (fun _ => true)

/-- A gated domain takes a switch that waits, and with no request, no forcing cause and a locked DCO opens its gate (R201, R205); a
FORCED one leaves it. An isolated one holds its output (R16). -/
def State.gateReview (s : State) (c : Nat) : State :=
  let d := s.dcu c
  if s.rd (Cd.cdState c) = 3 then
    if s.cdIso c then s
    else
      let s1 := s.serveHeld c
      if !d.gateWanted && d.force = 0 && s.rd (Cd.dcoLock c) = 1 && !s.fTableComes c then (s1.openGate c).serveRun c else s1
  else (s.leaveForced c).serveRun c

/-- The gate is closed with GATE_ACK high (R201, R205): a forcing cause that stands makes it FORCED; a waiting switch is
applied with no loss (R215). -/
def State.gateClosed (s : State) (c : Nat) : State :=
  let d := s.dcu c
  let s1 := (s.setDcu c { d with gateAck := true, ackAt := some s.hclk }).wr (Cd.cdState c) 3
  let s2 := if s.cdIso c then s1 else s1.serveHeld c
  (when (d.force ≠ 0) (fun s => s.wr (Cd.cdState c) 4) s2).showGate c

/-- GATE_ACK (R63, R201). -/
def execGateAck (c : Fin 64) (s : State) : Host.Outcome State Fault Refusal :=
  done (if s.rd (Cd.cdState c) = 2 then s.gateClosed c else s)

/-- GATE_CTRL_REQUEST (R201). -/
def State.gateRequest (s : State) (c : Nat) : State :=
  ((s.setDcu c { s.dcu c with drvGate := true }).serveRun c).showGate c

/-- The withdrawal of a request (R201, R205): with none left, GATE_REQ falls or the gate opens; an isolated DCU holds both (R16). -/
def State.gateReleased (s : State) (c : Nat) : State :=
  let d := s.dcu c
  if s.cdIso c then s
  else if s.rd (Cd.cdState c) = 2 && !d.gateWanted && d.force = 0 then
    (s.setDcu c { d with gateReq := false, gateAck := false }).enterRun c
  else s.gateReview c

/-- GATE_CTRL_WITHDRAW (R201). -/
def State.gateWithdraw (s : State) (c : Nat) : State :=
  (((s.setDcu c { s.dcu c with drvGate := false }).gateReleased c).wr (Cd.gateCtrl c) 0).cause 1

def execGateCtrlRequest (c : Fin 64) (s : State) : Host.Outcome State Fault Refusal := done (s.hostRow (fun s => s.gateRequest c))
def execGateCtrlWithdraw (c : Fin 64) (s : State) : Host.Outcome State Fault Refusal := done (s.hostRow (fun s => s.gateWithdraw c))

/-- FP1_GATE_REQUEST (R201): on FP1's internal path. -/
def State.fp1Gate (s : State) (c : Nat) (want : Bool) : State :=
  let s1 := s.setDcu c { s.dcu c with fp1Gate := want }
  if want then s1.serveRun c else s1.gateReleased c

/-- FP1_GATE_REQUEST. -/
def execFp1GateRequest (c : Fin 64) (want : Bool) (s : State) : Host.Outcome State Fault Refusal := done (s.fp1Gate c want)

/-- A denial (R201): every standing request is dropped. -/
def State.gateDeny (s : State) (c : Nat) : State :=
  let d := s.dcu c
  let who : Nat := (if d.drvGate then 1 else 0) + (if d.fp1Gate then 2 else 0)
  let s1 := (s.setDcu c { d with drvGate := false, fp1Gate := false, gateReq := false }).bump (Cd.gateDenials c)
  ((when d.drvGate (fun s => s.cmdDone (Cd.gateCtrl c) 3) s1).record (srcCd c) 0x0304 who 0 0).enterRun c

/-- GATE_REQ_TIMEOUT (R201, R202, R215): 4 µs after GATE_REQ; an acknowledge sampled at the limit wins. -/
def execGateReqTimeout (c : Fin 64) (ack : Bool) (s : State) : Host.Outcome State Fault Refusal :=
  let d := s.dcu c
  done (if s.rd (Cd.cdState c) = 2 && s.elapsed d.gateAt 3200 && (!s.stopHeld c || d.force ≠ 0) then
    (if ack || s.comes (fun i => match i with | .gateAck e => e = c | _ => false) then s.gateClosed c
     else if d.force ≠ 0 then s.forceGate c (if d.force.testBit 0 then 1 else 2) else s.gateDeny c) else s)

/-- DOM_RST_REQ falls (R203); a source switch under way meanwhile goes on. -/
def State.domainReset (s : State) (c : Nat) : State :=
  let s1 := ((s.setDcu c { s.dcu c with domRst := false }).wr (Cd.needsReset c) 0).record (srcCd c) 0x0306 0 0 0
  (when (s.rd (Cd.cdState c) = 5) (fun s => s.enterRun c) s1).showGate c

/-- DOMAIN_RESET_END (R203): after 256 HCLK of DOM_RST_REQ. -/
def execDomainResetEnd (c : Fin 64) (s : State) : Host.Outcome State Fault Refusal :=
  done (if (s.dcu c).domRst && s.elapsed (s.dcu c).resetAt 256 then s.domainReset c else s)

/-! ### Table frequency (R189 to R191) -/

/-- A DCO that is to relock (R189); that of an isolated DCU relocks when it leaves isolation (R16). -/
def State.relock (s : State) (c : Nat) : State :=
  if s.cdIso c then s.setSat (satCd c) { s.sat (satCd c) with ftPend := true } else s.wr (Cd.dcoLock c) 0

/-- A write of F_TABLE (R189, R191, R216): only while GATED; clamped; MIN_CODE and VF_CODE follow, the ratio is evaluated with
the new MIN_CODE, the DCO relocks. -/
def State.fTableWrite (s : State) (c : Nat) (v : Int) (x : Nat) : State :=
  if s.rd (Cd.cdState c) = 3 then
    let f := clampI 50 4000 v
    let s1 := ((s.wr (Cd.fTable c) f).wr (Cd.minCode c) (divCeil 3200 f)).relock c
    (s1.markRws (Cd.fTable c)).reeval (aRatio c)
  else s.reject (Cd.fTable c) x

/-- F_TABLE_WRITE. -/
def execFTableWrite (c : Fin 64) (v : BitVec 16) (s : State) : Host.Outcome State Fault Refusal :=
  done (s.hostRow (fun s => s.hostOnce (Cd.fTable c) (fun s => s.fTableWrite c v.toNat 0)))

/-- Whether a test drives the DCO of a domain (R189, R449). -/
def State.dcoDriven (s : State) (c : Nat) : Bool := s.underTest 2 c

/-- DCO_LOCK falls where a test takes the DCOs. -/
def State.driveDcos (s : State) : State := forEach cdList (fun c s => if s.dcoDriven c then s.wr (Cd.dcoLock c) 0 else s) s

/-- DCO_LOCK (R189): the DCO is locked, once the DCU has left reset and no native test drives it. -/
def execDcoLock (c : Fin 64) (s : State) : Host.Outcome State Fault Refusal :=
  done (if s.start.dcusUp && !s.dcoDriven c then (s.wr (Cd.dcoLock c) 1).gateReview c else s)

/-! ### Source switch (R196 to R200) -/

/-- A write of SRC_SEL (R199): refused as a reject for ALT not connected or too fast, or a target without an edge. -/
def State.srcSelWrite (s : State) (c v : Nat) (live : Bool) (x : Nat) : State :=
  let alt := s.rd (Cd.altFreq c)
  if 2 < v then s.reject (Cd.srcSel c) x
  else if v = 1 && (alt = 0 || decide (s.rd (Cd.vfCode c) * s.rd (Cd.fTable c) < 64 * alt)) then s.reject (Cd.srcSel c) x
  else if !live then (s.reject (Cd.srcSel c) x).record (srcCd c) 0x0303 v 0 0
  else s.requestSwitch c v

/-- SRC_SEL_WRITE. -/
def execSrcSelWrite (c : Fin 64) (v : Byte) (live : Bool) (s : State) : Host.Outcome State Fault Refusal :=
  done (s.hostRow (fun s => s.srcSelWrite c v.toNat live 0))

/-- SOURCE_SWITCH_DONE (R196, R197): the first new-source edge; SW_STOP_HCLK is the measured stop interval. DESIGN CHOICE, log 117: where the
interlock falls below ALT_FREQ while a switch to ALT is under way or waits, the switch completes and R200, which speaks of a domain that
runs on ALT, is tested at the next evaluation of the ratio. -/
def State.switchDone (s : State) (c stop : Nat) : State :=
  let d := s.dcu c
  match d.switchTo with
  | some t =>
    let s1 := (((s.bump (Cd.switches c)).bump (Cd.swLostCyc c) d.switchLost).wr (Cd.swStopHclk c) stop).wr (Cd.srcNow c) t
    (s1.setDcu c { d with
      switchTo := none, switchLost := 8, switchDead := none, altPending := d.altPending && t = 1 }).enterRun c |>.showGate c
  | none => s

/-- SOURCE_SWITCH_DONE. -/
def execSourceSwitchDone (c : Fin 64) (stop : Word32) (s : State) : Host.Outcome State Fault Refusal :=
  done (if s.rd (Cd.cdState c) = 1 then s.switchDone c stop.toNat else s)

/-- Whether R199 takes a target of a write of SRC_SEL. -/
def State.srcSelOk (s : State) (c v : Nat) (live : Bool) : Bool :=
  let alt := s.rd (Cd.altFreq c)
  live && decide (v ≤ 2) && !(v = 1 && (alt = 0 || decide (s.rd (Cd.vfCode c) * s.rd (Cd.fTable c) < 64 * alt)))

/-- A write of SRC_SEL that reaches a domain in this HCLK and passes R199: the target it asks for (R215). Whether the target of a write
through the dictionary shows an edge is the free value that the write takes (log 79). -/
def State.switchComes (s : State) (c : Nat) : Option Nat :=
  let row := s.pending.findSome? (fun i => match i with
    | .srcSelWrite d v live => if s.hostUp && d.val = c && s.srcSelOk c v.toNat live then some v.toNat else none
    | _ => none)
  let dict := s.writesComing.findSome? (fun e =>
    if e.1 = Cd.srcSel c && s.srcSelOk c (e.2 % 256) (decide (s.freeVal 145 % 2 = 1)) then some (e.2 % 256) else none)
  match row with | some t => some t | none => dict

/-- The present source is declared dead (R198): the forced path, to the waiting request's source, or DCO for ALT and SAFE,
SAFE for the DCO; SAFE with 16 lost cycles where the target shows no edge. -/
def State.sourceDead (s : State) (c stop : Nat) (live : Bool) : State :=
  let d := s.dcu c
  let dead := s.rdN (Cd.srcNow c)
  let st := s.rd (Cd.cdState c)
  if (st = 0 || st = 1 || st = 2 || st = 5) && d.switchDead.isNone then
    let want := match d.switchTo, d.waiting, s.switchComes c with
      | some t, _, _ => t | none, some t, _ => t | none, none, some t => t | none, none, none => if dead = 0 then 2 else 0
    let dst := if live then want else 2
    let lost := if live then 8 else 16
    let s1 := (s.setDcu c { d with
      switchTo := some dst, switchLost := lost, switchDead := some dead, waiting := if d.switchTo.isSome then d.waiting else none,
      gateReq := false }).wr (Cd.cdState c) 1
    ((s1.wr (Cd.srcSel c) dst).bump (Cd.srcDeadCnt c)).record (srcCd c) 0x0303 (dead * 256 + dst : Nat) stop lost
  else s

/-- SOURCE_DEAD. -/
def execSourceDead (c : Fin 64) (stop : Word32) (live : Bool) (s : State) : Host.Outcome State Fault Refusal :=
  done (s.sourceDead c stop.toNat live)

/-! ### Power-domain sequences (R207 to R213, R466) -/

/-- The rush condition of R209; an isolated controller takes it as met after 2 × STAGE_MIN. -/
def State.rushOk (s : State) (d : Nat) : Bool :=
  let n := s.rdN (Pd.pdRail d)
  if (s.sat (satPd d)).isolated then s.elapsed (s.pd d).enabledAt (2 * s.stageMin d)
  else decide (s.rd (Rail.vsetRes n) - s.rd (Pd.rushDv d) ≤ s.rd (Rail.vout n)) && !(s.rail n).inhibit
    && (match (s.rail n).lastInhibit with | some t => s.elapsed t 800 | none => true)

/-- A step waits for the rush condition or the spacing: counted once a step (R209). -/
def State.pdWait (s : State) (d : Nat) : State :=
  if (s.pd d).waited then s else (s.setPd d { s.pd d with waited := true }).bump (Pd.rushWaits d)

/-- Whether an ON sequence can start (R207, R213): never at an isolated controller (R16). -/
def State.onDue (s : State) (d : Nat) : Bool :=
  s.rd (Pd.pdState d) = 0 && (s.pd d).want && s.regulating (s.rdN (Pd.pdRail d)) && !s.rung1 && !s.gong.line && !(s.sat (satPd d)).isolated

/-- Whether a step of an ON sequence ends with an enable (R207): the stage of its step is off, or it is on and its condition is met. -/
def State.enableDue (s : State) (d ack : Nat) : Bool :=
  let r := s.pd d
  s.rd (Pd.pdState d) = 1 && decide (1 ≤ r.step) && decide (r.step ≤ 4)
    && (!r.psw.testBit (r.step - 1)
        || (decide (r.step < 4) && ack.testBit (r.step - 1) && s.elapsed r.stepAt (s.stageMin d) && s.rushOk d))

/-- Whether an enable of a lower power domain on the rail is due in this HCLK too: it is issued first (R209, R215). -/
def State.lowerDue (s : State) (d : Nat) : Bool :=
  s.comes (fun i => match i with
    | .pdOnStart e => decide (e.val < d) && s.rd (Pd.pdRail e) = s.rd (Pd.pdRail d) && s.onDue e
    | .pdSeqAdvance e ack => decide (e.val < d) && s.rd (Pd.pdRail e) = s.rd (Pd.pdRail d) && s.enableDue e ack.toNat
    | _ => false)

/-- Enable the stage of the present step, 1 to 4, or wait for the spacing of the rail (R207, R209). -/
def State.pdEnable (s : State) (d : Nat) : State :=
  let r := s.pd d
  if s.spaced d && !s.lowerDue d then
    (s.setPd d { r with psw := putBit r.psw (r.step - 1) true, stepAt := s.hclk, enabledAt := s.hclk }).noteEnable d
  else s.pdWait d

/-- Go on to a step of an ON sequence (R207). -/
def State.pdStep (s : State) (d i : Nat) : State := s.setPd d { s.pd d with step := i, stepAt := s.hclk, waited := false }

/-- The ON sequence ends (R207 step 7). -/
def State.pdOn (s : State) (d : Nat) : State :=
  let r := s.pd d
  ((((s.setPd d { r with step := 0, iso := false, step6Done := false }).wr (Pd.pdState d) 2).wr (Pd.seqLast d)
    (divOpen 50 (((s.hclk : Int) - r.startedAt) * 5) 4)).bump (Pd.seqCount d)).pdReached d 1

/-- A step of an ON sequence (R207). -/
def State.onAdvance (s : State) (d ack : Nat) : State :=
  let r := s.pd d
  match r.step with
  | 5 =>
    if s.elapsed r.stepAt (divCeil (s.rd (Pd.tSettle d) * 4) 5).toNat then
      (if s.rushOk d then
        s.setPd d { r with step := 6, stepAt := s.hclk, waited := false, ret := false, rstN := true } else s.pdWait d)
    else s
  | 6 => if s.elapsed r.stepAt 32 then (s.setPd d { r with step := 7, step6Done := true }).wr (Pd.retValid d) 0 else s
  | 7 => s.pdOn d
  | i =>
    if !r.psw.testBit (i - 1) then s.pdEnable d
    else if ack.testBit (i - 1) && s.elapsed r.stepAt (s.stageMin d) then
      (if !s.rushOk d then s.pdWait d else if i = 4 then s.pdStep d 5 else (s.pdStep d (i + 1)).pdEnable d)
    else s

/-- A step of an OFF sequence or a reversal (R208, R466). -/
def State.offAdvance (s : State) (d ack : Nat) : State :=
  let r := s.pd d
  match r.step with
  | 0 =>
    if s.elapsed r.stepAt 32 then
      s.setPd d { r with step := 1, stepAt := s.hclk, ret := r.retUsed, rstN := r.rstN && r.retUsed } else s
  | 1 => if s.elapsed r.stepAt 32 && (!r.reversing || s.spacedMove d) then s.pdLower d else s
  | 2 => if r.psw = 0 then (if ack = 0 then s.pdOff d else s) else if s.spacedMove d then s.pdLower d else s
  | _ =>
    let low := if r.psw.testBit 2 then 3 else if r.psw.testBit 1 then 2 else if r.psw.testBit 0 then 1 else 0
    if !ack.testBit low && s.elapsed r.stepAt (s.stageMin d) then
      (if r.psw = 0 then (if ack = 0 then s.pdOff d else s)
       else if r.reversing && !s.spacedMove d then s else s.pdLower d)
    else s

/-- PD_ON_START (R207, R213): step 0 of an ON sequence, and the first stage where the spacing allows; an isolated controller starts
none (R16). -/
def State.pdOnStart (s : State) (d : Nat) : State :=
  let valid := s.rd (Pd.retValid d) = 1
  if s.onDue d then
    ((s.setPd d { s.pd d with
      step := 1, startedAt := s.hclk, stepAt := s.hclk, iso := true, rstN := valid, ret := valid, retUsed := valid,
      reversing := false, step6Done := false, waited := false }).wr (Pd.pdState d) 1).pdEnable d
  else s

/-- PD_ON_START. -/
def execPdOnStart (d : Fin 96) (s : State) : Host.Outcome State Fault Refusal := done (s.pdOnStart d)

/-- PD_SEQ_ADVANCE (R207, R208, R210, R466): in FAULT the stages that an ON timeout left enabled are lowered at 64 HCLK
spacing. -/
def execPdSeqAdvance (d : Fin 96) (ack : BitVec 4) (s : State) : Host.Outcome State Fault Refusal :=
  let s0 := s.wr (Pd.ackState d) ack.toNat
  done (match s.rd (Pd.pdState d) with
    | 1 => s0.onAdvance d ack.toNat
    | 3 => s0.offAdvance d ack.toNat
    | 4 => if (s.pd d).psw ≠ 0 && s.spacedMove d then s0.pdLower d else s0
    | _ => s0)

/-- A power domain enters FAULT (R210). DESIGN CHOICE, log 118: R210 does not give RET in FAULT, nor PD_RST_N after an OFF timeout; the model
drives both 0 for every cause. -/
def State.pdFault (s : State) (d cause ack psw : Nat) : State :=
  let s1 := s.setPd d { s.pd d with iso := true, rstN := false, ret := false, psw := psw, step := 0, reversing := false }
  (((s1.wr (Pd.pdState d) 4).wr (Pd.pdFault d) cause).wr (Pd.retValid d) 0).record (srcRail (s.rdN (Pd.pdRail d))) 0x0211 d cause ack

/-- PD_SEQ_TIMEOUT (R210): 20 µs after step 0. -/
def execPdSeqTimeout (d : Fin 96) (ack : BitVec 4) (s : State) : Host.Outcome State Fault Refusal :=
  let s0 := s.wr (Pd.ackState d) ack.toNat
  done (if s.elapsed (s.pd d).startedAt 16000 then
    (match s.rd (Pd.pdState d) with
      | 1 =>
        let s1 := s0.pdFault d 1 ack.toNat (s.pd d).psw
        if (s.pd d).psw ≠ 0 && s.spacedMove d then s1.pdLower d else s1
      | 3 => s0.pdFault d 2 ack.toNat 0
      | _ => s0)
    else s0)

/-- PSW_ACK_LOST (R210). -/
def execPswAckLost (d : Fin 96) (ack : BitVec 4) (s : State) : Host.Outcome State Fault Refusal :=
  let s0 := s.wr (Pd.ackState d) ack.toNat
  done (if s.rd (Pd.pdState d) = 2 && ack ≠ 15 then
    (s0.setPd d { s0.pd d with lostAt := some s.hclk }).pdFault d 3 ack.toNat 0 else s0)

/-- PD_CTRL CLEAR (R210, R212, R217): in FAULT with PSW_ACK 0000; the domain enters OFF. -/
def State.pdClear (s : State) (d : Nat) (x : Nat) : State :=
  if s.rd (Pd.pdState d) = 4 && s.rd (Pd.ackState d) = 0 then
    ((((s.setPd d { s.pd d with iso := true, rstN := false, psw := 0 }).wr (Pd.pdState d) 0).wr (Pd.pdFault d) 0).cmdDone (Pd.pdCtrl d) 1).pdReached
      d 0
  else (s.reject (Pd.pdCtrl d) x).wr (Pd.pdCtrl d) 2

/-- PD_CTRL_CLEAR. -/
def execPdCtrlClear (d : Fin 96) (ack : BitVec 4) (s : State) : Host.Outcome State Fault Refusal :=
  done (s.hostRow (fun s => (s.wr (Pd.ackState d) ack.toNat).pdClear d 0))

/-! ### The end of the start (R443, R445) -/

/-- READY once every rail of the order is in REGULATE or SHED; with the Chest scan complete too, S11 withdraws the bring-up gates and
the release delay runs. It is looked at when an HCLK ends, so that a latch of the same HCLK wins (R459). -/
def State.startReview (s : State) : State :=
  let up := s.startRails.all (fun n => s.regulating n)
  let s1 := if s.rd Start.startState = 3 && up then s.wr Start.startState 4 else s
  if s1.rd Start.startState = 4 && up && s1.start.scanDone && s1.start.readyAt.isNone then
    forEach (cdList.filter (fun c => s.regulating (s.rdN (Cd.cdRail c))))
      (fun c s => (s.setDcu c { s.dcu c with startGate := false }).gateReleased c)
      { s1 with start := { s1.start with readyAt := some s1.hclk } }
  else s1

/-- A pause of the start (R445): the step in progress finishes, the next waits. -/
def State.pauseStart (s : State) : State :=
  let st := s.rdN Start.startState
  if st = 2 || st = 3 then { s with start := { s.start with pausedFrom := st, pausedAt := s.hclk } }.wr Start.startState 7 else s

/-- SUPPLY is entered, PAUSED at once while an inhibit stands (R446, R459). -/
def State.enterSupply (s : State) : State :=
  let s1 := { s with start := { s.start with ibcAt := none, busOk := false } }.wr Start.startState 2
  when s.chest.inhibitAt.isSome (fun s => s.pauseStart) s1

/-- Whether an NVM inhibit stands or begins in this HCLK: it wins over a step that is about to begin (R446, R459). -/
def State.inhibitHere (s : State) : Bool :=
  s.chest.inhibitAt.isSome || s.ibc.vinLow || s.comes (fun i => match i with | .nvmInhibitBegin => true | _ => false)

/-! ### XCLK (R188) -/

/-- Every interlock code again: an fmax factor changed. -/
def State.refreshAll (s : State) : State := forEach cdList (fun c s => s.refreshVf c) s

/-- Set the STO factor of every fmax (R188, R193). -/
def State.setSto (s : State) (b : Bool) : State :=
  if s.clk.kSto = b then s else ({ s with clk := { s.clk with kSto := b } }).refreshAll

/-- XCLK_LOSS (R188): with BREF locked HCLK is unaffected; else the PLL takes STO, and a holdover on XCLK is over. -/
def execXclkLoss (s : State) : Host.Outcome State Fault Refusal :=
  done (if s.clk.xclkLive then
    let s1 := ({ s with clk := { s.clk with xclkLive := false, xclkLostAt := s.hclk } }).bump Clk.xclkLosses
    let s2 := if s.rd Clk.refSrc = 2 then s1
      else (when (s.rd Clk.brefState = 3) (fun s => s.wr Clk.brefState (if (s.port 0).up then 1 else 0)) (s1.wr Clk.refSrc 0)).setSto true
    s2.record 0 0x0309 (s2.rd Clk.refSrc) 0 0
    else s)

/-- XCLK_RESTORE (R188): XCLK present for 1 ms and the PLL back on it. An XCLK that was never accepted is not taken (R183). -/
def execXclkRestore (s : State) : Host.Outcome State Fault Refusal :=
  done (if s.clk.xclkLive || !s.clk.xclkOk || !s.elapsed s.clk.xclkLostAt 800000 then s
    else
      let s1 : State := { s with clk := { s.clk with xclkLive := true } }
      (when (s.rd Clk.refSrc = 0) (fun s => s.wr Clk.refSrc 1) s1).setSto false)

end Sys2Proof.Machine
end

