-- ==== Sys2Proof/Machine/Accum.lean ====
section
/-! DEFINITION. The energy accumulators (R335 to R338, R342, R343): estimates per output edge, leakage and rail energy per
loop period, and the subs that show them. -/

namespace Sys2Proof.Machine

/-- VOUT and VSTART of the voltage factors a rail's DCUs hold (R337): those of the last loop period. -/
def State.factors (s : State) (n : Nat) : Int × Int := tabGet (fun _ => (s.rd (Rail.vout n), s.rd (Rail.vstart n))) s.energy.kv n

/-- A quantity of weight units scaled by (VOUT / VSTART)^k of a rail (R337). -/
def State.scaleV (s : State) (n k : Nat) (w : Int) : Int :=
  divOpen (60 + k) (w * (s.factors n).1 ^ k) (max 1 (s.factors n).2 ^ k)

/-- The hub sends the voltage factors of a rail, once per loop period (R337). -/
def State.sendFactors (s : State) (n : Nat) : State :=
  { s with energy := { s.energy with kv := tabPut s.energy.kv n (s.rd (Rail.vout n), s.rd (Rail.vstart n)) } }

/-- PE_TOTAL and PE_EST of a partition follow its accumulator (R335, R339). -/
def State.showPe (s : State) (p : Nat) : State :=
  let e := tabGet (fun _ => 0) s.energy.pe p / 65536
  (s.wr (PEn.peEst p) e).wr (PEn.peTotal p) (e + tabGet (fun _ => 0) s.energy.adj p)

/-- Add weight units to a partition's estimate. -/
def State.addPe (s : State) (p : Nat) (w : Int) : State :=
  ({ s with energy := { s.energy with pe := tabPut s.energy.pe p (tabGet (fun _ => 0) s.energy.pe p + w) } }).showPe p

/-- CMD_ENERGY outside a start edge (R343): SPLIT 0, the sequence number, the energy saturating at 2^48 − 1. -/
def cmdFormat (count : Nat) (w : Int) : Nat := (count % 2 ^ 15) * 2 ^ 48 + min (w / 65536).toNat (2 ^ 48 - 1)

/-- The counters of a queue follow its accumulators (R335, R343); in the HCLK of a start CMD_ENERGY stays the previous command's. -/
def State.showQe (s : State) (q : Nat) : State :=
  let s1 := s.wr (QEn.qeTotal q) (tabGet (fun _ => 0) s.energy.qe q / 65536)
  if s.energy.split.contains q then s1
  else s1.wr (QEn.cmdEnergy q) (cmdFormat (s.rdN (QEn.cmdCount q)) (tabGet (fun _ => 0) s.energy.cmd q))

/-- The HCLK of the starts is over: CMD_ENERGY is the new commands' (R343). -/
def State.endSplit (s : State) : State :=
  forEach s.energy.split (fun q s => s.showQe q) { s with energy := { s.energy with split := [] } }

/-- A queue whose ACT_Qnnn is not 0 is busy (R173). -/
def State.noteBusy (s : State) (q act : Nat) : State :=
  if act = 0 then s else { s with upbeat := { s.upbeat with busyAt := tabPut s.upbeat.busyAt q s.hclk } }

/-- Energy of a queue's activity (R337): into the queue, its command and its partition. -/
def State.addQe (s0 : State) (q act : Nat) : State :=
  let s := s0.noteBusy q act
  let p := s.rdN (QEn.qPt q)
  let w := s.scaleV (s.rdN (PEn.peRail p)) 2 (s.rd (QEn.qWeight q) * act)
  let e := s.energy
  ((({ s with
      energy := { e with
      qe := tabPut e.qe q (tabGet (fun _ => 0) e.qe q + w),
      cmd := tabPut e.cmd q (tabGet (fun _ => 0) e.cmd q + w) } }).showQe q).addPe p w)

/-- The output edges of a domain since the last sample edge, of its own counts and of its queues' commands (R342). -/
def State.countEdges (s : State) (c edges : Nat) : State :=
  let mine := fun (q : Nat) => decide (s.rdN (Part.ptCd (s.rdN (QEn.qPt q))) = c)
  let s1 := s.setDcu c { s.dcu c with
    beatEdges := (s.dcu c).beatEdges + edges, edges := (s.dcu c).edges + edges, edgeAt := if edges = 0 then (s.dcu c).edgeAt else s.hclk }
  { s1 with
    energy := { s1.energy with
      cyc := ((List.range 512).filter mine).foldl (fun t q =>
        tabPut t q (tabGet (fun _ => 0) t q + (edges - tabGet (fun _ => 0) s.energy.off q))) s1.energy.cyc,
      off := s1.energy.off.filter (fun e => !mine e.1) } }

/-- The clock energy of output edges of a domain, in its partitions (R337). -/
def State.addClock (s : State) (c edges : Nat) : State :=
  forEach (s.ptsOfCd c) (fun p s => s.addPe p (s.scaleV (s.rdN (PEn.peRail p)) 2 (s.rd (PEn.ptClkW p) * edges))) s

/-- Leakage of a loop period at the factors sent in it (R337), and the rail's energy (R338). -/
def State.addPeriod (s0 : State) (n : Nat) (on : Bool) : State :=
  let s := s0.sendFactors n
  let s1 := if on then
      forEach (s.ptsOf n) (fun p s => s.addPe p (s.scaleV n 3 (divOpen 64 (s.rd (PEn.eLeakMw p) * 2 ^ 40 * 5) (10 ^ 11)))) s
    else s
  let w := divOpen 65 (s.rd (Rail.vout n) * s.rd (Rail.iout n) * 33554432) 244140625
  let e := s1.energy
  let acc := tabGet (fun _ => 0) e.rail n + w
  ({ s1 with energy := { e with rail := tabPut e.rail n acc } }).wr (EnTel.railEnergy n) (acc / 65536)

/-- Add to a sum kept under a key. -/
def sumAdd (t : List (Nat × Int)) (k : Nat) (v : Int) : List (Nat × Int) := tabPut t k (tabGet (fun _ => 0) t k + v)

/-- The power sums of a rail: of the beat (its key, and the count at 8 + n) and of the budget period (16 + n, 24 + n), from
which R264 and R259 take their means. -/
def State.sumPower (s : State) (n : Nat) : State :=
  let p := s.rd (Rail.pout n)
  { s with
    budget := { s.budget with pow := sumAdd (sumAdd (sumAdd (sumAdd s.budget.pow n p) (8 + n) 1) (16 + n) p) (24 + n) 1 } }

/-- The command accumulator at a CMD_START (R342): the completed command's energy and edges, the accumulator at this edge's energy alone,
the next sequence number; a sample of this HCLK is one at the start edge and shows the completed command with SPLIT 1 (R343). -/
def State.rollAcc (s : State) (q beforeAct beforeEdges startAct : Nat) : State :=
  let s1 := s.addQe q beforeAct
  let last := cmdFormat (s1.rdN (QEn.cmdCount q)) (tabGet (fun _ => 0) s1.energy.cmd q)
  let cyc := tabGet (fun _ => 0) s1.energy.cyc q + (beforeEdges - tabGet (fun _ => 0) s1.energy.off q)
  let s2 : State := { s1 with
    energy := { s1.energy with
      cmd := tabPut s1.energy.cmd q 0, cyc := tabPut s1.energy.cyc q 0, off := tabPut s1.energy.off q beforeEdges,
      split := s1.energy.split.filter (fun x => x ≠ q) ++ [q] } }
  let s3 := ((s2.wr (QEn.cmdLast q) last).wr (QEn.cmdLastCyc q) (min cyc (2 ^ 32 - 1) : Nat)).wr (QEn.cmdCount q)
    ((s1.rdN (QEn.cmdCount q) + 1) % 2 ^ 32 : Nat)
  (s3.wr (QEn.cmdEnergy q) (2 ^ 63 + last : Nat)).addQe q startAct

/-- CMD_ENERGY of a queue as a sample of this HCLK finds it (R343, R359): a CMD_START that waits falls on the sample edge. -/
def State.cmdView (s : State) (q : Nat) : Int :=
  (s.pending.foldl (fun s i => match i with
    | .cmdStart k _ ba be sa => if k.val = q then s.rollAcc q ba.toNat be.toNat sa.toNat else s
    | _ => s) s).rd (QEn.cmdEnergy q)

/-! ### Reconciliation (R339, R340) -/

/-- The quotient of R339, toward zero. -/
def truncDiv (a b : Int) : Int := if 0 ≤ a then a / b else -(-a / b)

/-- The partition that takes the rest: the largest estimate, the lowest number on a tie. -/
def restTo (est : List (Nat × Int)) : Nat :=
  (est.foldl (fun (b : Option (Nat × Int)) e => match b with
    | none => some e
    | some x => if x.2 < e.2 then some e else some x) none).elim 0 (fun e => e.1)

/-- The adjustments of a rail's partitions (R339). -/
def adjustments (m : Int) (est : List (Nat × Int)) : List (Nat × Int) :=
  let e := (est.map (fun x => x.2)).sum
  let delta := m - e
  let adj := est.map (fun x => (x.1, if 0 < e then truncDiv (delta * x.2) e else truncDiv delta est.length))
  let rest := delta - (adj.map (fun x => x.2)).sum
  adj.map (fun x => if x.1 = restTo est then (x.1, x.2 + rest) else x)

/-- A partition's estimate in the interval, EU. -/
def State.estOf (s : State) (p : Nat) : Int :=
  tabGet (fun _ => 0) s.energy.pe p / 65536 - tabGet (fun _ => 0) s.energy.peAtR p

/-- One rail of the reconciliation (R339), its interval cut here: a rail that supplies no clock domain has none. -/
def State.reconcileRail (s : State) (n : Nat) : State :=
  let r := tabGet (fun _ => 0) s.energy.rail n / 65536
  let m := r - tabGet (fun _ => 0) s.energy.railAtR n
  let est := (s.ptsOf n).map (fun p => (p, s.estOf p))
  let e := (est.map (fun x => x.2)).sum
  let s1 : State := { s with
    energy := { s.energy with
      recCut := s.energy.recCut.filter (fun k => k ≠ n)
      railAtR := tabPut s.energy.railAtR n r
      pendingAdj := (adjustments m est).foldl (fun t x => tabPut t x.1 x.2) s.energy.pendingAdj
      pendingEst := est.foldl (fun t x => tabPut t x.1 x.2) s.energy.pendingEst
      peAtR := est.foldl (fun t x => tabPut t x.1 (tabGet (fun _ => 0) s.energy.pe x.1 / 65536)) s.energy.peAtR } }
  if s.cdsOf n = [] then s1 else s1.wr (EnTel.recRatio n) (if e = 0 then 0 else m * 4096 / e)

/-- RECONCILE (R339): at an instant whose beat time is a multiple of 1,000, tick 0, once. The edges before it that a rail's next sample edge
brings are in its interval, so the rail's figures are cut there. -/
def State.reconcile (s : State) : State :=
  let e := s.energy
  if s.start.hubUp && s.beatHclk % 800000 = 0 && decide (e.recAt < s.hclk) then
    { s with energy := { e with recBeat := s.beat, recDue := true, recAt := s.hclk, recLen := s.hclk - e.recAt, recCut := railList } }
  else s

/-- The energy of output edges and activity, at the voltage factor that held (R337). -/
def State.addActivity (s : State) (m : EdgeCounts) : State :=
  let s1 := forEach m.edges (fun e s => s.addClock e.1 e.2.toNat) s
  let s2 := forEach m.actQ (fun e s => s.addQe e.1 e.2.toNat) s1
  forEach m.actPt (fun e s => s.addPe e.1 (s.scaleV (s.rdN (PEn.peRail e.1)) 2 (s.rd (PEn.ptActW e.1) * e.2.toNat))) s2

/-- A list of counts less the counts of another. -/
def countsLess {k : Nat} (l p : List (Fin k × BitVec 16)) : List (Fin k × BitVec 16) :=
  l.map (fun e => (e.1, e.2 - (match p.find? (fun f => f.1 = e.1) with | some f => f.2 | none => 0)))

/-- The output edges and activity since the previous sample edge of a rail (R337, R339), `pre` those before a reconciliation instant since
then: all of them where it is this sample edge. The energies of a CMD_START since that instant count before it (DESIGN CHOICE, log 127). -/
def State.energyEdges (s : State) (n : Nat) (m pre : EdgeCounts) : State :=
  let s1 := forEach m.edges (fun e s => s.countEdges e.1 e.2.toNat) s
  if s.energy.recCut.contains n then
    let p := if s.energy.recAt = s.hclk then m else pre
    ((s1.addActivity p).reconcileRail n).addActivity ⟨countsLess m.edges p.edges, countsLess m.actQ p.actQ, countsLess m.actPt p.actPt⟩
  else s1.addActivity m

/-- One partition's adjustment (R339, R340): its counter, its interval figures, PE_REC as at R_k with the adjustment. -/
def State.adjustPe (s : State) (p : Nat) : State :=
  let e := s.energy
  let est := tabGet (fun _ => 0) e.pendingEst p
  let adj := tabGet (fun _ => 0) e.pendingAdj p
  let total := tabGet (fun _ => 0) e.adj p + adj
  let s1 : State := ({ s with energy := { e with adj := tabPut e.adj p total } }).showPe p
  (((s1.wr (PEn.peRec p) (tabGet (fun _ => 0) e.peAtR p + total)).wr (PEn.peMsEst p) est).wr (PEn.peMsAdj p)
    (clampI (-2 ^ 31) (2 ^ 31 - 1) adj)).wr (PEn.peMsMw p) (divOpen 66 ((est + adj) * 800000000 * 1000) (2 ^ 24 * (max 1 e.recLen : Nat)))

/-- RECONCILE_APPLY (R339, R340): at the HCLK edge of beat R_k + 2, tick 0. -/
def State.reconcileApply (s : State) : State :=
  if s.energy.recDue && s.elapsed s.energy.recAt 1600 then
    let s1 := forEach ptList (fun p s => s.adjustPe p) (forEach s.energy.recCut (fun n s => s.reconcileRail n) s)
    let s2 := forEach railList (fun n s => s.wr (EnTel.railRec n) (tabGet (fun _ => 0) s.energy.railAtR n)) s1
    let s3 : State := { s2 with energy := { s2.energy with recDue := false } }
    (s3.wr EnTel.recLast s.energy.recBeat).bump EnTel.recCount
  else s

/-- The counters as a sample of this HCLK finds them: an adjustment of the HCLK is in (R344, R359). -/
def State.adjusted (s : State) : State := s.reconcileApply

end Sys2Proof.Machine
end

