-- ==== Sys2Proof/Machine/Tel.lean ====
section
/-! DEFINITION. Telemetry windows (R346 to R358): forming, issuing and committing records on the initiator port, and the record's
bytes. A window w of this file is index 8401 + w. -/

namespace Sys2Proof.Machine

/-- What a window holds. -/
def State.win (s : State) (w : Nat) : WinInt := tabGet (fun _ => {}) s.tel.wins w
/-- Replace what a window holds. -/
def State.setWin (s : State) (w : Nat) (r : WinInt) : State := { s with tel := { s.tel with wins := tabPut s.tel.wins w r } }
/-- The windows of Z-REF. -/
def winList : List Nat := List.range 15

/-- The slot of a sub as a sample or a read of this HCLK finds it (R343, R344, R359). -/
def State.energySlot (s : State) (key : Nat) : Nat :=
  let i := key / 256
  if 0x8100 ≤ i && i < 0x8300 && key % 256 = 2 then (s.cmdView (i - 0x8100) % 2 ^ 64).toNat
  else if 0x8000 ≤ i && i ≤ 0x8400 then s.adjusted.slotWord key
  else s.slotWord key

/-- A number of 8-byte words as bytes. -/
def wordsBytes (l : List Nat) : List Byte := (l.map (fun v => leBytes 8 v)).flatten

/-- The 28 bytes of an event record before its CRC (R406). -/
def Rec.body (r : Rec) : List Byte :=
  leBytes 2 r.code ++ leBytes 1 r.flags ++ leBytes 1 r.source ++ leBytes 8 r.beat ++ leBytes 4 r.p1 ++ leBytes 4 r.p2
    ++ leBytes 4 r.p3 ++ leBytes 4 r.seq

/-- The 32 bytes of an event record (R406). -/
def Rec.bytes (r : Rec) : List Byte := r.body ++ leBytes 4 (crc32c r.body).toNat

/-- A byte list as 8-byte words, the last one padded with zeros. -/
def bytesWords (n : Nat) (b : List Byte) : List Nat := (List.range n).map (fun i => leNat ((b.drop (8 * i)).take 8))

/-- The 256 bytes of a telemetry record (R347). -/
def State.telBytes (s : State) (w : Nat) (r : TelRec) : List Byte :=
  let flags := (if s.bit (Win.winFlags w) 0 then 1 else 0) + (if r.shared then 2 else 0) + (if r.gap then 4 else 0)
    + (if r.flushed then 8 else 0)
  let body := leBytes 4 r.seq ++ leBytes 1 (s.rdN (Win.winKind w)) ++ leBytes 1 (w + 1) ++ leBytes 1 flags ++ leBytes 1 r.count
    ++ leBytes 8 r.beat ++ leBytes 2 r.tick ++ leBytes 2 0 ++ leBytes 4 r.drops
    ++ ((wordsBytes r.words) ++ List.replicate 224 0).take 224 ++ leBytes 4 r.seq
  body ++ leBytes 4 (crc32c body).toNat

/-! ### Conditions -/

/-- Shared mode: SHARED_MODE 1, or CD_RST_N low (R357). -/
def State.shared (s : State) : Bool := s.rd EnTel.sharedMode = 1 || !s.start.released

/-- In shared mode only essential windows form records (R357). -/
def State.winSilent (s : State) (w : Nat) : Bool := s.shared && !s.bit (Win.winFlags w) 0

/-- With CONS set, the waiting record waits for CONSUMED (R351). -/
def State.consHolds (s : State) (w : Nat) : Bool :=
  s.bit (Win.winFlags w) 1 && (match (s.win w).waiting with
    | some r => decide ((s.rd (Win.winSlots w)) ≤ ((r.seq : Int) - s.rd (Win.consumed w)) % 2 ^ 32)
    | none => false)

/-- Whether a window cannot keep up (R351). -/
def State.winBehind (s : State) (w : Nat) : Bool := (s.win w).behind || s.consHolds w

/-- Whether a window holds PM_READY low (R352). -/
def State.winBlocks (s : State) (w : Nat) : Bool := s.rd (Win.winEn w) = 1 && s.rd (Win.winPolicy w) = 1 && s.winBehind w

/-- PM_READY (R46, R47, R59): a free place in the queue, no window that holds it low, the hub out of reset, SOFT_RST low. -/
def State.pmReady (s : State) : Bool :=
  decide (s.budget.markers.length < 64) && !winList.any s.winBlocks && s.hostUp

/-- Items of a full record (R348). -/
def fullItems (kind : Int) : Nat := if kind = 2 then 7 else 14

/-! ### Forming records (R349 to R351, R357) -/

/-- The next record written carries GAP (R347, R351): the one that waits, else the one formed next. -/
def WinInt.markGap (r : WinInt) : WinInt :=
  match r.waiting with
  | some x => { r with waiting := some { x with gap := true } }
  | none => { r with gap := true }

/-- A lost record (R350, R351): WIN_DROPS, TEL_DROPS, cause 10, and GAP. -/
def State.dropRecord (s : State) (w : Nat) : State :=
  (((s.setWin w (s.win w).markGap).bump (Win.winDrops w)).bump EnTel.telDrops).cause 10

/-- A lost item (R349, R351); `behind`: because the window cannot keep up. -/
def State.dropItem (s : State) (w : Nat) (behind : Bool) : State :=
  let r := (s.win w).markGap
  ((s.setWin w { r with behind := r.behind || behind }).bump (Win.itemDrops w)).cause 10

/-- A record enters the waiting place with the next sequence number (R350). -/
def State.formRecord (s : State) (w beat tick count : Nat) (words : List Nat) (flushed : Bool) : State :=
  let r := s.win w
  let seq := s.rdN (Win.nextSeq w)
  (s.setWin w { r with
    items := [], gap := false, behind := false,
    waiting := some ⟨seq, beat, tick, count, words, s.rdN (Win.winDrops w), r.gap, flushed, false⟩ }).wr (Win.nextSeq w)
    ((seq + 1) % 2 ^ 32 : Nat)

/-- The forming record of an EVENTS or COMMAND window becomes the waiting one. -/
def State.formItems (s : State) (w : Nat) (flushed : Bool) : State :=
  let r := s.win w
  s.formRecord w r.firstBeat r.firstTick r.items.length r.items.flatten flushed

/-- Whether a write of 0 to a window's WIN_EN waits in this HCLK, over any transport. -/
def State.winOffComes (s : State) (w : Nat) : Bool :=
  s.comes (fun i => match i with | .winDisable u => s.hostUp && u.val = w | _ => false) || s.valueComes (Win.winEn w) 0

/-- A record that is due in a silent window is not formed, and counted in SUPPRESSED (R357). -/
def State.suppress (s : State) (w : Nat) : State := (s.setWin w { s.win w with items := [] }).bump (Win.suppressed w)

/-- A full forming record moves on as soon as the waiting place is free, unless the window is turned off in this HCLK (R349, R357, R359). -/
def State.advanceWin (s : State) (w : Nat) : State :=
  let r := s.win w
  if r.items.length = fullItems (s.rd (Win.winKind w)) && s.rd (Win.winKind w) ≠ 1 && !s.winOffComes w then
    (if s.winSilent w then s.suppress w else if r.waiting.isNone then s.formItems w false else s.setWin w { r with behind := true })
  else s

/-- An item of an EVENTS or COMMAND window (R349, R351, R357). -/
def State.addItem (s : State) (w : Nat) (beat tick : Nat) (item : List Nat) : State :=
  let r := s.win w
  if s.winSilent w then s.bump (Win.suppressed w)
  else if fullItems (s.rd (Win.winKind w)) ≤ r.items.length then s.dropItem w true
  else
    (s.setWin w { r with
      items := r.items ++ [item], firstBeat := if r.items = [] then beat else r.firstBeat,
      firstTick := if r.items = [] then tick else r.firstTick }).advanceWin w

/-- Whether an EVENTS window selects the shelf of a source (840w:0B, 0C). -/
def State.winSelects (s : State) (w src : Nat) : Bool :=
  if 0x40 ≤ src then s.bit (Win.winSelCd w) (src - 0x40)
  else if src = 0x18 then s.bit (Win.winSel w) 16
  else if 0x10 ≤ src then s.bit (Win.winSel w) (12 + (src - 0x10))
  else if 8 ≤ src then s.bit (Win.winSel w) (src - 8)
  else s.bit (Win.winSel w) (8 + src)

/-- A record written to its shelf becomes an item of the EVENTS windows that select the shelf (R349). -/
def State.eventItem (s : State) (r : Rec) : State :=
  forEach (winList.filter (fun w => s.rd (Win.winEn w) = 1 && s.rd (Win.winKind w) = 2 && s.winSelects w r.source))
    (fun w s => s.addItem w r.beat r.tick (bytesWords 4 r.bytes)) s

/-- Whether a COMMAND window selects a queue (840w:0B). -/
def State.winQueue (s : State) (w q : Nat) : Bool :=
  let sel := s.rdN (Win.winSel w)
  decide (getField sel 0 10 ≤ q) && decide (q < getField sel 0 10 + getField sel 16 10)

/-- The COMMAND windows that select a queue. -/
def State.queueWins (s : State) (q : Nat) : List Nat :=
  winList.filter (fun w => s.rd (Win.winEn w) = 1 && s.rd (Win.winKind w) = 3 && s.winQueue w q)

/-- An item joins those that wait, in start order, and in one HCLK by the lower queue number (R349). -/
def joinItem (l : List CmdItem) (e : CmdItem) : List CmdItem :=
  let before := fun (x : CmdItem) => decide (x.at_ < e.at_) || decide (x.q ≤ e.q)
  l.takeWhile before ++ e :: l.dropWhile before

/-- A CMD_START of a queue that windows select makes an item with the completed command, which waits in the DCU for the ring; beyond 16 of
them it is lost (R348, R349, R359). -/
def State.commandItem (s : State) (q seq cyc energy : Nat) : State :=
  let wins := s.queueWins q
  let cd := s.rdN (Part.ptCd (s.rdN (QEn.qPt q)))
  let item : CmdItem := ⟨q, cd, s.hclk, s.beat, s.tick, [q + seq * 2 ^ 16 + min cyc (2 ^ 32 - 1) * 2 ^ 32, energy]⟩
  if wins = [] then s
  else if 16 ≤ (s.tel.cmdItems.filter (fun e => e.cd = cd)).length then
    forEach wins (fun w s => if s.winSilent w then s.bump (Win.suppressed w) else s.dropItem w false) s
  else { s with tel := { s.tel with cmdItems := joinItem s.tel.cmdItems item } }

/-- The oldest item comes over the ring, one each HCLK, and enters the windows that select its queue (R349; DESIGN CHOICE, log 103: the
manual does not say how fast the ring takes them). -/
def State.ringItem (s : State) : State :=
  match s.tel.cmdItems with
  | [] => s
  | e :: r => forEach (s.queueWins e.q) (fun w s => s.addItem w e.beat e.tick e.words) { s with tel := { s.tel with cmdItems := r } }

/-- Whether a transport has staged content for a BLOB. -/
def State.isStaged (s : State) (x idx : Nat) : Bool := s.host.staging.contains (x * 65536 + idx)

/-- The oldest record of a ring, 0 where it is empty. -/
def State.ringHead (s : State) (ring : Nat) : Nat := ((if ring = 0 then s.hub.ringH else s.hub.ringM).headD 0).toNat

/-- The slot of a sub outside a BLOB's window as a transport reads it, or a SAMPLE window as transport 0 (R86, R90, R93, R348; log 128);
COMMIT reads 1 while staged content exists: the manual does not say whose, and the model shows that of the reading transport (DESIGN
CHOICE, log 110). -/
def State.slotLive (s : State) (x idx sub : Nat) : Nat :=
  if sub = 0 then (highestSub idx).getD 0
  else if isBlob idx && sub = 2 then tabGet (fun _ => 0) s.host.cursors (x * 65536 + idx)
  else if blobWritable idx && sub = 4 then (if s.isStaged x idx then 1 else 0)
  else if idx = 0xA011 && sub = 5 then (if s.chest.fetchX.contains x then 1 else 0)
  else if idx = 0xA031 && sub = 5 then (if s.chest.dumpX.contains x then 1 else 0)
  else if idx = 0x1220 && sub = 1 then s.ringHead 0
  else if idx = 0x1221 && sub = 1 then s.ringHead 1
  else if 0x2800 ≤ idx && idx < 0x2860 && sub = 0x0D then s.slotWord (Ph.phState (idx - 0x2800))
  else s.energySlot (idx * 256 + sub)

/-- The sampled slots of a SAMPLE window's list (R348). -/
def State.sampleWords (s : State) (w : Nat) : List Nat :=
  (List.range 28).map (fun k =>
    let v := s.rdN (Win.list w k)
    if v = 0 then 0 else s.slotLive 0 (v / 2 ^ 16) (getField v 8 8))

/-- Whether a window's instant is this HCLK, has not been taken, and the window is not turned off in it (R349, R359). -/
def State.instantDue (s : State) (w : Nat) : Bool :=
  s.rd (Win.winEn w) = 1 && s.rd (Win.winKind w) = 1 && s.beatHclk % (800 * s.rdN (Win.winPeriod w)) = 0
    && (s.win w).sampledAt ≠ some s.hclk && !s.winOffComes w

/-- TEL_SAMPLE_DUE (R349, R351, R357). -/
def State.sampleDue (s0 : State) (w : Nat) : State :=
  let s := s0.setWin w { s0.win w with sampledAt := some s0.hclk }
  if !s0.instantDue w then s0
  else if s.winSilent w then s.bump (Win.suppressed w)
  else if (s.win w).waiting.isSome then (s.setWin w { s.win w with behind := true }).dropRecord w
  else
    let n := ((List.range 28).filter (fun k => s.rd (Win.list w k) ≠ 0)).length
    s.formRecord w s.beat 0 n (s0.sampleWords w) false

/-- TEL_SAMPLE_DUE. -/
def execTelSampleDue (w : Fin 15) (s : State) : Host.Outcome State Fault Refusal := done (s.sampleDue w)

/-- TEL_FLUSH (R349, R357, R359): WIN_FLUSH beats after the first item of an unformed record. -/
def State.telFlush (s : State) (w : Nat) : State :=
  let r := s.win w
  if s.rd (Win.winEn w) ≠ 1 || r.items = [] || decide ((s.beat : Int) < r.firstBeat + s.rd (Win.winFlush w)) || s.winOffComes w then s
  else if s.winSilent w then s.suppress w
  else if r.waiting.isSome then s.setWin w { r with behind := true }
  else s.formItems w true

/-- TEL_FLUSH. -/
def execTelFlush (w : Fin 15) (s : State) : Host.Outcome State Fault Refusal := done (s.telFlush w)

/-! ### Issue and commit (R53, R54, R350, R356) -/

/-- The cost of a write in 1/8 row slots (R356, R357): a row, or a counter add (row 4). -/
def State.writeCost (s : State) (row : Nat) : Nat := if row = 4 && !s.shared then 1 else 8

/-- The bucket holds the cost of a write. -/
def State.canPay (s : State) (row : Nat) : Bool := decide (s.writeCost row * 100000 ≤ s.tel.bucket)

/-- The write next on the port is presented once the bucket holds its cost (R356), which SLOTS_USED counts. -/
def State.present (s : State) : State :=
  match s.tel.port with
  | [] => s
  | (_, row) :: _ =>
    if !s.tel.granted && s.canPay row then
      ({ s with tel := { s.tel with granted := true, bucket := s.tel.bucket - s.writeCost row * 100000 } }).bump EnTel.slotsUsed
        (s.writeCost row)
    else s

/-- The bucket after one more HCLK (R356, R357), in 1/800,000 row slots. -/
def State.refill (s : State) : State :=
  let ess := s.rdN EnTel.essSlots
  let b := if s.shared then min (s.tel.bucket + ess) (ess * 800000)
    else min (s.tel.bucket + s.rdN EnTel.fabricSlots * s.rdN EnTel.telShare * 10) (64 * 800000)
  { s with tel := { s.tel with bucket := b } }

/-- Whether a window has a record that may be issued; TIP_VALID is low while SOFT_RST is high (R47). -/
def State.winReady (s : State) (w : Nat) : Bool :=
  s.hostUp && s.rd (Win.winEn w) = 1 && (s.win w).waiting.isSome && (s.win w).issue.isNone && !s.winSilent w && !s.consHolds w

/-- Windows are served essential first, then by number (R356). -/
def State.winFirst (s : State) (w : Nat) : Bool :=
  winList.all (fun u => !s.winReady u || u = w
    || (if s.bit (Win.winFlags u) 0 = s.bit (Win.winFlags w) 0 then decide (w < u) else s.bit (Win.winFlags w) 0))

/-- TEL_RECORD_ISSUE (R53, R55, R236, R347, R356): the port is free, the bucket holds the first row's cost, and the four row writes are
presented, in order; the reading of the record is a level E access of the fabric. -/
def State.telIssue (s : State) (w : Nat) : State :=
  if s.winReady w && s.winFirst w && s.canPay 0 && s.tel.port = [] then
    let r := s.win w
    let s1 := s.setWin w { r with
      issue := r.waiting.map (fun x => { x with shared := s.shared }), waiting := none, rows := 15, failed := false, behind := false }
    let s2 : State := { s1 with tel := { s1.tel with granted := false, port := [(w, 0), (w, 1), (w, 2), (w, 3)] } }
    (s2.present.advanceWin w).fabric 4 0
  else s

/-- TEL_RECORD_ISSUE. -/
def execTelRecordIssue (w : Fin 15) (s : State) : Host.Outcome State Fault Refusal := done (s.telIssue w)

/-- The tag of the next write: the first from a place on that is not outstanding (R53). -/
def State.freeTag (s : State) : Nat :=
  (((List.range 32).map (fun i => (s.tel.tagNext + i) % 32)).find? (fun t => !s.tel.out.any (fun e => e.tag = t))).getD 0

/-- The writes that are outstanding, shown (R53). -/
def State.setOut (s : State) (l : List TipWrite) : State :=
  ({ s with tel := { s.tel with out := l } }).wr EnTel.tipOutstanding (l.length : Nat)

/-- An edge of the port (R47, R53, R55, R356): the write presented is accepted where TIP_READY is high, an input of which nothing tells (a free
value); otherwise it is held. At most 32 are outstanding, and TIP_VALID is low while SOFT_RST is high. -/
def State.portTick (s0 : State) : State :=
  let s := s0.present
  match s.tel.port with
  | [] => s
  | (w, row) :: r =>
    if !s.tel.granted || decide (32 ≤ s.tel.out.length) || !s.hostUp then s
    else if s.freeVal 206 % 2 = 0 then s.useFree
    else
      let t := s.freeTag
      let s1 : State := { s.useFree with tel := { s.tel with port := r, granted := false, tagNext := (t + 1) % 32 } }
      s1.setOut (s.tel.out ++ [⟨w, row, t⟩])

/-- What stands on the port's outputs (R53, R55, R350). -/
structure TipWord where
  op : Nat
  dest : Nat
  addr : Nat
  tag : Nat
  data : List Byte
  deriving DecidableEq, Repr

/-- The write presented: a row of the record in issue at its slot, or the add of 256 to the counter (R55, R350). -/
def State.tipWord (s : State) : Option TipWord :=
  match s.tel.port with
  | [] => none
  | (w, row) :: _ =>
    let dest := s.rdN (Win.winDest w)
    if !s.tel.granted then none
    else if row = 4 then some ⟨1, dest, s.rdN (Win.winCtr w), s.freeTag, leBytes 8 256 ++ List.replicate 56 0⟩
    else match (s.win w).issue with
      | some r => some ⟨0, dest, s.rdN (Win.winBase w) + 256 * (r.seq % s.rdN (Win.winSlots w)) + 64 * row, s.freeTag,
          ((s.telBytes w r).drop (64 * row)).take 64⟩
      | none => none

/-- The record in issue ends (R358). -/
def State.finishIssue (s : State) (w : Nat) : State :=
  let s1 := s.setWin w { s.win w with issue := none }
  when (s1.rd (Win.winEn w) = 2) (fun s => s.wr (Win.winEn w) 0) s1

/-- After a commit (R54, R350, R358): once the four rows have committed the counter add is presented, or the record ends after an error. -/
def State.endRows (s : State) (w : Nat) : State :=
  let r := s.win w
  if r.rows ≠ 0 then s
  else if r.failed then s.finishIssue w
  else { s.setWin w { r with rows := 16 } with tel := { (s.setWin w { r with rows := 16 }).tel with port := s.tel.port ++ [(w, 4)] } }

/-- The outstanding write of a tag. -/
def State.tipOf (s : State) (tag : Nat) : Option TipWrite := s.tel.out.find? (fun e => e.tag = tag)

/-- A write is no longer outstanding: its row has committed. -/
def State.commitRow (s : State) (e : TipWrite) : State :=
  (s.setOut (s.tel.out.filter (fun x => x.tag ≠ e.tag))).setWin e.win { s.win e.win with rows := putBit (s.win e.win).rows e.row false }

/-- TIP_COMMIT (R53, R54, R350): of a tag that is outstanding; the add's commit makes COMMITTED the counter divided by 256. -/
def State.tipCommit (s : State) (tag : Nat) : State :=
  match s.tipOf tag with
  | none => s
  | some e =>
    let s1 := s.commitRow e
    if e.row = 4 then (s1.wr (Win.committed e.win) ((s1.rdN (Win.committed e.win) + 1) % 2 ^ 32 : Nat)).finishIssue e.win
    else s1.endRows e.win

/-- The record in issue is abandoned (R350): counted, and the next record takes its sequence number and its slot. -/
def State.abandon (s : State) (w : Nat) : State :=
  let r := s.win w
  let seq := match r.issue with | some x => x.seq | none => s.rdN (Win.nextSeq w)
  let s1 := (s.dropRecord w).bump (Win.winAbandoned w)
  let s2 := s1.setWin w { s1.win w with
    failed := true, waiting := (s1.win w).waiting.map (fun x => { x with seq := seq }) }
  s2.wr (Win.nextSeq w) ((if r.waiting.isSome then seq + 1 else seq) % 2 ^ 32 : Nat)

/-- TIP_COMMIT_ERROR (R54, R350): the write was not performed, a row or the add; the record is abandoned once. -/
def State.tipCommitError (s : State) (tag : Nat) : State :=
  match s.tipOf tag with
  | none => s
  | some e =>
    let s1 := (s.commitRow e).bump EnTel.tipErrors
    (if (s1.win e.win).failed then s1 else s1.abandon e.win).endRows e.win

/-- TIP_CMT_VALID (R53, R54): TIP_CMT_ERR tells a commit from a write that was not performed. -/
def State.tipCmt (s : State) (tag : Nat) (err : Bool) : State := if err then s.tipCommitError tag else s.tipCommit tag

/-- TIP_COMMIT: TIP_CMT_ERR low. -/
def execTipCommit (tag : BitVec 5) (err : Bool) (s : State) : Host.Outcome State Fault Refusal := done (s.tipCmt tag.toNat err)

/-- TIP_COMMIT_ERROR: TIP_CMT_ERR high. -/
def execTipCommitError (tag : BitVec 5) (err : Bool) (s : State) : Host.Outcome State Fault Refusal := done (s.tipCmt tag.toNat err)

/-! ### Enable and disable (R346, R358) -/

/-- The checks of a write of 1 to WIN_EN (R346). -/
def State.winRefused (s : State) (w : Nat) : Bool :=
  let base := s.rdN (Win.winBase w)
  let stop := base + 256 * s.rdN (Win.winSlots w)
  let ctr := s.rdN (Win.winCtr w)
  base % 256 ≠ 0 || decide (2 ^ 40 < stop) || ctr % 8 ≠ 0 || (decide (base ≤ ctr) && decide (ctr < stop))
    || (s.rd (Win.winKind w) = 1 && (List.range 28).all (fun k => s.rd (Win.list w k) = 0))
    || (s.rd (Win.winKind w) = 2 && s.rdN (Win.winSel w) % 2 ^ 17 = 0 && s.rd (Win.winSelCd w) = 0)
    || (s.rd (Win.winKind w) = 3 && (getField (s.rdN (Win.winSel w)) 16 10 = 0 || decide (512 ≤ getField (s.rdN (Win.winSel w)) 0 10)))

/-- A write of 1 to WIN_EN (R346), or of 0 (R358); true where it is rejected. A window that is on stays on; one that drains
takes no 1 until it is off (log 15). -/
def State.winEnWrite (s : State) (w : Nat) (v : Int) : State × Bool :=
  let r := s.win w
  if v = 1 then
    if s.rd (Win.winEn w) = 1 then (s, false)
    else if s.winRefused w || s.rd (Win.winEn w) = 2 then (s, true)
    else
      ((((s.setWin w {}).wr (Win.nextSeq w) 0).wr (Win.committed w) 0).wr (Win.winDrops w) 0 |>.wr (Win.winEn w) 1, false)
  else if v = 0 then
    ((s.setWin w { r with items := [], waiting := none, behind := false }).wr (Win.winEn w) (if r.issue.isSome then 2 else 0), false)
  else (s, true)

end Sys2Proof.Machine
end

