-- ==== Sys2Proof/Machine/Phase.lean ====
section
/-! DEFINITION. The commands and events of the phase controller (spec/04): the modulator, the rotation, limits, phase faults,
start and stop of a rail, rail faults and the converter. -/

namespace Sys2Proof.Machine

/-! ### The bus voltage (R117) -/

/-- The sum of the VIN_SENSE samples held, and their number (R117: the last four). -/
def State.vinSum (s : State) : Int := s.ibc.vin.foldl (· + ·) 0

/-- VBUS in 250 µV: the mean of the last four VIN_SENSE samples (15.625 µV each) × 50 × IBC_RATIO. -/
def State.vbus (s : State) : Int :=
  if s.ibc.vin = [] then 0 else divOpen 2 (s.vinSum * 50 * s.rd Ibc.ibcRatio) (16 * 16384 * s.ibc.vin.length)

/-! ### What a loop period takes (R149) -/

/-- FSW of R117, taken at the last loop period. -/
def State.fswNow (s : State) (n : Nat) : Int := (s.rail n).fsw.getD (dictDefault (Rail.fsw n))

/-- RIPPLE_GAIN of R118, taken at the last loop period. -/
def State.gainNow (s : State) (n : Nat) : Int := (s.rail n).gain.getD (dictDefault (Rail.rippleGain n))

/-- The modelled AC inductor current of a phase (R118): the model without its mean over the last switching period. -/
def State.acModel (s : State) (p : Nat) : Int := s.modelNow p - (s.ph p).mean

/-- The AC models of the active phases, in 1/256 of 10 mA. -/
def State.rippleSum (s : State) (n : Nat) : Int := (s.actList n).foldl (fun a p => a + s.acModel p) 0

/-- Whether the feedback, the mean of the working sense pairs (15.625 µV) with the synthesised ripple, lies below VREF_LOOP (R116, R118). -/
def State.feedbackLow (s : State) (n : Nat) (vs : Int) : Bool :=
  decide ((vs - (s.loop n).vref) * 400000 + s.gainNow n * s.rippleSum n < 0)

/-! ### Rotation (R119) -/

/-- The numbers from 1 to n − 1 coprime to n; 1 alone for n ≤ 2 (R119). -/
def coprimes (n : Nat) : List Nat := if n ≤ 2 then [1] else (List.range n).filter (fun k => decide (1 ≤ k) && Nat.gcd k n == 1)

/-- The seed of the LFSR: the low 16 bits of SERIAL, 0 replaced by 0xACE1 (R119). -/
def lfsrSeed : Nat := if Config.serial.toNat % 65536 = 0 then 0xACE1 else Config.serial.toNat % 65536

/-- One advance of the LFSR x¹⁶ + x¹⁴ + x¹³ + x¹¹ + 1 (R119), shifting right (log 12). -/
def lfsrNext (v : Nat) : Nat :=
  let b := ((if v.testBit 0 then 1 else 0) + (if v.testBit 2 then 1 else 0) + (if v.testBit 3 then 1 else 0) + (if v.testBit 5 then 1 else 0)) % 2
  v / 2 + b * 32768

/-- Draw a new step where 64 firings have passed (R119). The LFSR advances once per draw: the manual does not say whether the step is
drawn from its value before or after the advance; DESIGN CHOICE (log 98), the value after it. -/
def State.drawStep (s : State) (n : Nat) : State :=
  let r := s.rail n
  if r.count % 64 = 0 then
    let v := lfsrNext (s.lfsr.getD lfsrSeed)
    let l := coprimes (s.actList n).length
    { (s.setRail n { r with step := l.getD (v % l.length) 1 }) with lfsr := some v }
  else s

/-- Whether a phase is ready (R117): not in an on-time, its last off-time at least 20 ns. -/
def State.ready (s : State) (p : Nat) : Bool :=
  !(s.ph p).onTime && (match (s.ph p).offAt with | some t => s.elapsed t 16 | none => true)

/-- The advances of next_phase: the place of the first ready phase, or the last place tried (R119). -/
def rotate (ready : Nat → Bool) (act : List Nat) (step : Nat) : Nat → Nat → Nat × Option Nat
  | 0, ptr => (ptr, none)
  | k + 1, ptr =>
    let q := (ptr + step) % act.length
    let p := act.getD q 0
    if ready p then (q, some p) else rotate ready act step k q

/-- next_phase (R119): the state with the pointer and count advanced, and the phase, or none. -/
def State.nextPhase (s : State) (n : Nat) : State × Option Nat :=
  let act := s.actList n
  if act = [] then (s, none)
  else
    let s1 := s.drawStep n
    let r := s1.rail n
    let res := rotate s1.ready act r.step act.length r.ptr
    (s1.setRail n { r with ptr := res.1, count := if res.2.isSome then r.count + 1 else r.count }, res.2)

/-- Firings of a rail are at least 8 MCLK apart (R116). -/
def State.fireSpaced (s : State) (n : Nat) : Bool := match (s.rail n).lastFire with | some t => s.elapsed t 4 | none => true

/-- The on-time code of R117 for a phase: the quotient to the nearest code, with its trim, held within 16 to 2,047. Where VBUS gives no
divisor above 0 the manual gives no quotient: DESIGN CHOICE (log 98), the largest code. -/
def State.onCode (s : State) (n p : Nat) : Int :=
  let den := s.vinSum * 50 * s.rd Ibc.ibcRatio * s.fswNow n
  if den ≤ 0 then 2047
  else clampI 16 2047 (divNear 4 ((s.loop n).vref * 6400000 * (s.ibc.vin.length * 16384)) den + s.rd (Ph.trim p))

/-- Fire a phase for a code (R116, R117, R132); a switching period ends with its mean (R118), and the on-time takes ILIM_PH (R151). -/
def State.fire (s : State) (n p : Nat) (ton : Int) : State :=
  let s1 := s.syncModel p
  let r := s1.ph p
  let heavy := decide (500 * ((s.actList n).length : Int) ≤ s.rd (Rail.iout n))
  let span : Int := (s.hclk : Int) - r.periodAt
  let s2 := s1.setPh p { r with
    onTime := true, pwm := .high, onAt := s.hclk, modelStart := r.model, zeroArmed := heavy, limHere := false,
    ilim := s.rd (Ph.ilimPh p), mean := if span ≤ 0 then r.mean else divOpen 37 r.area (2 * span), area := 0, periodAt := s.hclk }
  ((s2.setRail n { s2.rail n with lastFire := some s.hclk }).wr (Ph.ton p) ton).bump (Ph.firings p)

/-- Fire the pending trigger where the spacing, the inhibit and a ready phase allow (R116, R118, R128), and no over-voltage clamp stands
(R141). -/
def State.tryFire (s : State) (n : Nat) : State :=
  if (s.rail n).trigger && s.fireSpaced n && !(s.rail n).inhibit && !(s.rail n).ovClamp then
    match s.nextPhase n with
    | (s1, some p) => (s1.setRail n { s1.rail n with trigger := false }).fire n p (s1.onCode n p)
    | (s1, none) => s1
  else s

/-- A trigger (R116, R118, R128), none within 8 MCLK of a firing: it is pending until it fires; one that meets a rail-limit inhibit stays
pending and counts as a limit hit. -/
def State.modTrigger (s : State) (n : Nat) : State :=
  let s1 := s.setRail n { s.rail n with trigger := true }
  if !s.fireSpaced n then s
  else if (s.rail n).inhibit then s1.limitHit n 0xFF else s1.tryFire n

/-- Whether a feedback reading is a trigger of its rail (R116, R118). -/
def State.triggers (s : State) (n : FbIn) : Bool :=
  (s.railState n.rail = 2 || s.regulating n.rail) && s.feedbackLow n.rail n.vs.toNat

/-- MODULATOR_TRIGGER (R116, R118, R128): the mean of the working sense pairs at this edge, whose feedback lies below VREF_LOOP. -/
def execModulatorTrigger (n : FbIn) (s : State) : Host.Outcome State Fault Refusal :=
  done (if s.triggers n then s.modTrigger n.rail else s)

/-- A trigger of a rail that waits in this HCLK comes before a pre-fire of it (R146, R166). -/
def State.triggerFirst (s : State) (n : Nat) : State :=
  if s.comes (fun i => match i with | .modulatorTrigger f => f.rail.val = n && s.triggers f | _ => false) then s.modTrigger n else s

/-- PENDING_TRIGGER_FIRE (R116): a pending trigger is tried again. -/
def execPendingTriggerFire (n : Fin 8) (s : State) : Host.Outcome State Fault Refusal := done (s.tryFire n)

/-! ### On-times and their checks (R126 to R132) -/

/-- The end of the switching period of a phase's last firing (R130): 1/FSW after it. -/
def State.periodEnd (s : State) (p : Nat) : Nat :=
  (s.ph p).onAt + (divCeil 800000 (max 1 (s.fswNow (Config.phRail p)))).toNat

/-- The plausibility check of a firing (R131): ok or the counts; at the eighth failure in a row retirement, cause 1, decided at the end
of that firing's switching period (R130). -/
def State.plausible (s : State) (p : Nat) (ok : Bool) (periodEnd : Nat) : State :=
  let r := s.ph p
  if ok then s.setPh p { r with fails := 0 }
  else
    let s1 := (s.setPh p { r with fails := r.fails + 1 }).bump (Ph.plausFails p)
    if r.fails + 1 = 8 then s1.decideRetireAt p 1 (max s.hclk periodEnd) else s1

/-- The rise of the current a firing should give (R131), times 128 × PH_L, in 10 mA. -/
def State.riseNum (s : State) (p : Nat) (codes : Int) : Int :=
  5 * (s.rd (Rail.vinBus (Config.phRail p)) - s.rd (Rail.vout (Config.phRail p))) * codes

/-- The codes an on-time lasted: the code fired, or the time to the cut. -/
def State.tonActual (s : State) (p : Nat) : Int :=
  if (s.ph p).limHere then min (s.rd (Ph.ton p)) (8 * (((s.ph p).offAt.getD s.hclk : Int) - (s.ph p).onAt)) else s.rd (Ph.ton p)

/-- End the on-time of a phase: the low side takes over (R125), the model is carried on; a phase to be shed leaves the list unless the
floor has risen to the count (R123). -/
def State.endOnTime (s : State) (p : Nat) : State :=
  let n := Config.phRail p
  let s1 := s.syncModel p
  let s2 := s1.setPh p { s1.ph p with onTime := false, pwm := .low, offAt := some s.hclk, shedDue := false }
  if (s.ph p).shedDue && decide (s.rd (Rail.phFloor n) < (s.actList n).length) then s2.standBy p else s2

/-- ON_TIME_END (R117, R126, R131, R132): the on-time ends, a type A phase is checked on its two samples, a type D phase
awaits its first frame. -/
def State.onTimeEnd (s : State) (p : Nat) (i0 i1 : Int) : State :=
  let r0 := s.ph p
  if !r0.onTime && !r0.limHere then s
  else
    let s1 := if r0.onTime then s.endOnTime p else s
    let ton := s1.tonActual p
    let r := s1.ph p
    let s2 := s1.setPh p { r with limHere := false, limRun := if r.limHere then r.limRun else 0, persRun := if r.limHere then r.persRun else 0 }
    if s.rd (Ph.phType p) = 0 then
      let l := s.rd (Ph.phL p)
      let e := s.riseNum p ton
      let s3 := if s.isActive p && decide (128 ≤ ton) then
        s2.plausible p (decide (10 * ((i1 - i0) * (128 * l) - e).natAbs ≤ 3 * e)) (s1.periodEnd p) else s2
      (s3.setPh p { s3.ph p with
        zeroLow := decide (i0.natAbs < 100) && decide (i1.natAbs < 100) }).wr (Ph.iph p) i1
    else (s2.setPh p { s2.ph p with
      zeroArmed := false, checks := r.checks ++ [⟨r.offAt.getD s.hclk, s1.periodEnd p, ton, r.zeroArmed⟩] }).wr (Ph.iph p) (divOpen 5 (s2.modelNow p) 256)

/-- ON_TIME_END. -/
def execOnTimeEnd (p : Fin 96) (imonStart imonEnd : BitVec 14) (s : State) : Host.Outcome State Fault Refusal :=
  done (s.onTimeEnd p imonStart.toInt imonEnd.toInt)

/-- The sum of the currents of a rail's phases (R128). -/
def State.railCurrent (s : State) (n : Nat) : Int := (Config.phasesOf n).foldl (fun a p => a + s.rd (Ph.iph p)) 0

/-- A hit with the rail in REGULATE or SHED and the rail current below half of ILIM_EFF (R130, cause 8). -/
def State.lowHit (s : State) (n : Nat) : Bool := s.regulating n && decide (2 * s.railCurrent n < s.rd (Rail.ilimEff n))

/-- CYCLE_LIMIT_HIT (R127, R130, R139): where the current exceeds the effective ILIM_PH the on-time ends, the hit counts; 16 in a row in RAMP latch SHORT_ILIM, 64 in a row
at less than half of ILIM_EFF retire the phase. -/
def State.cycleLimit (s : State) (p : Nat) (imon : Int) : State :=
  if !(s.ph p).onTime || !s.overIlim p (s.limitCurrent p imon) then s
  else
    let n := Config.phRail p
    let s1 := s.endOnTime p
    let r := s1.ph p
    let pers := if s.lowHit n then r.persRun + 1 else 0
    let s2 := ((s1.setPh p { r with limHere := true, limRun := r.limRun + 1, persRun := pers }).bump (Ph.ilimHits p)).limitHit n p
    if s.railState n = 2 && !(s.rail n).softStop && decide (16 ≤ r.limRun + 1) then s2.latchOn n 2
    else if 64 ≤ pers then s2.decideRetire p 8
    else s2

/-- CYCLE_LIMIT_HIT. -/
def execCycleLimitHit (p : ImonIn) (s : State) : Host.Outcome State Fault Refusal := done (s.cycleLimit p.phase p.imon.toInt)

/-- Take phase currents in ascending order of a list of phases. -/
def State.takeIph (s : State) (ps : List Nat) (l : List (BitVec 14)) : State :=
  forEach (ps.zip l) (fun e s => s.wr (Ph.iph e.1) e.2.toInt) s

/-- The type A and the type D phases of a rail (R65). -/
def typeA (n : Nat) : List Nat := (Config.phasesOf n).filter (fun p => Config.phType p = 0)
def typeD (n : Nat) : List Nat := (Config.phasesOf n).filter (fun p => Config.phType p = 1)

/-- The type D phases report the model (R126). -/
def State.takeModels (s : State) (n : Nat) : State := forEach (typeD n) (fun p s => s.wr (Ph.iph p) (divOpen 5 (s.modelNow p) 256)) s

/-- The rail-limit inhibit follows the rail current (R128). -/
def State.updateInhibit (s : State) (n : Nat) : State :=
  let on := decide (s.rd (Rail.ilimEff n) ≤ s.railCurrent n)
  s.setRail n { s.rail n with inhibit := on, lastInhibit := if on then some s.hclk else (s.rail n).lastInhibit }

/-- RAIL_LIMIT_INHIBIT (R126, R128): the currents of the rail's type A phases at this update; a type D phase's is the model's. -/
def execRailLimitInhibit (n : Fin 8) (iph : List (BitVec 14)) (s : State) : Host.Outcome State Fault Refusal :=
  done (if s.onState n then ((s.takeIph (typeA n) iph).takeModels n).updateInhibit n else s)

/-- ILIM_BURST_END (R129): 100 µs after the burst's last hit. -/
def execIlimBurstEnd (n : Fin 8) (s : State) : Host.Outcome State Fault Refusal :=
  done (s.burstEnd n)

/-- SHED_DWELL_EXPIRY (R123): one phase is shed and the dwell starts again. -/
def execShedDwellExpiry (n : Fin 8) (s : State) : Host.Outcome State Fault Refusal :=
  done (match (s.rail n).shedSince with
    | some t =>
      if s.rd (Rail.shedEn n) = 1 && s.regulating n && s.elapsed t (800 * s.rdN (Rail.shedDwell n))
          && decide (s.rd (Rail.phFloor n) < (s.staying n).length) then
        (s.setRail n { s.rail n with shedSince := some s.hclk }).shedPhase n else s
    | none => s)

/-- ZERO_CURRENT_DECISION (R132): both samples of a firing under load lie below 1 A; 10 ns after the on-time's end. -/
def execZeroCurrentDecision (p : Fin 96) (s : State) : Host.Outcome State Fault Refusal :=
  let r := s.ph p
  done (if s.rd (Ph.phType p) = 0 && r.zeroArmed && r.zeroLow && !r.onTime
      && (match r.offAt with | some t => s.elapsed t 8 | none => false) then
    (s.setPh p { r with zeroArmed := false }).decideRetire p 2 else s)

/-! ### Stage readings and telemetry frames (R68, R133, R134) -/

/-- A stage temperature reading (R134): the warning and shutdown counts over `need` readings in a row. -/
def State.stageReading (s : State) (p : Nat) (t : Int) (need : Nat) : State :=
  if s.rd (Ph.phState p) = 5 then s.wr (Ph.tstg p) t
  else
    let n := Config.phRail p
    let r := s.ph p
    let warn := s.rd StageTh.stWarn
    let w := if warn ≤ t then r.warnRun + 1 else 0
    let c := if t < warn - s.rd StageTh.stHyst then r.coolRun + 1 else 0
    let h := if s.rd StageTh.stShut ≤ t then r.shutRun + 1 else 0
    let s1 := (s.setPh p { r with warnRun := w, coolRun := c, shutRun := h }).wr (Ph.tstg p) t
    if s.retireDue p then s1
    else if need ≤ h then (s1.record (srcRail n) 0x0204 p t 3).decideRetire p 4
    else if !r.derated && decide (need ≤ w) then
      let s2 := (s1.setPh p { s1.ph p with derated := true }).bump (Ph.otWarnings p)
      (when (s.rd (Ph.phState p) = 2) (fun s => s.wr (Ph.phState p) 3) s2).record (srcRail n) 0x0204 p t 1
    else if r.derated && decide (need ≤ c) then
      let s2 := s1.setPh p { s1.ph p with derated := false }
      (when (s.rd (Ph.phState p) = 3) (fun s => s.wr (Ph.phState p) 2) s2).record (srcRail n) 0x0204 p t 2
    else s1

/-- A frame with UV excludes its phase, and the first one without returns it to STANDBY (R133). DESIGN CHOICE, log 120: R133 does not say
what PWM of an EXCLUDED phase does; the model leaves the low side on after its last on-time, and does not put it at high impedance at the
return to STANDBY. -/
def State.exclude (s : State) (p : Nat) (uv : Bool) : State :=
  let n := Config.phRail p
  let st := s.rd (Ph.phState p)
  if uv && (st = 1 || st = 2 || st = 3) then
    let s1 := ((s.setPh p { s.ph p with excludedAt := some s.hclk, shedDue := false }).wr (Ph.phState p) 4).bump (Ph.uvExclusions p)
    (((s1.rung2Phases n).rebuildList n (s.actList n)).reeval (aPhase n)).record (srcRail n) 0x0205 p 1 0 |>.checkPhMin n
  else if !uv && st = 4 then
    let s1 := (s.setPh p { s.ph p with excludedAt := none }).wr (Ph.phState p) 1
    (((s1.rung2Phases n).rebuildList n (s.actList n)).reeval (aPhase n)).record (srcRail n) 0x0205 p 0 0
  else s

/-- The type D plausibility of a firing (R131): IPH within 30 % of the model at the frame's start edge, or 3 A. -/
def framePlausible (m iph : Int) : Bool := decide (10 * (256 * iph - m).natAbs ≤ max (3 * m.natAbs) (10 * 256 * 300))

/-- An accepted frame is the first one after the on-times that ended before its start edge (R131, R132): each of their firings is checked
with it. -/
def State.frameChecks (s : State) (p edge : Nat) (iph : Int) : State :=
  let r := s.ph p
  let ok := framePlausible (s.modelBack p edge) iph
  let s1 := s.setPh p { r with checks := r.checks.filter (fun c => decide (edge ≤ c.off)) }
  forEach (r.checks.filter (fun c => decide (c.off < edge))) (fun c s =>
    let t := if s.isActive p && decide (128 ≤ c.ton) then s.plausible p ok c.periodEnd else s
    if c.armed && decide (iph.natAbs < 100) then t.decideRetire p 2 else t) s1

/-- The frames a gap of SEQ counts as missed (R68): those of slots from 20 µs after EN rose. -/
def State.seqMissed (s : State) (p seq : Nat) : Nat :=
  match (s.ph p).lastSeq, (s.ph p).lastFrame with
  | some q, some t => ((List.range ((seq + 3 - q) % 4)).filter (fun k => decide ((s.ph p).enAt + 16000 ≤ t + 400 * (k + 1)))).length
  | _, _ => 0

/-- The model takes IPH at the frame's start edge (R126) and is carried on to this instant. -/
def State.takeFrameIph (s : State) (p edge : Nat) (iph : Int) : State :=
  let v := 256 * iph + (s.modelNow p - s.modelBack p edge)
  let s1 := s.syncModel p
  s1.setPh p { s1.ph p with model := if s.modelFloor p && v < 0 then 0 else v, modelAt := s.hclk, segs := [] }

/-- An accepted frame (R68, R126, R130, R133, R134). -/
def State.acceptFrame (s : State) (p : Nat) (f : Word32) : State :=
  let v := f.toNat
  let n := Config.phRail p
  let iph := (BitVec.ofNat 14 (getField v 18 14)).toInt
  let seq := getField v 4 2
  let edge := s.hclk - frameHclk
  let s1 := ((s.bump (Ph.tlmMissed p) (s.seqMissed p seq)).frameChecks p edge iph).takeFrameIph p edge iph
  let s2 := (s1.setPh p { s1.ph p with lastSeq := some seq, lastFrame := some s.hclk }).wr (Ph.iph p) (divOpen 5 (s1.ph p).model 256)
  let s3 := when (v.testBit 9) (fun s => (s.bump (Ph.ilimHits p)).limitHit n p) s2
  let s4 := s3.stageReading p (((getField v 10 8 : Int) - 40) * 16) 4
  let s5 := when (v.testBit 8) (fun s => s.decideRetire p 4) s4
  let s6 := when (v.testBit 6) (fun s => s.decideRetire p 5) s5
  s6.exclude p (v.testBit 7)

/-- Keep the hottest stage reading of the round (50A0:04, 05): the highest, the lowest phase on a tie. -/
def State.noteStage (s : State) (p : Nat) (t : Int) : State :=
  let h := s.hk
  if !h.stageSeen || decide (h.stageHot < t) || (h.stageHot = t && decide (p < h.stageHotPh)) then
    { s with hk := { h with stageHot := t, stageHotPh := p, stageSeen := true } }
  else s

/-- Whether a frame of a type D stage is accepted (R68): its CRC, its stop bit and its slot are good. -/
def State.frameTaken (s : State) (p : Nat) (frame : Word32) (stop onSlot : Bool) : Bool :=
  s.rd (Ph.phType p) = 1 && (s.ph p).en && !s.underTest 5 p && stop && onSlot && crc4 frame.toNat = getField frame.toNat 0 4

/-- TLM_FRAME (R68): discarded with a bad CRC, no stop bit or a start edge off its slot; else accepted. A test has the receiver in
loop-back (R449). -/
def execTlmFrame (p : Fin 96) (frame : Word32) (stop onSlot : Bool) (s : State) : Host.Outcome State Fault Refusal :=
  done (if s.rd (Ph.phType p) ≠ 1 || !(s.ph p).en || s.underTest 5 p then s
    else if !s.frameTaken p frame stop onSlot then s.bump (Ph.tlmDiscards p)
    else (s.acceptFrame p frame).noteStage p (((getField frame.toNat 10 8 : Int) - 40) * 16))

/-- TLM_LOST (R68, R130): four slots without an accepted frame, counted from 20 µs after EN rose. DESIGN CHOICE, log 119: R130 does not say
which instants bound the four slots; the model counts 1,600 HCLK from the stop bit of the last accepted frame. -/
def execTlmLost (p : Fin 96) (s : State) : Host.Outcome State Fault Refusal :=
  let r := s.ph p
  let start := max (r.enAt + 16000) (r.lastFrame.getD 0)
  done (if s.rd (Ph.phType p) = 1 && r.en && s.rd (Ph.phState p) ≠ 5 && s.elapsed start 1600 then
    (s.bump (Ph.tlmMissed p) 4).decideRetire p 3 else s)

/-- EXCLUSION_TIMEOUT (R130): the phase has stayed EXCLUDED for 100 µs. -/
def execExclusionTimeout (p : Fin 96) (s : State) : Host.Outcome State Fault Refusal :=
  done (match (s.ph p).excludedAt with | some t => if s.elapsed t 80000 then s.decideRetire p 6 else s | none => s)

/-- PHASE_RETIRE (R135): a decided retirement takes effect. -/
def execPhaseRetire (p : Fin 96) (s : State) : Host.Outcome State Fault Refusal :=
  done (match (s.ph p).decided with
    | some c => if s.retireDue p then when (c = 7) (fun s => s.cause 1) (s.retirePhase p c) else s
    | none => s)

/-- STAGE_DISABLE (R135, R140): EN falls 1 µs after PWM reached high impedance, of a retired phase or of a rail in OFF or
FAULT-LATCH. -/
def execStageDisable (p : Fin 96) (s : State) : Host.Outcome State Fault Refusal :=
  let r := s.ph p
  done (if r.en && r.pwm = .hiZ && s.elapsed r.hiZAt 800 && (s.rd (Ph.phState p) = 5 || !s.onState (Config.phRail p)) then
    s.setPh p { r with en := false } else s)

/-- The negative limit of R128, −10 A, in 1/256 of 10 mA. -/
def negLimit : Int := -256000

/-- Whether the current of a phase, IMON of a type A phase and the model of a type D phase (R126), has fallen below −10 A. -/
def State.belowNeg (s : State) (i : ImonIn) : Bool := decide (s.limitCurrent i.phase i.imon.toInt < negLimit)

/-- NEGATIVE_CURRENT_LIMIT (R128, R141): outside diode emulation, and while the low sides clamp an over-voltage, a phase whose current falls
below −10 A has its low side turned off until the next on-time. -/
def execNegativeCurrentLimit (i : ImonIn) (s : State) : Host.Outcome State Fault Refusal :=
  let p := i.phase
  let r := s.ph p
  done (if (!(s.rail (Config.phRail p)).diode || (s.rail (Config.phRail p)).ovClamp) && !r.onTime && r.pwm = .low && s.belowNeg i then
    (s.syncModel p).setPh p { (s.syncModel p).ph p with pwm := .hiZ, hiZAt := s.hclk } else s)

/-- DIODE_EMULATION_ZERO_CURRENT (R125): PWM goes to high impedance; the phase never sinks. -/
def execDiodeEmulationZeroCurrent (p : Fin 96) (s : State) : Host.Outcome State Fault Refusal :=
  let r := s.ph p
  done (if (s.rail (Config.phRail p)).diode && !(s.rail (Config.phRail p)).ovClamp && !r.onTime && r.pwm = .low then
    (s.syncModel p).setPh p { (s.syncModel p).ph p with pwm := .hiZ, hiZAt := s.hclk, model := 0, modelAt := s.hclk } else s)

/-- RUNG2_RELEASE (R30): no hit in the last 100 µs, 100 ms after a retirement, 1 s after a latch. -/
def execRung2Release (n : Fin 8) (s : State) : Host.Outcome State Fault Refusal :=
  let r := s.rail n
  let past := fun (t : Option Nat) k => match t with | some t => s.elapsed t k | none => true
  done (if r.rung2 && past r.lastHit 80000 && past r.retiredAt 80000000 && past r.latchedAt 800000000 then
    forEach (s.ptsOf n) (fun q s => (s.setRange 2 (aBrush q) none).reeval (aBrush q)) (s.setRail n { r with rung2 := false })
    else s)

/-! ### RAIL_CTRL and phase commands (R136, R137, R140, R144, R145, R151) -/

/-- A RAIL_CTRL command is rejected: RAIL_CTRL reads 3. -/
def State.rejectRail (s : State) (n : Nat) (x : Nat) : State := (s.reject (Rail.railCtrl n) x).wr (Rail.railCtrl n) 3

/-- Entry to PRECHARGE-CHECK (R137): VSTART as the rung 8 demand (FP1 derives its own anew), VIL at VFLOOR, EN on every available phase, the sense
pairs of SNS_MASK, the loop states cleared; PH_AVAIL below PH_MIN latches the rail (R145). -/
def State.precharge (s : State) (n : Nat) : State :=
  let s0 := (s.supersedeWaiting 8 (aVset n)).setDemand 8 (aVset n) (some (s.rd (Rail.vstart n)))
  let s1 := s0.reeval (aVset n)
  let s2 := s1.setRail n { s1.rail n with
    vil := some (s.rd (Rail.vfloor n)), softStop := false, diode := true, sampling := false, okRun := 0, ramp := 0,
    ptr := 0, count := 0, trigger := false, inhibit := false, uvSince := none, ovSince := none, sns := some (s.rd (Rail.snsMask n)) }
  let s3 := (((s2.loopIdle n).wr (Rail.snsWorking n) (s.rd (Rail.snsMask n))).setRailState n 1 0)
  let s4 := forEach (Config.phasesOf n) (fun p s =>
    if s.rd (Ph.phState p) = 5 then s
    else (s.setPh p { s.ph p with
      en := true, enAt := if (s.ph p).en then (s.ph p).enAt else s.hclk, lastFrame := none, lastSeq := none, offAt := none, limRun := 0, persRun := 0,
      model := 0, modelAt := s.hclk, segs := [], area := 0, mean := 0, periodAt := s.hclk, shedDue := false }).activate p) s3
  let s5 : State := { s4 with budget := { s4.budget with derived := tabDel s4.budget.derived (aVset n) } }
  (forEach (s.cdsOf n) (fun c s => s.refreshVf c) ((s5.rebuildList n []).rung2Phases n)).checkPhMin n

/-- Whether the native test keeps a rail off: until it is over (R449); after a failure its scope, and with ST_PARTIAL 0 every rail
(R452). -/
def State.testBars (s : State) (n : Nat) : Bool :=
  s.rd St.stState = 1
    || ((s.rd St.stState = 3 || s.rd St.stState = 4) && (s.rd St.stPartial = 0 || s.start.failScope.testBit n))

/-- RAIL_CTRL ON, or the start sequence (R137, R145): from OFF, with rung 1 inactive, no shutdown test running (R454) and a
native test that bars it not (R449, R452). -/
def State.railOn (s : State) (n : Nat) (x : Nat) : State :=
  if s.railState n = 0 && !s.rung1 && !s.tripComes && s.rd Sd.sdCtrl ≠ 1 && !s.testBars n then (s.precharge n).cmdDone (Rail.railCtrl n) 1 else s.rejectRail n x

/-- The soft stop (R140, R211): the reference begins to fall once every power domain of the rail is off; the domains'
gates are requested (R202). -/
def State.softStop (s : State) (n : Nat) : State :=
  let r := s.rail n
  let s1 := (s.setRail n { r with
    softStop := true, diode := true, ramp := (s.loop n).target * 16, rampNum := -((s.loop n).target * 16),
    rampDen := 200 * s.rd (Rail.tSoftstop n), trigger := false, okRun := 0 }).setRailState n 2 1
  let s2 := (s1.wr (Rail.railCtrl n) 2).dropPulses n
  let s3 := forEach (s.pdsOf n) (fun d s => s.pdSoftOff d) s2
  (forEach (s.cdsOf n) (fun c s => s.requestForce c 2) s3).commitVset n (s3.held (aVset n))

/-- RAIL_CTRL OFF (R140, R145). -/
def State.railOff (s : State) (n : Nat) (x : Nat) : State :=
  if s.onState n && s.rd Sd.sdCtrl ≠ 1 then
    if s.rd (Rail.tSoftstop n) = 0 then (s.immediateOff n 1 0).cmdDone (Rail.railCtrl n) 1
    else if (s.rail n).softStop then s.rejectRail n x else s.softStop n
  else s.rejectRail n x

/-- RAIL_CTRL OFF_IMMEDIATE (R140, R145). -/
def State.railOffNow (s : State) (n : Nat) (x : Nat) : State :=
  if s.onState n && s.rd Sd.sdCtrl ≠ 1 then (s.immediateOff n 1 0).cmdDone (Rail.railCtrl n) 1 else s.rejectRail n x

/-- RAIL_CTRL CLEAR (R144): FAULT-LATCH, 1,000,000 beats after LATCH_TIME. -/
def State.railClear (s : State) (n : Nat) (x : Nat) : State :=
  if s.railState n = 5 && decide (s.rd (Rail.latchTime n) + 1000000 ≤ s.beat) && s.rd Sd.sdCtrl ≠ 1 then
    (((s.setRailState n 0 1).wr (Rail.faultCause n) 0).cmdDone (Rail.railCtrl n) 1).wr (Rail.snsWorking n) (s.snsTaken n)
  else s.rejectRail n x

/-- RETIRE_CLEAR (R136): the retired phases of a rail in OFF are available again; their fault counts are kept. DESIGN CHOICE (log 98), the
manual does not say: DERATED ends at once with no STAGE_OT, and the runs of failed checks, limited firings and hot readings begin anew. -/
def State.retireClear (s : State) (n : Nat) (x : Nat) : State :=
  if s.railState n = 0 then
    let s1 := forEach (Config.phasesOf n) (fun p s =>
      if s.rd (Ph.phState p) = 5 then (s.wr (Ph.phState p) 0).setPh p { s.ph p with fails := 0, limRun := 0, persRun := 0, derated := false } else s) s
    (((s1.rung2Phases n).ilimEff n).reeval (aPhase n)).cause 1
  else s.reject (Rail.retireClear n) x

/-- PH_CTRL 1 (R151): retirement, cause 7. -/
def State.phRetire (s : State) (p : Nat) (x : Nat) : State :=
  let n := Config.phRail p
  let left : Int := s.availOf n - (if s.rd (Ph.phState p) = 4 then 0 else 1)
  if s.rd (Ph.phState p) = 5 || (s.railState n ≠ 0 && decide (left < s.rd (Rail.phMin n))) then s.reject (Ph.phCtrl p) x
  else s.decideRetire p 7

def execRailCtrlOn (n : Fin 8) (s : State) : Host.Outcome State Fault Refusal := done (s.hostRow (fun s => s.railOn n 0))
def execRailCtrlOff (n : Fin 8) (s : State) : Host.Outcome State Fault Refusal := done (s.hostRow (fun s => s.railOff n 0))
def execRailCtrlOffImmediate (n : Fin 8) (s : State) : Host.Outcome State Fault Refusal := done (s.hostRow (fun s => s.railOffNow n 0))
def execRailCtrlClear (n : Fin 8) (s : State) : Host.Outcome State Fault Refusal := done (s.hostRow (fun s => s.railClear n 0))
def execRetireClear (n : Fin 8) (s : State) : Host.Outcome State Fault Refusal := done (s.hostRow (fun s => s.retireClear n 0))
def execPhCtrlRetire (p : Fin 96) (s : State) : Host.Outcome State Fault Refusal := done (s.hostRow (fun s => s.phRetire p 0))

/-! ### Start of a rail and its faults (R137 to R145) -/

/-- PRECHARGE_ENABLE_DONE (R137): 20 µs after EN, the VPRE sampling begins. -/
def execPrechargeEnableDone (n : Fin 8) (s : State) : Host.Outcome State Fault Refusal :=
  done (if s.railState n = 1 && s.elapsed (s.rail n).enteredAt 16000 then s.setRail n { s.rail n with sampling := true } else s)

/-- The current band set from IOUT without hysteresis or dwell, at entry to RAMP (R225). -/
def State.bandFromIout (s : State) (n : Nat) : Nat :=
  ((List.range 3).filter (fun k =>
    decide ((getField (s.rdN (Loop.iThr n)) (8 * k) 8 : Int) * s.rd (Rail.ilimRail n) < 100 * s.rd (Rail.iout n)))).length

/-- Entry into RAMP (R138, R140). -/
def State.enterRamp (s : State) (n : Nat) (vpre : Int) : State :=
  let s0 := s.setLoop n { s.loop n with band := s.bandFromIout n, run := 0 }
  let s1 := s0.setRail n { s.rail n with
    ramp := vpre * 256, rampNum := (s.rd (Rail.vsetRes n) - vpre) * 256, rampDen := 200 * s.rd (Rail.tSoftstart n),
    diode := true, sampling := false, okRun := 0, tRamp := s.rdN (Rail.tSoftstart n) }
  let s2 := (s1.setRailState n 2 0).bump (Rail.railStarts n)
  s2.record (srcRail n) 0x0206 vpre (s2.rd (Rail.railStarts n)) 0

/-- VPRE, the mean of eight samples (R137). -/
def vpreOf (samples : List (BitVec 18)) : Int := divNear 6 (samples.foldl (fun a v => a + (v.toNat : Int)) 0) 128

/-- Whether VPRE is taken from samples in this HCLK (R137). -/
def State.vpreDue (s : State) (n : Nat) (samples : List (BitVec 18)) : Bool :=
  s.railState n = 1 && (s.rail n).sampling && decide (samples.length = 8)

/-- The causes that latch a rail at VPRE (R137): PREBIAS_OV, BUS_UV. -/
def State.vpreCauses (s : State) (n : Nat) (samples : List (BitVec 18)) : Nat :=
  (if s.rd (Rail.vsetMax n) + s.rd (Rail.ovMargin n) < vpreOf samples then 32 else 0) + (if s.rd (Rail.vinBus n) < s.rd Ibc.busUv then 128 else 0)

/-- VPRE_TAKEN (R137): the mean of eight samples; PREBIAS_OV and BUS_UV latch, else RAMP. -/
def State.vpreTaken (s : State) (n : Nat) (samples : List (BitVec 18)) : State :=
  if s.vpreDue n samples then
    let s1 := s.wr (Rail.vpre n) (vpreOf samples)
    if s.vpreCauses n samples ≠ 0 then s1.latch n (s.vpreCauses n samples) else s1.enterRamp n (vpreOf samples)
  else s

def execVpreTaken (n : Fin 8) (samples : List (BitVec 18)) (s : State) : Host.Outcome State Fault Refusal :=
  done (s.vpreTaken n samples)

/-- SHORT_VOUT_CHECK (R139). -/
def execShortVoutCheck (n : Fin 8) (s : State) : Host.Outcome State Fault Refusal :=
  done (if s.shortVout n then s.latchOn n 1 else s)

/-- RAMP_TIMEOUT (R139). -/
def execRampTimeout (n : Fin 8) (s : State) : Host.Outcome State Fault Refusal :=
  done (if s.rampLate n then s.latchOn n 256 else s)

/-- SOFT_STOP_END (R140): the reference has reached 0; the rail is OFF, which is no further immediate off (R202). -/
def execSoftStopEnd (n : Fin 8) (s : State) : Host.Outcome State Fault Refusal :=
  done (if s.railState n = 2 && (s.rail n).softStop && decide ((s.rail n).ramp ≤ 0) then
    ((s.railDown n 0 1).record (srcRail n) 0x0207 0 1 0).cmdDone (Rail.railCtrl n) 1 else s)

/-- OVER_VOLTAGE (R141): an over-voltage of the last loop periods has stood for 80 HCLK. In REGULATE and SHED the low sides clamp first; in
the other on-states the rail latches at once. -/
def execOverVoltage (n : Fin 8) (vout : BitVec 16) (s : State) : Host.Outcome State Fault Refusal :=
  done (if s.ovFault n vout.toNat then
    (if s.regulating n then
      forEach (s.actList n) (fun p s => (s.syncModel p).setPh p { (s.syncModel p).ph p with pwm := .low, onTime := false })
        (s.setRail n { s.rail n with ovClamp := true })
     else s.latchOn n 4) else s)

/-- OV_CLAMP_DONE (R141): VOUT is at or below the set-point. -/
def execOvClampDone (n : Fin 8) (vout : BitVec 16) (s : State) : Host.Outcome State Fault Refusal :=
  done (if (s.rail n).ovClamp && decide ((vout.toNat : Int) ≤ s.rd (Rail.vsetRes n)) then s.latchOn n 4 else s)

/-- Whether a voltage is an under-voltage (R142), in REGULATE or SHED. -/
def State.underVoltage (s : State) (n : Nat) (v : Int) : Bool :=
  s.regulating n && decide (v < s.rd (Rail.vsetRes n) - s.rd (Rail.uvMargin n))

/-- Whether it has stood for UV_TIME without a break (R142). -/
def State.uvFault (s : State) (n : Nat) (v : Int) : Bool :=
  s.underVoltage n v && (match (s.rail n).uvSince with | some t => s.elapsed t (800 * s.rdN (Rail.uvTime n)) | none => false)

/-- UNDER_VOLTAGE (R142): VOUT of the last loop periods has stayed low for UV_TIME. -/
def execUnderVoltage (n : Fin 8) (vout : BitVec 16) (s : State) : Host.Outcome State Fault Refusal :=
  done (if s.uvFault n vout.toNat then s.latchOn n 8 else s)

/-- The number of pairs in a mask. -/
def popcount16 (v : Nat) : Nat := ((List.range 16).filter (fun i => v.testBit i)).length

/-- SENSE_PAIR_DROP (R143): a deviating pair is dropped only while another one works; an open leg always; with none left
the rail latches SENSE. -/
def execSensePairDrop (n : Fin 8) (pair : Fin 16) (openLeg : Bool) (s : State) : Host.Outcome State Fault Refusal :=
  let w := s.rdN (Rail.snsWorking n)
  done (if w.testBit pair && (openLeg || decide (1 < popcount16 w)) then
    let s1 := s.wrBit (Rail.snsWorking n) pair false
    let s2 := s1.record (srcRail n) 0x0208 pair.val (if openLeg then 2 else 1) (s1.rd (Rail.snsWorking n))
    when (decide (s1.rd (Rail.snsWorking n) = 0)) (fun s => s.latchOn n 64) s2
    else s)

/-- Whether VBUS has stayed below BUS_UV for 10 µs (R145). -/
def State.busUvFault (s : State) (n : Nat) : Bool :=
  s.onState n && (match s.ibc.busUvAt with | some t => s.elapsed t 8000 | none => false)

/-- BUS_UV_FAULT (R145). -/
def execBusUvFault (n : Fin 8) (s : State) : Host.Outcome State Fault Refusal :=
  done (if s.busUvFault n then s.latchOn n 128 else s)

/-- The causes of the latches of a rail that wait in this HCLK (R146): a Gong rails-off of the same HCLK loses to them. -/
def State.latchComes (s : State) (n : Nat) : Nat :=
  s.pending.foldl (fun m i => m ||| (match i with
    | .overVoltage k v => if k.val = n && !s.regulating n && s.ovFault n v.toNat then 4 else 0
    | .ovClampDone k v => if k.val = n && (s.rail n).ovClamp && decide ((v.toNat : Int) ≤ s.rd (Rail.vsetRes n)) then 4 else 0
    | .underVoltage k v => if k.val = n && s.uvFault n v.toNat then 8 else 0
    | .busUvFault k => if k.val = n && s.busUvFault n then 128 else 0
    | .shortVoutCheck k => if k.val = n && s.shortVout n then 1 else 0
    | .rampTimeout k => if k.val = n && s.rampLate n then 256 else 0
    | .cycleLimitHit p => if Config.phRail p.phase = n && s.shortIlim p.phase p.imon.toInt then 2 else 0
    | .phaseRetire p =>
      if Config.phRail p = n && s.retireDue p && decide ((s.availOf n : Int) - (if s.rd (Ph.phState p) = 4 then 0 else 1) < s.rd (Rail.phMin n))
      then 16 else 0
    | .vpreTaken k l => if k.val = n && s.vpreDue n l then s.vpreCauses n l else 0
    | .tlmFrame p f stop onSlot =>
      if Config.phRail p = n && s.frameTaken p f stop onSlot && f.toNat.testBit 7 && (s.rd (Ph.phState p) = 1 || s.isActive p)
          && decide ((s.availOf n : Int) - 1 < s.rd (Rail.phMin n)) then 16 else 0
    | .sensePairDrop k q _ => if k.val = n && s.rdN (Rail.snsWorking n) = 2 ^ q.val then 64 else 0
    | _ => 0)) 0

/-- Whether the 20 µs from X have passed and the rails are not yet off (R287). -/
def State.gongOffDue (s : State) : Bool := match s.gong.x with | some x => !s.gong.offDone && s.elapsed x 16000 | none => false

/-! ### Bus converter (R147, R148) -/

/-- A poll without an acknowledge: the third in a row records IBC_LOST (R147). IBC_NACKS counts transactions, of which a poll makes
three: DESIGN CHOICE (log 98), the poll ends at the first one without an acknowledge, so it counts one. DESIGN CHOICE, log 121: R148 does
not say whether such a poll breaks the run of 10 consecutive differing polls; the model keeps the run over it. -/
def State.ibcNack (s : State) : State :=
  let k := s.ibc.nacks + 1
  let s1 : State := { (s.bump Ibc.ibcNacks) with ibc := { s.ibc with nacks := k } }
  (when (k = 3) (fun s => s.record (srcRail 0) 0x020A 3 0 0) s1).wr Ibc.ibcCtrl 2

/-- Whether the next poll is due (R147). -/
def State.pollDue (s : State) : Bool := match s.ibc.pollAt with | some t => s.elapsed t (800000 * s.rdN Ibc.ibcPoll) | none => true

/-- IBC_POLL (R147, R148): IBC_POLL after the last, the readings, and the tenth poll in a row that differs from VIN_SENSE × 50 by more than
3 %. The manual does not say whether further differing polls count: DESIGN CHOICE (log 98), IBC_MISMATCH counts each from the tenth on. -/
def execIbcPoll (resp : Option IbcPoll) (s0 : State) : Host.Outcome State Fault Refusal :=
  let s : State := { s0 with ibc := { s0.ibc with pollAt := some s0.hclk } }
  done (if !s0.pollDue then s0 else match resp with
    | none => s.ibcNack
    | some r =>
      let vin50 := if s.ibc.vin = [] then 0 else divOpen 7 (s.vinSum * 50) (16 * s.ibc.vin.length)
      let bad := decide (3 * vin50 < 100 * ((r.vin.toNat : Int) - vin50).natAbs)
      let k := if bad then s.ibc.mismatch + 1 else 0
      let s1 := ((s.wr Ibc.ibcVin r.vin.toNat).wr Ibc.ibcIin r.iin.toNat).wr Ibc.ibcStatus r.status.toNat
      let s2 : State := { (s1.wr Ibc.ibcCtrl (if s.ibc.on then 1 else 0)) with
        ibc := { s.ibc with nacks := 0, mismatch := k, lostRecorded := bad && (s.ibc.lostRecorded || decide (10 ≤ k)) } }
      if decide (10 ≤ k) then
        when (!s.ibc.lostRecorded) (fun s => s.record (srcRail 0) 0x020B r.vin.toNat vin50 0) (s2.bump Ibc.ibcMismatch)
      else s2)

/-- IBC_ALERT (R147): PMB_ALERT_N has fallen and STATUS_WORD is read. -/
def execIbcAlert (status : BitVec 16) (s : State) : Host.Outcome State Fault Refusal :=
  done ((s.wr Ibc.ibcStatus status.toNat).record (srcRail 0) 0x0209 status.toNat 0 0)

/-- OPERATION 0x80 or 0x00 to the converter (R148). -/
def State.ibcOperation (s : State) (on ack : Bool) : State :=
  if ack then { (s.cmdDone Ibc.ibcCtrl (if on then 1 else 0)) with ibc := { s.ibc with on := on } } else (s.bump Ibc.ibcNacks).wr Ibc.ibcCtrl 2

/-- IBC_CTRL ON (R148). -/
def execIbcCtrlOn (ack : Bool) (s : State) : Host.Outcome State Fault Refusal := done (s.hostRow (fun s => s.ibcOperation true ack))

/-- IBC_CTRL OFF (R148): rejected unless every rail is in OFF or FAULT-LATCH. -/
def State.ibcOff (s : State) (ack : Bool) (x : Nat) : State :=
  if railList.all (fun n => s.railState n = 0 || s.railState n = 5) then s.ibcOperation false ack else s.reject Ibc.ibcCtrl x

def execIbcCtrlOff (ack : Bool) (s : State) : Host.Outcome State Fault Refusal := done (s.hostRow (fun s => s.ibcOff ack 0))

/-! ### Rung 8 demands (R98, R212) -/

/-- A write of VSET_DEMAND (R98, R149): outside its range, reject. -/
def State.vsetDemandWrite (s : State) (n : Nat) (v : Int) (x : Nat) : State :=
  if s.inRange (aVset n) v true then s.demandWrite (aVset n) v else s.reject (Rail.vsetDemand n) x

/-- A write of RATIO_DEMAND (R98, R216): outside MIN_CODE to 64, reject. -/
def State.ratioDemandWrite (s : State) (c : Nat) (v : Int) (x : Nat) : State :=
  if s.inRange (aRatio c) v true then s.demandWrite (aRatio c) v else s.reject (Cd.ratioDemand c) x

/-- A write of PD_DEMAND (R212, R217): other values than 0 and 1, reject. -/
def State.pdDemandWrite (s : State) (d : Nat) (v : Int) (x : Nat) : State :=
  if s.inRange (aPd d) v true then s.demandWrite (aPd d) v else s.reject (Pd.pdDemand d) x

/-- VSET_DEMAND_WRITE. -/
def execVsetDemandWrite (n : Fin 8) (v : BitVec 16) (s : State) : Host.Outcome State Fault Refusal := 
  done (s.hostRow (fun s => s.hostOnce (Rail.vsetDemand n) (fun s => s.vsetDemandWrite n v.toNat 0)))
/-- RATIO_DEMAND_WRITE. -/
def execRatioDemandWrite (cd : Fin 64) (v : Byte) (s : State) : Host.Outcome State Fault Refusal := 
  done (s.hostRow (fun s => s.hostOnce (Cd.ratioDemand cd) (fun s => s.ratioDemandWrite cd v.toNat 0)))
/-- PD_DEMAND_WRITE. -/
def execPdDemandWrite (d : Fin 96) (v : Byte) (s : State) : Host.Outcome State Fault Refusal := done (s.hostRow (fun s => s.hostOnce (Pd.pdDemand d) (fun s => s.pdDemandWrite d v.toNat 0)))

end Sys2Proof.Machine
end

