-- ==== Sys2Proof/Machine/Thermal.lean ====
section
/-! DEFINITION. Temperature sensing and thermal control (spec/09): the housekeeping round, the cross-check, Kettle, board hot
and Gong (rung 1). -/

namespace Sys2Proof.Machine

/-! ### Gong (R285 to R290) -/

/-- No reading (R293). -/
def noReading : Int := -32768

/-- Every actuator that rung 1 freezes or forces. -/
def gongActs : List Nat := railList.map aVset ++ cdList.map aRatio ++ pdList.map aPd

/-- The power domains under the Gong line (R17, R211, R212): ON sequences are reversed, and a transaction that the freeze keeps
from its state completes CLAMPED with source 1. -/
def State.gongPds (s : State) : State :=
  let s1 := forEach pdList (fun d s => if s.rd (Pd.pdState d) = 1 then s.pdReverse d false else s) s
  s1.finishWaiting (fun w => w.txn.act / 4096 = 2 && decide (s1.pdHeading (w.txn.act % 4096) ≠ w.txn.value))
    (fun w => (.clamped, 1, s1.pdHeading (w.txn.act % 4096)))

/-- The rails-off action begins (R287): COOLING; every DCU requests its gate. -/
def State.beginRailsOff (s : State) (cause : Nat) : State :=
  let s1 : State := { s with gong := { s.gong with x := some s.hclk, xCause := cause, offDone := false } }
  forEach cdList (fun c s => s.requestForce c 1) (s1.wr Gong.gongState 2)

/-- The trip (R286, R289). -/
def State.gongTrip (s : State) (ch : Nat) (v : Int) : State :=
  let rails := s.onMask
  let st := s.rd Gong.gongState
  let s1 : State := { s with gong := { s.gong with line := true, outN := false, tripAt := s.hclk, orderly := s.rdN Gong.orderlyMs } }
  let s2 := forEach gongActs (fun a s => s.freezeAct a) s1
  let s3 := forEach ptList (fun p s => s.setRange 1 (aBrush p) (some (1, 1))) s2
  let s4 := (s3.reevalAll (gongActs ++ ptList.map aBrush)).gongPds
  let s5 := ((((s4.wr Gong.tripTime s.beat).wr Gong.tripCh ch).wr Gong.tripTemp v).wr Gong.railsAtTrip rails).bump Gong.trips
  let s6 := forEach railList (fun n s => s.dropPulses n) (s5.record srcGong 0x0401 ch v rails)
  let s7 := (s6.wr Gong.gongState 1).cause 4
  if st = 4 || s.rd Gong.gongMode = 0 then s7.beginRailsOff 2 else s7

/-- A die-diode reading at the comparator (R285). -/
def State.gongReading (s : State) (c : Nat) (v : Int) : State :=
  if s.rd (Ch.chKind c) ≠ 1 || s.rd (Ch.chStatus c) = 3 || decide (v < s.rd Gong.gongLevel) then s
  else
    let s1 : State := { s with gong := { s.gong with hotNow := true } }
    if s.gong.prevHot && (s.rd Gong.gongState = 0 || s.rd Gong.gongState = 4) then s1.gongTrip c v else s1

/-- Whether a write of 1 to GONG_CTRL waits in this HCLK: the rails-off action is then its (R292). -/
def State.railsOffComes (s : State) : Bool :=
  (s.hostUp && s.comes (fun i => match i with | .gongCtrlRailsOff => true | _ => false)) || s.valueComes Gong.gongCtrl 1

/-- GONG_ORDERLY_DEADLINE (R287, R289). -/
def execGongOrderlyDeadline (s : State) : Host.Outcome State Fault Refusal :=
  done (if s.rd Gong.gongState = 1 && !s.railsOffComes && s.elapsed s.gong.tripAt (800000 * s.gong.orderly) then s.beginRailsOff 0 else s)

/-- GONG_CTRL is rejected: it reads 2. -/
def State.rejectGong (s : State) (x : Nat) : State := (s.reject Gong.gongCtrl x).wr Gong.gongCtrl 2

/-- GONG_CTRL 1 (R287, R289): RAILS_OFF, in ORDERLY. -/
def State.gongRailsOffCmd (s : State) (x : Nat) : State :=
  if s.rd Gong.gongState = 1 then (s.beginRailsOff 1).cmdDone Gong.gongCtrl 1 else s.rejectGong x

def execGongCtrlRailsOff (s : State) : Host.Outcome State Fault Refusal := done (s.hostRow (fun s => s.gongRailsOffCmd 0))

/-- GONG_RAILS_OFF (R287): at X + 20 µs every rail in an on-state makes the immediate off, one that latches in the same HCLK latches
(R146); CD_RST_N goes low. -/
def execGongRailsOff (s : State) : Host.Outcome State Fault Refusal :=
  done (match s.gong.x with
    | some x =>
      if s.gongOffDue then
        let s1 := forEach railList (fun n s =>
          if !s.onState n then s else if s.latchComes n = 0 then s.immediateOff n 2 0 else s.latch n (s.latchComes n)) s
        let s2 : State := { s1 with gong := { s1.gong with offDone := true }, start := { s1.start with released := false } }
        s2.record srcGong 0x0402 s.onMask (divOpen 70 ((x : Int) - s.gong.tripAt) 800) s.gong.xCause
      else s
    | none => s)

/-- The hottest die diode of the last round (5090:0E). -/
def State.hottestVal (s : State) : Int := (BitVec.ofNat 16 (getField (s.rdN Gong.hottestDie) 0 16)).toInt

/-- A Gong restart goes through S9 again (R445): from RAILS, READY or RUNNING by SUPPLY, in a pause once it ends; one from RUNNING begins its
own sum of pauses (log 107). -/
def State.restartSupply (s : State) : State :=
  let st := s.rd Start.startState
  if st = 7 then { s with start := { s.start with pausedFrom := 2 } }
  else if 3 ≤ st && st ≤ 5 then (when (decide (st = 5)) (fun s => s.wr Start.pausedUs 0) s).enterSupply
  else s

/-- The restart (R288): rung 1 and the Gong line release; the start sequence runs S9 to S11 for the rails of RAILS_AT_TRIP
that are not latched (R445); the hot history is cleared. -/
def State.gongRestart (s : State) : State :=
  let mask := railMask (fun n => s.bit Gong.railsAtTrip n && s.railState n ≠ 5)
  let s1 : State := { s with
    gong := { s.gong with line := false, outN := true, prevHot := false, hotNow := false, x := none },
    start := { s.start with
      gongRestart := true, scope := if s.rd Start.startState = 5 then mask else railMask (fun n =>
        mask.testBit n || (s.startRails.contains n && s.railState n ≠ 5)),
      ibcAt := none, busOk := false, readyAt := none } }
  let s2 := forEach (gongActs ++ ptList.map aBrush) (fun a s => s.setRange 1 a none) s1
  let s3 := (s2.wr Gong.gongState 4).reevalAll (gongActs ++ ptList.map aBrush)
  let s4 := s3.restartSupply
  (s4.record srcGong 0x0403 mask ((s.beat : Int) - s.rd Gong.tripTime) s.hottestVal).cause 4

/-- The channels of the die diodes. -/
def State.dieChannels (s : State) : List Nat := (List.range 128).filter (fun c => s.rd (Ch.chKind c) = 1)

/-- Whether a round ends at this HCLK and has not been taken (R272). -/
def State.roundDue (s : State) : Bool :=
  s.hk.running && decide (s.hk.startAt < s.hclk) && (s.hclk - s.hk.startAt) % 204800 = 0 && s.hk.roundAt ≠ some s.hclk

/-- Whether a die diode stands above the restart level (R289). -/
def State.dieAbove (s : State) : Bool :=
  s.dieChannels.any (fun c => s.rd (Ch.chStatus c) ≠ 3 && decide (s.rd Gong.restartLevel < s.rd (Ch.value c)))

/-- GONG_CTRL 2 (R288, R289): RESTART, in READY with RESTART_MODE 0; a round end of this HCLK that breaks the conditions wins (R292). -/
def State.gongRestartCmd (s : State) (x : Nat) : State :=
  if s.rd Gong.gongState = 3 && s.rd Gong.restartMode = 0 && !(s.roundDue && s.dieAbove) then s.gongRestart.cmdDone Gong.gongCtrl 1 else s.rejectGong x

def execGongCtrlRestart (s : State) : Host.Outcome State Fault Refusal := done (s.hostRow (fun s => s.gongRestartCmd 0))

/-! ### Channels (R272 to R278, R290) -/

/-- Whether a channel is a diode: die, DRAM stack or spare use. -/
def State.isDiode (s : State) (c : Nat) : Bool := s.rd (Ch.chKind c) = 1 || s.rd (Ch.chKind c) = 2 || s.rd (Ch.chKind c) = 3

/-- SENSORS_OUT (R278) and COVERAGE with its record (R290). -/
def State.updateCoverage (s : State) : State :=
  let out := ((List.range 128).filter (fun c => s.isDiode c && (s.rd (Ch.chStatus c) = 2 || s.rd (Ch.chStatus c) = 3))).length
  let cov := (s.dieChannels.filter (fun c => s.rd (Ch.chStatus c) ≠ 3)).length
  let s1 := (s.wr Kettle.sensorsOut out).wr Gong.coverage cov
  let low := decide (cov < 24)
  if low = s.gong.coverLow then s1
  else
    let s2 := ({ s1 with gong := { s1.gong with coverLow := low } }).record srcGong 0x040A cov (if low then 1 else 0) 0
    if low then s2.cause 8 else s2

/-- A sensor record (R291). -/
def State.recordSensor (s : State) (code c : Nat) (repl : Int) : State := s.record srcGong code c (s.ch c).lastGood repl

/-- The electrical-fault count of a channel (R275): EXCLUDED after two rounds in a row, OK after 1,024 clean ones. -/
def State.faultRound (s : State) (c : Nat) (fault : Bool) : State :=
  let r := s.ch c
  if fault then
    let s1 := s.setCh c { r with faultRun := r.faultRun + 1, cleanRun := 0, faultNow := true, inRound := true }
    if r.faultRun + 1 = 2 && s.rd (Ch.chStatus c) ≠ 3 then
      (((s1.wr (Ch.chStatus c) 3).setCh c { s1.ch c with excluded := true }).recordSensor 0x0404 c noReading).updateCoverage
    else s1
  else
    let s1 := s.setCh c { r with faultRun := 0, cleanRun := r.cleanRun + 1, faultNow := false, inRound := true }
    if s.rd (Ch.chStatus c) = 3 && decide (1024 ≤ r.cleanRun + 1) then
      (((s1.wr (Ch.chStatus c) 0).setCh c { s1.ch c with excluded := false, failRun := 0, passRun := 0 }).recordSensor 0x0406 c
        noReading).updateCoverage
    else s1

/-- The fault of a channel, and what a stage reading means to its phase (R67, R130, R134). -/
def State.stageChannel (s : State) (c : Nat) (fault : Bool) : State :=
  let p := s.rdN (Ch.chSource c)
  if s.rd (Ch.chKind c) ≠ 5 then s
  else if fault then s.decideRetire p 5
  else (s.stageReading p (s.rd (Ch.valueUsed c)) 2).noteStage p (s.rd (Ch.valueUsed c))

/-- The zero and full-scale channels give the converter's next offset and gain (R276). -/
def State.takeReference (s : State) (c : Nat) (i : HkIn) : State :=
  if c = 98 then { s with hk := { s.hk with zero := (i.uv.toNat : Int) } }
  else if c = 99 then { s with hk := { s.hk with full := (i.uv.toNat : Int) } } else s

/-- A reading takes its place (R274, R275): RAW, VALUE, VALUE_MAX, its fault count, VALUE_USED unless the channel is replaced or excluded. -/
def State.takeReading (s : State) (c : Nat) (i : HkIn) : State :=
  let fault := s.hkFault c i
  let v := s.hkRead c i
  let s1 := (((s.wr (Ch.raw c) i.raw.toNat).wr (Ch.value c) v).wr (Ch.lastAt c) s.beat).wr (Ch.valueMax c) (max (s.rd (Ch.valueMax c)) v)
  let s2 := if fault then s1.bump (Ch.faultCount c) else s1.setCh c { s1.ch c with lastGood := v }
  let s3 := s2.faultRound c fault
  let st := s3.rd (Ch.chStatus c)
  if fault || st = 2 || st = 3 then s3 else s3.wr (Ch.valueUsed c) (v + s.rd (Ch.offset c))

/-- What the reading of an anchor diode means to Kettle (R279, R280): a correction in the next HCLK, the first S. -/
def State.anchorReading (s : State) (c : Nat) (fault : Bool) : State :=
  let st := s.rd (Ch.chStatus c)
  let s1 : State := if !fault || st ≠ 0 then { s with hk := { s.hk with correctDue := some c } } else s
  if !(s.hk.s.any (fun e => e.1 = c)) && !fault && st ≠ 3 then
    { s1 with hk := { s1.hk with s := tabPut s1.hk.s c (s.rd (Ch.valueUsed c) * 256) } } else s1

/-- HK_CONVERSION (R272, R274, R275, R280, R285): at its HCLK, the reading of the channel whose slot ends. -/
def State.hkConversion (s : State) (i : HkIn) : State :=
  if !s.hkDue then s
  else
    let c := s.hkChan
    let s0 : State := { s with hk := { s.hk with nextCh := (c + 1) % 128, converted := true, convAt := some s.hclk } }
    if s.rd (Ch.chKind c) = 0 then s0
    else
      let fault := s.hkFault c i
      let s1 := ((s0.takeReading c i).takeReference c i).stageChannel c fault
      let s2 := if s.rd (Ch.chKind c) = 1 && decide (s.anchored c ≠ []) then s1.anchorReading c fault else s1
      if fault then s2 else s2.gongReading c (s.hkRead c i)

/-- HK_CONVERSION. -/
def execHkConversion (i : HkIn) (s : State) : Host.Outcome State Fault Refusal := done (s.hkConversion i)

/-! ### Round end (R184, R276 to R278, R283, R288) -/

/-- The neighbours of a channel that are OK (R277). -/
def State.okNeighbours (s : State) (c : Nat) : List Nat :=
  ((List.range 4).map (fun j => getField (s.rdN (Ch.nb c)) (8 * j) 8)).filter (fun k => decide (k < 128) && s.rd (Ch.chStatus k) = 0)

/-- Kettle's S of a diode, 1/4,096 °C. -/
def State.ktS (s : State) (d : Nat) : Int := tabGet (fun _ => 0) s.hk.s d

/-- The sum of VALUE_USED over channels. -/
def State.sumUsed (s : State) (l : List Nat) : Int := l.foldl (fun a c => a + s.rd (Ch.valueUsed c)) 0

/-- Whether a channel anchors partitions (R277). -/
def State.anchors (s : State) (c : Nat) : Bool := s.rd (Ch.chKind c) = 1 && decide (s.anchored c ≠ [])

/-- The verdict of a round on a diode (R277): none where it is not tested. -/
def State.crossCheck (s : State) (c : Nat) : Option Bool :=
  let nb := s.okNeighbours c
  let k : Int := nb.length
  let v := s.rd (Ch.value c) + s.rd (Ch.offset c)
  if !s.isDiode c || s.rd (Ch.chStatus c) = 3 || !(s.ch c).inRound || (s.ch c).faultNow || nb = [] then none
  else some (decide (k * s.rd Kettle.nbDiff < (k * v - s.sumUsed nb).natAbs)
    && (!s.anchors c || decide (256 * s.rd Kettle.ktResid < (256 * v - s.ktS c).natAbs)))

/-- The replacement of a BROKEN channel (R278), none where it has no OK neighbour. -/
def State.replacement (s : State) (c : Nat) : Option Int :=
  let nb := s.okNeighbours c
  let k : Int := nb.length
  if nb = [] then none
  else if s.anchors c && nb.all s.anchors then
    some (divOpen 71 (256 * s.sumUsed nb + k * s.ktS c - nb.foldl (fun a d => a + s.ktS d) 0) (256 * k))
  else some (divOpen 72 (s.sumUsed nb) k)

/-- A channel's state after its round (R277, R278). `t`: the state at the round end, before any change of it. -/
def State.judgeChannel (s t : State) (c : Nat) : State :=
  let r := s.ch c
  match t.crossCheck c with
  | none => s
  | some true =>
    let k := r.failRun + 1
    let s1 := s.setCh c { r with failRun := k, passRun := 0 }
    if s.rd (Ch.chStatus c) = 2 then s1
    else if s.rd Kettle.suspectN ≤ k then
      ((s1.wr (Ch.chStatus c) 2)).recordSensor 0x0405 c ((t.replacement c).getD noReading)
    else if s.rd (Ch.chStatus c) = 0 then (s1.wr (Ch.chStatus c) 1).bump (Ch.suspectCount c) else s1
  | some false =>
    let s1 := s.setCh c { r with failRun := 0, passRun := r.passRun + 1 }
    if s.rd (Ch.chStatus c) = 1 then s1.wr (Ch.chStatus c) 0
    else if s.rd (Ch.chStatus c) = 2 && decide (1024 ≤ r.passRun + 1) then
      ((s1.wr (Ch.chStatus c) 0).setCh c { s1.ch c with passRun := 0 }).recordSensor 0x0406 c ((t.replacement c).getD noReading)
    else s1

/-- VALUE_USED of a BROKEN channel (R278); an unreplaceable one holds its last value. -/
def State.replaceChannel (s t : State) (c : Nat) : State :=
  if s.rd (Ch.chStatus c) = 2 then (match t.replacement c with | some v => s.wr (Ch.valueUsed c) v | none => s) else s

/-- The warning of a channel (R283): two rounds at or above CH_WARN, two rounds below CH_WARN − 80. -/
def State.warnChannel (s : State) (c : Nat) : State :=
  if s.rd (Ch.chKind c) = 0 then s
  else
    let r := s.ch c
    let v := s.rd (Ch.valueUsed c)
    let w := if s.rd (Ch.chWarn c) ≤ v then r.warnRun + 1 else 0
    let k := if v < s.rd (Ch.chWarn c) - 80 then r.coolRun + 1 else 0
    let s1 := s.setCh c { r with warnRun := w, coolRun := k }
    if !r.warned && decide (2 ≤ w) && s.rd (Ch.chWarn c) ≠ 0x7FFF then
      ((s1.setCh c { s1.ch c with warned := true }).record srcGong 0x0407 c v 1).cause 8
    else if r.warned && decide (2 ≤ k) then (s1.setCh c { s1.ch c with warned := false }).record srcGong 0x0407 c v 0
    else s1

/-- The reference test of a round (R276): the bandgaps agree within 2 mV and lie within 0.600 V ± 6 mV. The round's gain and offset apply from
the next one on; from the second failing round in a row, recorded with the rounds frozen so far, those of the last round that passed. -/
def State.referenceRound (s : State) : State :=
  let a := s.rd (Ch.value 96)
  let b := s.rd (Ch.value 97)
  let bad := decide (8 < (a - b).natAbs) || decide (24 < (a - 2400).natAbs) || decide (24 < (b - 2400).natAbs)
  let now := some (s.hk.zero, s.hk.full)
  if !bad then { s with hk := { s.hk with refBad := 0, refs := now, refsOk := now } }
  else if s.hk.refBad = 0 then { s with hk := { s.hk with refBad := 1, refs := now } }
  else
    ({ s with hk := { s.hk with refBad := s.hk.refBad + 1, refs := s.hk.refsOk } }).record srcGong 0x0409 a b s.hk.refBad

/-- The temperature correction of XCLK (R184), in 0.001 ppm. What COMP_NOW reads while COMP_EN is 0 the spec leaves open: DESIGN CHOICE
(log 99), the last value stays. -/
def State.compensate (s : State) : State :=
  let c := s.rdN Clk.compDiode
  let x := s.rd (Ch.valueUsed c) - 400
  if s.rd Clk.compEn = 1 && s.clk.xclkLive && s.rd Clk.refSrc ≠ 0 && s.rd (Ch.chStatus c) ≠ 2
      && s.rd (Ch.valueUsed c) ≠ noReading then
    let num := s.rd Clk.compC0 * 4096000 + s.rd Clk.compC1 * x * 25600 + s.rd Clk.compC2 * x * x * 160 + s.rd Clk.compC3 * x * x * x
    s.wr Clk.compNow (clampI (-50000) 50000 (divOpen 73 num 4096000))
  else s

/-- The hottest die diode of the round (5090:0E) and the hottest stage (50A0:04, 05). -/
def State.hottestRound (s : State) : State :=
  let best := s.dieChannels.foldl (fun (b : Option Nat) c =>
    if s.rd (Ch.value c) = noReading then b
    else match b with | none => some c | some d => if s.rd (Ch.value d) < s.rd (Ch.value c) then some c else b) none
  let s1 := match best with
    | some c => s.wr Gong.hottestDie (c * 65536 + (s.rd (Ch.value c) % 65536).toNat : Nat)
    | none => s
  let s2 := if s.hk.stageSeen then (s1.wr StageTh.stHottest s.hk.stageHot).wr StageTh.stHottestPh s.hk.stageHotPh else s1
  { s2 with hk := { s2.hk with stageSeen := false } }

/-- The restart conditions of a round (R288). -/
def State.restartOk (s : State) : Bool :=
  s.dieChannels.all (fun c => s.rd (Ch.chStatus c) = 3
    || (s.rd (Ch.value c) ≠ noReading && decide (s.rd (Ch.value c) ≤ s.rd Gong.restartLevel)))
    && decide (s.rd Gong.tripTime + s.rd Gong.restartMin ≤ s.beat)

/-- Gong at a round end (R288, R289). -/
def State.gongRound (s : State) : State :=
  let s1 : State := { s with gong := { s.gong with prevHot := s.gong.hotNow, hotNow := false } }
  let st := s.rd Gong.gongState
  if st = 2 && s.gong.offDone && s.restartOk then
    (let s2 := s1.wr Gong.gongState 3
     if s.rd Gong.restartMode = 1 then s2.gongRestart else s2)
  else if st = 3 && s.dieAbove then
    s1.wr Gong.gongState 2
  else if st = 3 && s.rd Gong.restartMode = 1 then s1.gongRestart
  else s1

/-- HK_ROUND_END (R272, R276 to R278, R283, R288), at the HCLK at which the round's last reading stands. -/
def State.hkRoundEnd (s : State) : State :=
  if !s.roundDue then s
  else
    let chans := List.range 128
    let s1 := (s.bump Kettle.hkRounds).referenceRound
    let s2 := forEach chans (fun c t => t.judgeChannel s c) s1
    let s3 := forEach chans (fun c t => t.replaceChannel s c) s2
    let s4 := forEach chans (fun c t => t.warnChannel c) s3
    let s5 := (s4.updateCoverage.compensate).hottestRound
    let s6 : State := { s5 with
      chs := s5.chs.map (fun e => (e.1, { e.2 with inRound := false })),
      hk := { s5.hk with converted := false, roundAt := some s.hclk, missLast := s5.hk.missRound, missRound := [] } }
    s6.gongRound

/-- Whether the reading of this HCLK still waits: the round ends after it. -/
def State.readingComes (s : State) : Bool := s.hkDue && s.comes (fun i => match i with | .hkConversion _ => true | _ => false)

/-- HK_ROUND_END; queued before the HCLK's reading, the round ends with the HCLK. -/
def execHkRoundEnd (s : State) : Host.Outcome State Fault Refusal := done (if s.readingComes then s else s.hkRoundEnd)

/-! ### Kettle (R279, R280) -/

/-- TAMB: VALUE_USED of the ambient channel. -/
def State.tamb (s : State) : Int := s.rd (Ch.valueUsed (s.rdN Kettle.ktAmbCh))

/-- HOT of a partition, 1/4,096 °C. -/
def State.hot (s : State) (p : Nat) : Int := s.ktS (s.ktAnchor p) + tabGet (fun _ => 0) s.hk.f p

/-- Whether Kettle updates at this HCLK, a multiple of 1,600 from hub reset, and has not (R279). -/
def State.kettleDue (s : State) : Bool :=
  s.hk.running && (s.hclk - s.start.hubAt) % 1600 = 0 && s.hk.updatedAt ≠ some s.hclk

/-- KETTLE_UPDATE (R279): the fast and slow states of an interval of 2 µs. -/
def State.kettleUpdate (s : State) : State :=
  let e := fun p => (s.rd (PEn.peEst p) - tabGet (fun _ => 0) s.hk.eLast p) % 2 ^ 64
  let f := ptList.foldl (fun t p => tabPut t p (tabGet (fun _ => 0) t p
    + divOpen 74 ((s.ktRf p * e p * 500 - 4096 * tabGet (fun _ => 0) t p) * 2000) (4096 * s.ktTauF p))) s.hk.f
  let ds := (List.range 32).filter (fun d => s.anchors d)
  let start := fun (t : List (Nat × Int)) d =>
    if t.any (fun x => x.1 = d) || s.rd (Ch.chStatus d) ≠ 3 then t else tabPut t d (s.tamb * 256)
  let sl := ds.foldl (fun t d =>
    let t1 := start t d
    if t1.any (fun x => x.1 = d) then
      let pd := (s.anchored d).foldl (fun a p => a + e p) 0
      let now := tabGet (fun _ => 0) t1 d
      tabPut t1 d (now + divOpen 75 (((s.tamb * 256 - now) * 4096 + s.ktRs d * pd * 500) * 2) (4096 * s.ktTauS d))
    else t1) s.hk.s
  let h : HkInt := { s.hk with
    updatedAt := some s.hclk, f := f, s := sl, pw := ptList.foldl (fun t p => tabPut t p (e p)) s.hk.pw,
    eLast := ptList.foldl (fun t p => tabPut t p (s.rd (PEn.peEst p))) s.hk.eLast,
    pwSum := ptList.foldl (fun t p => tabPut t p (tabGet (fun _ => 0) t p + e p)) s.hk.pwSum, pwCount := s.hk.pwCount + 1 }
  let s1 : State := { s with hk := h }
  { s1 with
    hk := { h with
      hotMax := ptList.foldl (fun t p => tabPut t p (max (tabGet (fun _ => s1.hot p) t p) (s1.hot p))) h.hotMax } }

/-- KETTLE_UPDATE. -/
def execKettleUpdate (s : State) : Host.Outcome State Fault Refusal := done (if s.kettleDue then s.kettleUpdate else s)

/-- KETTLE_CORRECTION (R280): in the HCLK after an anchor diode's reading. -/
def State.kettleCorrection (s : State) (d : Nat) : State :=
  let h := s.hk
  let r := (s.rd (Ch.value d) + s.rd (Ch.offset d)) * 256 - s.ktS d
  let h1 : HkInt := { h with correctDue := none, resid := tabPut h.resid d r }
  if s.rd (Ch.chStatus d) = 0 then
    let miss := decide (256 * s.rd Kettle.ktResid < r.natAbs)
    { s with
      hk := { h1 with
        s := tabPut h.s d (s.ktS d + divOpen 76 (r * s.rd Kettle.ktKg) 256),
        openLoop := h.openLoop.filter (fun x => x ≠ d),
        miss := if miss then tabPut h.miss d (tabGet (fun _ => 0) h.miss d + 1) else h.miss,
        missRound := if miss then h.missRound ++ [d] else h.missRound } }
  else { s with hk := { h1 with openLoop := if h.openLoop.contains d then h.openLoop else h.openLoop ++ [d] } }

/-- The correction that is due: not in the HCLK of the reading (R280). -/
def State.correctNow (s : State) : State :=
  match s.hk.correctDue with | some d => if s.hk.convAt = some s.hclk then s else s.kettleCorrection d | none => s

/-- KETTLE_CORRECTION. -/
def execKettleCorrection (s : State) : Host.Outcome State Fault Refusal := done s.correctNow

/-- What the HCLK brings to the thermal hardware whatever is commanded (R272, R279, R280): a correction, an update and a round end that no
command has made (log 3). -/
def State.thermalTick (s : State) : State := (if s.kettleDue then s.correctNow.kettleUpdate else s.correctNow).hkRoundEnd

/-! ### Board hot (R284) -/

/-- BOARD_HOT_ASSERT (R284). -/
def execBoardHotAssert (s : State) : Host.Outcome State Fault Refusal :=
  done (if s.rd Kettle.bhState = 1 then s
    else ((s.wr Kettle.bhState 1).record srcGong 0x0408 1 s.hottestVal (s.rd Kettle.bhAct)).cause 8)

/-- BOARD_HOT_RELEASE (R284). -/
def execBoardHotRelease (s : State) : Host.Outcome State Fault Refusal :=
  done (if s.rd Kettle.bhState = 0 then s
    else ({ (s.wr Kettle.bhState 0) with budget := { s.budget with bhZeroAt := s.hclk } }).record srcGong 0x0408 0 s.hottestVal
      (s.rd Kettle.bhAct))

end Sys2Proof.Machine
end

