-- ==== Sys2Proof/Machine/Budget.lean ====
section
/-! DEFINITION. Operating points, phase IDs, the learner, the allocation and the power budget (spec/08), with the thermal ceilings
of R282. Power is in mW as exact rationals; what a sub shows of it is rounded where the manual states no rounding (log 7). -/

namespace Sys2Proof.Machine

/-- The nearest integers of an exact quantity, by the open rounding of a site. -/
def ratOpen (site : Nat) (x : Rat) : Int := divOpen site x.num x.den

/-! ### Groups and points (R244 to R246) -/

def groupList : List Nat := List.range 8
/-- Rail A of a group, 0xFF where the group is absent (6000:20). -/
def State.groupA (s : State) (g : Nat) : Nat := getField (s.rdN (Budget.groupRails g)) 0 8
/-- Rail B of a group, 0xFF where there is none. -/
def State.groupB (s : State) (g : Nat) : Nat := getField (s.rdN (Budget.groupRails g)) 8 8
/-- The rails of a group. -/
def State.groupRailList (s : State) (g : Nat) : List Nat := railList.filter (fun n => n = s.groupA g || n = s.groupB g)
/-- The domains of a group. -/
def State.groupCds (s : State) (g : Nat) : List Nat := cdList.filter (fun c => (s.groupRailList g).contains (s.rdN (Cd.cdRail c)))
/-- The partitions of a group. -/
def State.groupPts (s : State) (g : Nat) : List Nat := ptList.filter (fun p => s.rdN (Part.ptGroup p) = g)
/-- The group of a rail, none where it supplies no clock domain. -/
def State.railGroup (s : State) (n : Nat) : Option Nat := groupList.find? (fun g => (s.groupRailList g).contains n)

/-- Points of a group (R245): the valid ones are contiguous from 0, as many in each mode. -/
def State.points (s : State) (g : Nat) : Nat := ((List.range 32).takeWhile (fun k => (s.opPoint g 0 k).valid)).length
/-- A point index above the highest valid one means that one (R246). -/
def State.clampPoint (s : State) (g k : Nat) : Nat := min k (s.points g - 1)

/-- The union of the precision sets of a group's domains (R246). -/
def State.groupSet (s : State) (g : Nat) : Nat := (s.groupCds g).foldl (fun a c => a ||| s.rdN (Snare.precSet c)) 0

/-- The set-point of rail A or B of a group at a point (R246), 250 µV. -/
def State.pointVset (s : State) (g k : Nat) (b : Bool) : Nat :=
  (modesOf (s.groupSet g)).foldl (fun a m =>
    let x := s.opPoint g m (s.clampPoint g k)
    max a (if b then x.vb else x.va)) 0

/-- The set-point of a rail of a group at a point. -/
def State.railVset (s : State) (g k n : Nat) : Nat := s.pointVset g k (n = s.groupB g && n ≠ s.groupA g)

/-- code(d, k) of R246 and R261, a CODE of 0 evaluated at a set-point of rail A. -/
def State.codeAt (s : State) (g c k : Nat) (va : Int) : Int :=
  let kk := s.clampPoint g k
  max (s.rd (Cd.minCode c)) ((modesOf (s.rdN (Snare.precSet c))).foldl (fun a m =>
    let code := (s.opPoint g m kk).code
    min a (if code = 0 then s.vfCodeAt c (2 ^ m) va else code)) 64)

/-- code(d, k) at the point's own set-point. -/
def State.pointCode (s : State) (g c k : Nat) : Int := s.codeAt g c k (s.pointVset g k false)

/-! ### Phase IDs in force (R251) -/

/-- The preferred point of a list of partitions for a group, none where every field is 0xFF. -/
def State.prefPoint (s : State) (pid : Nat → Nat) (pts : List Nat) (g : Nat) : Option Nat :=
  pts.foldl (fun a p =>
    let f := getField (s.rdN (Pid.prefOp (pid p))) (8 * g) 8
    if f = 0xFF then a else match a with | none => some f | some x => some (max x f)) none

/-- OPD[g] over the partitions of a group. -/
def State.opd (s : State) (pid : Nat → Nat) (g : Nat) : Option Nat := s.prefPoint pid (s.groupPts g) g

/-- PREF_PD and PD_OPINION bits of a phase ID for a power domain (6200:06 to 09). -/
def State.pdPref (s : State) (q d : Nat) : Bool := if d < 64 then s.bit (Pid.prefPdLo q) d else s.bit (Pid.prefPdHi q) (d - 64)
def State.pdOpinion (s : State) (q d : Nat) : Bool :=
  if d < 64 then s.bit (Pid.pdOpinionLo q) d else s.bit (Pid.pdOpinionHi q) (d - 64)

/-- The set-point demands of the phase IDs in force. -/
def State.vsetDemands (s : State) (pid : Nat → Nat) : List (Nat × Int) :=
  (groupList.map (fun g => match s.opd pid g with
    | some k => (s.groupRailList g).map (fun n => (aVset n, (s.railVset g k n : Int)))
    | none => [])).flatten

/-- The ratio demands: each domain's code at its own preferred point, at the group's demanded set-point. -/
def State.ratioDemands (s : State) (pid : Nat → Nat) : List (Nat × Int) :=
  (groupList.map (fun g => match s.opd pid g with
    | some kg => (s.groupCds g).filterMap (fun c => match s.prefPoint pid (s.ptsOfCd c) g with
        | some k => some (aRatio c, s.codeAt g c k (s.pointVset g kg false))
        | none => none)
    | none => [])).flatten

/-- The power-domain demands: ON if any opinion says ON, OFF if all say OFF. -/
def State.pdDemands (s : State) (pid : Nat → Nat) : List (Nat × Int) :=
  pdList.filterMap (fun d =>
    let l := (s.ptsOfCd (s.rdN (Pd.pdCd d))).filter (fun p => s.pdOpinion (pid p) d)
    if l = [] then none else some (aPd d, if l.any (fun p => s.pdPref (pid p) d) then 1 else 0))

/-- The rung 8 demands of the phase IDs in force (R251). -/
def State.derivedFor (s : State) (pid : Nat → Nat) : List (Nat × Int) :=
  (s.vsetDemands pid ++ s.ratioDemands pid ++ s.pdDemands pid).foldl (fun t e => tabPut t e.1 e.2) []

/-- The actuators whose derived demand changes, with the new demand (R251): a direct write stands until then. -/
def derivedChanges (old new : List (Nat × Int)) : List (Nat × Option Int) :=
  let acts := ((old.map (fun e => e.1)) ++ new.map (fun e => e.1)).eraseDups
  (acts.map (fun a => (a, (new.find? (fun e => e.1 = a)).map (fun e => e.2)))).filter
    (fun e => decide ((old.find? (fun x => x.1 = e.1)).map (fun x => x.2) ≠ e.2))

/-! ### Predicted power (R257) -/

/-- V / VN of a partition at a set-point of its rail. -/
def State.vRel (s : State) (p : Nat) (v : Int) : Rat := (v : Rat) / (s.rd (Rail.vstart (s.ptRail p)) : Rat)
/-- The dynamic part of pred, mW. -/
def State.dynAt (s : State) (p q : Nat) (v c : Int) : Rat := (s.learnD q p : Rat) * s.vRel p v ^ 2 * (c : Rat) / 64
/-- The leakage part of pred, mW. -/
def State.leakAt (s : State) (p : Nat) (v : Int) : Rat := (s.rd (Part.ptLeakMw p) : Rat) * s.vRel p v ^ 3
/-- pred(p, q, V, c), mW (R257). -/
def State.predAt (s : State) (p q : Nat) (v c : Int) : Rat := s.dynAt p q v c + s.leakAt p v
/-- The set-point that point k gives a partition. -/
def State.ptVset (s : State) (p k : Nat) : Int := s.railVset (s.rdN (Part.ptGroup p)) k (s.ptRail p)
/-- The code that point k gives a partition. -/
def State.ptCode (s : State) (p k : Nat) : Int := s.pointCode (s.rdN (Part.ptGroup p)) (s.rdN (Part.ptCd p)) k
/-- pred(p, q, k). -/
def State.pred (s : State) (p q k : Nat) : Rat := s.predAt p q (s.ptVset p k) (s.ptCode p k)

/-! ### Allocation (R261) -/

/-- A sum over partitions. -/
def sumRat (l : List Nat) (f : Nat → Rat) : Rat := l.foldl (fun a p => a + f p) 0

/-- The class multiplier of a role (R263). -/
def roleMult (role cls : Nat) : Nat :=
  match role, cls with
  | 1, 0 => 4 | 1, 1 => 1 | 1, 2 => 2 | 1, 3 => 2
  | 2, 0 => 2 | 2, 1 => 8 | 2, 2 => 4 | 2, 3 => 4
  | 3, 0 => 1 | 3, 1 => 2 | 3, 2 => 8 | 3, 3 => 4
  | _, _ => 1

/-- The switch lead of a role, beats (R263). -/
def roleLead (role : Nat) : Nat := match role with | 1 => 5 | 2 => 20 | 3 => 5 | _ => 0

/-- w[p] of R261, by the role that the period took (R260). -/
def State.weight (s : State) (p : Nat) : Nat :=
  s.rdN (Part.ptWeight p) * roleMult s.budget.role (s.rdN (Part.ptClass p))

/-- A value of a table of partitions. -/
def ratOf (t : List (Nat × Rat)) (p : Nat) : Rat := tabGet (fun _ => 0) t p

/-- One round of the sharing above the floors. -/
def State.shareRound (s : State) (want : List (Nat × Rat)) (g : List (Nat × Rat)) (left : Rat) : List (Nat × Rat) × Rat :=
  let opens := ptList.filter (fun p => decide (ratOf g p < ratOf want p))
  let share := left / sumRat opens (fun p => s.weight p)
  opens.foldl (fun (a : List (Nat × Rat) × Rat) p =>
    let add := min (share * s.weight p) (ratOf want p - ratOf a.1 p)
    (tabPut a.1 p (ratOf a.1 p + add), a.2 - add)) (g, left)

/-- The sharing loop: each round closes a partition or spends what is left. -/
def State.shareLoop (s : State) (want : List (Nat × Rat)) : Nat → List (Nat × Rat) → Rat → List (Nat × Rat)
  | 0, g, _ => g
  | n + 1, g, left =>
    if decide (0 < left) && ptList.any (fun p => decide (ratOf g p < ratOf want p)) then
      let r := s.shareRound want g left
      s.shareLoop want n r.1 r.2
    else g

/-- The cut below the floors, lowest weight first. -/
def State.cutLoop (s : State) (dyn0 : List (Nat × Rat)) (g : List (Nat × Rat)) (left : Rat) : List (Nat × Rat) :=
  ((List.range 121).foldl (fun (a : List (Nat × Rat) × Rat) v =>
    let grp := ptList.filter (fun p => s.weight p = v)
    if decide (a.2 < 0) && grp ≠ [] then
      let room := sumRat grp (fun p => ratOf dyn0 p * 15 / 16)
      let cut := min (-a.2) room
      (grp.foldl (fun t p => tabPut t p (ratOf t p - cut * (ratOf dyn0 p * 15 / 16) / room)) a.1, a.2 + cut)
    else a) (g, left)).1

/-- What an allocation gives (R261). -/
structure Alloc where
  want : List (Nat × Rat)
  base : List (Nat × Rat)
  grant : List (Nat × Rat)
  short : Rat
  k : List (Nat × Nat)
  code : List (Nat × Int)
  brush : List (Nat × Int)

/-- A cap of 0xFFFF_FFFF is none. -/
def capRat (v : Int) (x : Rat) : Rat := if v = 0xFFFFFFFF then x else min x v

/-- The current of a rail at a point, in 10 mA: mW over 250 µV. -/
def State.pointCurrent (s : State) (pid : Nat → Nat) (g k n : Nat) : Rat :=
  400 * sumRat (s.ptsOf n) (fun p => s.pred p (pid p) k) / (s.railVset g k n : Rat)

/-- top(g): OPD[g], or the highest valid point. -/
def State.topPoint (s : State) (pid : Nat → Nat) (g : Nat) : Nat :=
  match s.opd pid g with | some k => s.clampPoint g k | none => s.points g - 1

/-- ILIM_EFF of a rail as the period start read it (R261). -/
def State.periodIlim (s : State) (n : Nat) : Int := tabGet (fun n => s.rd (Rail.ilimEff n)) s.budget.ilim n

/-- PT_CAP_MW of a partition as the period took it (R260). -/
def State.periodCap (s : State) (p : Nat) : Int := tabGet (fun p => s.rd (Part.ptCapMw p)) s.budget.ptCap p

/-- The point of a group under its grants. -/
def State.choosePoint (s : State) (pid : Nat → Nat) (grant : List (Nat × Rat)) (g : Nat) : Nat :=
  (List.range (s.topPoint pid g + 1)).foldl (fun a k =>
    if k = 0 then a
    else if decide (sumRat (s.groupPts g) (fun p => s.pred p (pid p) k) ≤ sumRat (s.groupPts g) (ratOf grant))
        && (s.groupRailList g).all (fun n => decide (s.pointCurrent pid g k n * 100 ≤ (s.rd Budget.iMargin * s.periodIlim n : Int)))
      then k else a) 0

/-- The code of a domain under its grants. -/
def State.chooseCode (s : State) (pid : Nat → Nat) (grant : List (Nat × Rat)) (g c k : Nat) : Int :=
  (List.range 64).foldl (fun a _ =>
    if decide (s.pointCode g c 0 < a)
        && decide (sumRat (s.ptsOfCd c) (ratOf grant) < sumRat (s.ptsOfCd c) (fun p => s.predAt p (pid p) (s.ptVset p k) a))
      then a - 1 else a) (s.pointCode g c k)

/-- allocate() of R261. A dynamic part of 0 below its excess leaves the Brush code open. -/
def State.allocate (s : State) (pid : Nat → Nat) : Alloc :=
  let corr : Rat := (s.rd Budget.corrMw : Rat)
  let avail : Rat := (s.rd Budget.capEff : Rat) * ((100 - s.rd Budget.capMargin : Int) : Rat) / 100 - (s.rd Budget.pFixed : Rat) - corr
  let tab := fun (f : Nat → Rat) => ptList.map (fun p => (p, f p))
  let want := tab (fun p => capRat (s.rd (Part.thermCeilMw p)) (capRat (s.periodCap p)
    (s.pred p (pid p) (s.topPoint pid (s.rdN (Part.ptGroup p))))))
  let base := tab (fun p => min (s.pred p (pid p) 0) (ratOf want p))
  let dyn0 := tab (fun p => s.dynAt p (pid p) (s.ptVset p 0) (s.ptCode p 0))
  let left := avail - sumRat ptList (ratOf base)
  let grant := if decide (0 ≤ left) then s.shareLoop want 129 base left else s.cutLoop dyn0 base left
  let ks := groupList.map (fun g => (g, s.choosePoint pid grant g))
  let kOf := fun g => tabGet (fun _ => 0) ks g
  let codes := (groupList.map (fun g => (s.groupCds g).map (fun c => (c, s.chooseCode pid grant g c (kOf g))))).flatten.foldl
    (fun t e => tabPut t e.1 e.2) ([] : List (Nat × Int))
  let cOf := fun c => tabGet (fun _ => 64) codes c
  let brush := ptList.map (fun p =>
    let g := s.rdN (Part.ptGroup p)
    let c := s.rdN (Part.ptCd p)
    let ex := s.predAt p (pid p) (s.ptVset p (kOf g)) (cOf c) - ratOf grant p
    if kOf g = 0 && cOf c = s.pointCode g c 0 && decide (0 < ex) then
      (p, if ratOf dyn0 p = 0 then clampI 1 16 (s.freeVal 80) else max 1 (16 * (ratOf dyn0 p - ex) / ratOf dyn0 p).floor)
    else (p, 16))
  ⟨want, base, grant, max 0 (-left), ks, codes, brush⟩

/-- The predicted die power (R260) at the allocated points and Brush codes. -/
def State.predictedOf (s : State) (pid : Nat → Nat) (a : Alloc) : Int :=
  ratOpen 81 ((s.rd Budget.pFixed : Rat) + (s.rd Budget.corrMw : Rat) + sumRat ptList (fun p =>
    let k := tabGet (fun _ => 0) a.k (s.rdN (Part.ptGroup p))
    let v := s.ptVset p k
    s.dynAt p (pid p) v (tabGet (fun _ => 64) a.code (s.rdN (Part.ptCd p))) * ((tabGet (fun _ => 16) a.brush p : Int) : Rat) / 16
      + s.leakAt p v))

/-- The lowest PH_RATING among the non-retired phases of a rail. -/
def State.lowRating (s : State) (n : Nat) : Int :=
  ((Config.phasesOf n).filter (fun p => s.rd (Ph.phState p) ≠ 5)).foldl (fun a p => min a (s.rd (Ph.phRating p))) 0xFFFF

/-- The phase floor of a rail (R262). -/
def State.phaseFloor (s : State) (pid : Nat → Nat) (g k n : Nat) : Int :=
  clampI 1 (Config.phCount n)
    (s.pointCurrent pid g k n * 100 / ((s.rd (Rail.addHi n) * s.lowRating n : Int) : Rat)).ceil

/-- The rung 6 contributions of an allocation (R262). -/
def State.rung6Of (s : State) (pid : Nat → Nat) (a : Alloc) : List (Nat × Contrib) :=
  (groupList.map (fun g =>
    let k := tabGet (fun _ => 0) a.k g
    (s.groupRailList g).map (fun n => (aVset n, ⟨some (s.minCode (aVset n), (s.railVset g k n : Int)), none⟩))
      ++ (s.groupRailList g).map (fun n => (aPhase n, ⟨none, some (s.phaseFloor pid g k n)⟩))
      ++ (s.groupCds g).map (fun c => (aRatio c, ⟨some (s.minCode (aRatio c), tabGet (fun _ => 64) a.code c), none⟩)))).flatten
    ++ a.brush.map (fun e => (aBrush e.1, ⟨some (1, e.2), none⟩))

/-- Bit n of HW_AT_OP0 (R262). -/
def State.atOp0 (s : State) (a : Alloc) (n : Nat) : Bool :=
  match s.railGroup n with
  | some g => tabGet (fun _ => 0) a.k g = 0
      && (s.cdsOf n).all (fun c => decide (tabGet (fun _ => 64) a.code c = s.pointCode g c 0))
  | none => false

/-- What an allocation shows and hands to hardware beside the ladder (R261, R262). -/
def State.allocShow (s : State) (pid : Nat → Nat) (a : Alloc) : AllocShow :=
  let pts := fun (site : Nat) (t : List (Nat × Rat)) => ptList.map (fun p => (p, ratOpen site (ratOf t p)))
  { want := pts 82 a.want, floor := pts 83 a.base, grant := pts 84 a.grant
    brush := ptList.map (fun p => (p, tabGet (fun _ => 16) a.brush p))
    cap := railList.map (fun n => (n,
      ratOpen 85 (sumRat (s.ptsOf n) (ratOf a.grant) * ((100 + s.rd Budget.hwHeadroom : Int) : Rat) / 100)))
    op0 := railMask (s.atOp0 a), short := ratOpen 86 a.short, predicted := s.predictedOf pid a }

/-- An allocation takes effect beside the ladder. -/
def State.showAlloc (s : State) (pid : Nat → Nat) (a : Alloc) : State :=
  let x := s.allocShow pid a
  ((s.showCaps x).showGrants x).useFree

/-! ### Phase-ID switches (R251, R252, R254, R255) -/

/-- The phase ID of a partition once the partitions of a list have taken q. -/
def State.pidWith (s : State) (pts : List Nat) (q : Nat) : Nat → Nat :=
  fun p => if pts.contains p then q else s.rdN (Part.pidNow p)

/-- The planned switches that act at an instant (1/1,024 HCLK) or before it, in the order in which they act. -/
def State.plansTo (s : State) (at_ : Int) : List Plan :=
  byInstant (s.budget.fw.plans.filter (fun x => decide (instant1024 x.beat x.tick ≤ at_)))

/-- The phase ID in force on a partition once the planned switches to an instant have acted (R252, R261). -/
def State.pidTo (s : State) (at_ : Int) : Nat → Nat :=
  fun p => (s.plansTo at_).foldl (fun q x => if x.pts.contains p then x.pid else q) (s.rdN (Part.pidNow p))

/-- The mix that holds after a switch at an instant (R252, R261): on its partitions its own phase ID, on the others the one that a switch
still planned for that instant or an earlier one leaves there. -/
def State.pidAt (s : State) (at_ : Int) (pts : List Nat) (q : Nat) : Nat → Nat := fun p => if pts.contains p then q else s.pidTo at_ p

/-- The contributions of a switch (R252): rung 8 where the derived demand changes, rung 6 from the allocation. -/
def State.switchContribs (s : State) (pid : Nat → Nat) (a : Alloc) (new : List (Nat × Int)) : List (Nat × Nat × Contrib) :=
  (derivedChanges s.budget.derived new).map (fun e => (8, e.1, ⟨none, e.2⟩)) ++ (s.rung6Of pid a).map (fun e => (6, e.1, e.2))

/-- Contributions on the firmware's path, at once (R24, R26, R31). -/
def State.contribute (s : State) (l : List (Nat × Nat × Contrib)) : State :=
  (forEach l (fun e s => s.firmwareNow e.1 e.2.1 e.2.2.range e.2.2.demand) s).reevalAll (l.map (fun e => e.2.1)).eraseDups

/-- The switch is made now (R254, R255). -/
def State.switchNow (s : State) (pts : List Nat) (q : Nat) : State :=
  let pid := s.pidWith pts q
  let a := s.allocate pid
  let new := s.derivedFor pid
  let s2 := ((s.contribute (s.switchContribs pid a new)).showAlloc pid a).switchDerived new
  forEach pts (fun p s => (s.wr (Part.pidNow p) q).showNext p) (s2.fabric 2 1)

/-- The state with the contributions of a mix of phase IDs written (R251, R261). -/
def State.withMix (s : State) (pid : Nat → Nat) : State :=
  forEach (s.switchContribs pid (s.allocate pid) (s.derivedFor pid)) (fun e s => s.firmwareWrite e.1 e.2.1 e.2.2.range e.2.2.demand) s

/-- Whether a switch raises a set-point (R252), against those that the switches planned to its instant leave. -/
def State.raises (s : State) (at_ : Int) (pts : List Nat) (q : Nat) : Bool :=
  let s0 := if s.plansTo at_ = [] then s else s.withMix (s.pidTo at_)
  let was := fun (n : Nat) => if s.plansTo at_ = [] then s.held (aVset n) else s0.resolved (aVset n)
  let t := s0.withMix (s.pidAt at_ pts q)
  railList.any (fun n => decide (was n < t.resolved (aVset n)))

/-- The scheduled action of a contribution (R106, R252). -/
def State.scheduleFw (s : State) (e : Nat × Nat × Contrib) (beat tick : Nat) : State :=
  s.schedule ⟨none, s.hub.epoch, e.1, e.2.1, e.2.2.demand.getD 0, false⟩ beat tick (some e.2.2)

/-- FP1 submits a planned switch (R252): its contributions at its instant, a rung 6 ON demand PD_LEAD before it for each OFF power
domain that it wants ON, released at the instant; what the allocation shows takes effect at the instant too. A later switch of the same instant
holds the mix of both, and its actions supersede the earlier ones (R24). DESIGN CHOICE, log 124: where PD_LEAD is above the 20 beats of the
submission (by default 25), the ON demand is submitted with the other actions, is late by then, and is applied at once with SCHED_LATE (R23). -/
def State.submitPlan (s : State) (pl : Plan) : State :=
  let inst := instant1024 pl.beat pl.tick
  let before := s.plansTo inst |>.filter (fun x => x.submitted)
  let pid := s.pidAt inst pl.pts pl.pid
  let a := s.allocate pid
  let new := s.derivedFor pid
  let old := match before.getLast? with | some x => x.derived | none => s.budget.derived
  let ons := pdList.filter (fun d => (new.find? (fun e => e.1 = aPd d)).any (fun e => e.2 = 1) && s.rd (Pd.pdState d) = 0)
  let s1 := forEach ons (fun d s => s.scheduleFw (6, aPd d, ⟨none, some 1⟩) (pl.beat - s.rdN Budget.pdLead) pl.tick) s
  let s2 := forEach (({ s with budget := { s.budget with derived := old } }).switchContribs pid a new ++ ons.map (fun d => (6, aPd d, (⟨none, none⟩ : Contrib))))
    (fun e s => s.scheduleFw e pl.beat pl.tick) s1
  let sent : Plan := { pl with submitted := true, derived := new, alloc := s.allocShow pid a }
  ({ s2 with
    budget := { s2.budget with
      fw := { s2.budget.fw with plans := s2.budget.fw.plans.filter (fun x => decide (x ≠ pl)) ++ [sent] } } }).useFree.fabric 2 1

/-- SWITCH_SUBMIT (R252): the planned switch of a partition is 20 beats away. -/
def State.switchSubmit (s : State) (p : Nat) : State :=
  match s.budget.fw.plans.find? (fun x => x.pts.contains p && !x.submitted) with
  | some pl => if s.fpRuns 1 && decide (pl.beat ≤ s.beat + 20) then s.submitPlan pl else s
  | none => s

/-- SWITCH_SUBMIT. -/
def execSwitchSubmit (p : Fin 128) (s : State) : Host.Outcome State Fault Refusal := done (s.switchSubmit p)

/-- A partition leaves the planned switches that are not submitted (R254, R255). -/
def State.unplan (s : State) (p : Nat) : State :=
  if s.budget.fw.plans.any (fun x => x.pts.contains p && !x.submitted) then
    ({ s with
      budget := { s.budget with
        fw := { s.budget.fw with
          plans := (s.budget.fw.plans.map (fun (x : Plan) => if x.submitted then x else { x with pts := x.pts.filter (fun y => y ≠ p) })).filter
            (fun x => x.pts ≠ []) } } }).showNext p
  else s

/-! ### Markers (R253 to R256) -/

/-- MK_QUEUE follows the queue. -/
def State.setMarkers (s : State) (l : List Marker) : State :=
  ({ s with budget := { s.budget with markers := l } }).wr Budget.mkQueue l.length

/-- The sums of a partition, as they stand (R258). -/
def State.sums (s : State) (p : Nat) : Snap := { tabGet (fun _ => ({} : Snap)) s.budget.cum p with at_ := s.hclk }

/-- The sums of a partition run from its first marker on. -/
def State.startSums (s : State) (p : Nat) : State :=
  if s.budget.cum.any (fun e => e.1 = p) then s else { s with budget := { s.budget with cum := tabPut s.budget.cum p {} } }

/-- MARKER_ACCEPT (R59, R253): while FP1 restarts or is down the marker is lost, while it is only halted it waits (R426). -/
def State.markerAccept (s : State) (m : Marker) : State :=
  if !s.pmReady then s
  else
    let s1 := s.bump Budget.mkAccepted
    if m.kind = 3 || m.scope = 3 then s1.bump Budget.mkRejected
    else if s.rd (Fp.fpState 1) ≠ 2 then s1.bump Budget.mkLostFp
    else (s1.startSums m.pt).setMarkers (s.budget.markers ++ [m])

/-- MARKER_ACCEPT. -/
def execMarkerAccept (kind : BitVec 2) (pid : Byte) (p : Fin 128) (scope : BitVec 2) (desc : BitVec 34) (s : State) :
    Host.Outcome State Fault Refusal :=
  done (s.markerAccept ⟨kind.toNat, pid.toNat, p, scope.toNat, desc.toNat, s.beat, s.tick, s.rd (PEn.peTotal p), s.sums p⟩)

/-- The marker FP1 takes next, where it is of a kind (R253): not while a descriptor row is being read. -/
def State.nextMarker (s : State) (kind : Nat) : Option Marker :=
  match s.budget.markers with
  | m :: _ => if m.kind = kind && s.budget.reading.isNone && s.fpRuns 1 then some m else none
  | [] => none

/-- The learned profile after a close (R258), with its count. -/
def learnStep (count : Nat) (d : Rat) (new : Rat) (shift : Nat) : Rat :=
  if count = 0 then max new 0 else max (d + (new - d) / (2 ^ shift : Nat)) 0

/-- D_new of R258, mW, over the beats between the stamps. -/
def State.learnNew (s : State) (p : Nat) (i : Instance) (m : Marker) (dur : Nat) : Rat :=
  let n := s.ptRail p
  let vn : Rat := (s.rd (Rail.vstart n) : Rat)
  let k := m.snap.beats - i.snap.beats
  let v : Rat := (if k = 0 then (s.rd (Rail.vsetRes n) : Rat) else ((m.snap.vSum - i.snap.vSum : Int) : Rat) / (k : Rat)) / vn
  let c : Rat := if k = 0 then (s.rd (Cd.ratioOut (s.rdN (Part.ptCd p))) : Rat) else ((m.snap.cSum - i.snap.cSum : Int) : Rat) / (k : Rat)
  let avg : Rat := ((m.energy - i.energy : Int) : Rat) * 1000000000 / (16777216 * (dur : Rat))
  (avg - (s.rd (Part.ptLeakMw p) : Rat) * v ^ 3) / (v ^ 2 * c / 64)

/-- A value entered in 32 bits of a profile; one that does not fit is open (log 8). -/
def fit32 (v : Int) : Nat := if 0 ≤ v ∧ v < 2 ^ 32 then v.toNat else (Config.unrepresentable 0 v % 2 ^ 32).toNat

/-- Whether something tainted an instance between its stamps (R258). -/
def Instance.tainted (i : Instance) (m : Marker) : Bool :=
  match m.snap.taintAt with | some t => decide (i.snap.at_ ≤ t) | none => false

/-- An instance closes at a marker (R258). -/
def State.closeInstance (s : State) (p : Nat) (i : Instance) (m : Marker) : State :=
  let dur := m.beat - i.beat
  let q := i.pid
  let s0 := ({ s with
    budget := { s.budget with fw := { s.budget.fw with insts := tabDel s.budget.fw.insts p } } }).wr (Part.instOpen p) 0
  if decide ((dur : Int) < s.rd Budget.learnMin) || !s.bit (Pid.pidFlags q) 0 || i.tainted m then s0.bump Budget.learnSkipped
  else
    let shift := s.rdN Budget.learnShift
    let count := s.learnCount q p
    let d := fit32 (ratOpen 87 (learnStep count (s.learnD q p) (s.learnNew p i m dur) shift))
    let s1 := s0.setBlobWord (0x6200 + q) p (d + min (count + 1) 65535 * 2 ^ 32)
    let old : Rat := (s.rd (Pid.pidDur q) : Rat)
    let mean := ratOpen 88 (learnStep (s.rdN (Pid.pidInstances q)) old dur shift)
    (((s1.bump (Pid.gen q)).bump (Pid.pidInstances q)).wr (Pid.pidLast q) m.beat).wr (Pid.pidDur q) mean

/-- Close the open instance of a marker's partition, if any. -/
def State.closeOpen (s : State) (m : Marker) : State :=
  match s.budget.fw.insts.find? (fun e => e.1 = m.pt) with
  | some e => s.closeInstance m.pt e.2 m
  | none => s

/-- Open an instance at a marker's stamp (R254). -/
def State.openInstance (s : State) (m : Marker) : State :=
  ({ s with
    budget := { s.budget with
      fw := { s.budget.fw with insts := tabPut s.budget.fw.insts m.pt ⟨m.beat, m.energy, m.pid, m.snap⟩ } } }).wr
    (Part.instOpen m.pt) 1

/-- MARKER_BEGIN (R254). -/
def State.markerBegin (s : State) (m : Marker) : State :=
  let s1 := (s.setMarkers s.budget.markers.tail).closeOpen m
  let s2 : State := { s1 with
    budget := { s1.budget with
      fw := { s1.budget.fw with preloads := s1.budget.fw.preloads.filter (fun e => !(e.1 = m.pt && e.2.1 = m.pid)) } } }
  if s.rd (Part.pidNow m.pt) = m.pid then s2.openInstance m
  else ((s2.unplan m.pt).switchNow [m.pt] m.pid).openInstance m

/-- MARKER_BEGIN. -/
def execMarkerBegin (s : State) : Host.Outcome State Fault Refusal :=
  done (match s.nextMarker 0 with | some m => s.markerBegin m | none => s)

/-- MARKER_END (R254). -/
def execMarkerEnd (s : State) : Host.Outcome State Fault Refusal :=
  done (match s.nextMarker 1 with
    | some m =>
      let s1 := s.setMarkers s.budget.markers.tail
      if s.rd (Part.pidNow m.pt) = m.pid then s1.closeOpen m else s1.bump Budget.mkMismatch
    | none => s)

/-- MARKER_PRELOAD (R255, R256). -/
def execMarkerPreload (s : State) : Host.Outcome State Fault Refusal :=
  done (match s.nextMarker 2 with
    | some m =>
      let s1 := s.setMarkers s.budget.markers.tail
      let s2 : State := { s1 with budget := { s1.budget with reading := some m } }
      if m.scope = 0 then s2.bump Budget.scopeEngine else s2
    | none => s)

/-- The tests of a descriptor row (R255). DESIGN CHOICE, log 125: a BEGIN_TICK above 1,023 fails too, though the rule's list of failing
fields does not name it. -/
def rowGood (row : List Byte) (m : Marker) : Bool :=
  let b := fun i n => leNat ((row.drop i).take n)
  row.length = 64 && b 0 1 = 1 && b 1 1 = m.pid && decide (b 2 1 < 2) && b 3 1 = 0 && b 18 6 = 0 && b 40 20 = 0
    && (b 24 16).testBit m.pt && decide (b 16 2 < 1024) && b 60 4 = (crc32c (row.take 60)).toNat

/-- The switch that a row asks for (R252, R255). -/
def State.planRow (s : State) (row : List Byte) (m : Marker) : State :=
  let b := fun i n => leNat ((row.drop i).take n)
  let pts := ptList.filter (fun p => (b 24 16).testBit p)
  let now := (b 2 1).testBit 0
  let s1 := forEach pts (fun p s => (s.wr (Part.seqLast p) (b 4 4)).unplan p) s
  let at0 := b 8 8
  let at1 := if s1.raises (instant1024 at0 (b 16 2)) pts m.pid then at0 - roleLead s.budget.role else at0
  let near := decide (instant1024 at1 (b 16 2) < s.now1024 + 20 * 800 * 1024)
  let wait := fun (s : State) (beat : Nat) => { s with
    budget := { s.budget with
      fw := { s.budget.fw with
        preloads := s.budget.fw.preloads.filter (fun e => !pts.contains e.1)
          ++ pts.map (fun p => (p, m.pid, beat + s.rdN Budget.preloadExpire)) } } }
  if now || near then
    wait ((when (!now) (fun s => s.bump Budget.preloadLate) s1).switchNow pts m.pid) (if now then s.beat else max at1 s.beat)
  else
    let s2 : State := { s1 with
      budget := { s1.budget with
        fw := { s1.budget.fw with plans := s1.budget.fw.plans ++ [⟨pts, m.pid, at1, b 16 2, false, [], {}⟩] } } }
    wait (forEach pts (fun p s => s.showNext p) s2) at1

/-- FP1 takes the row of a descriptor read (R255). -/
def State.takeRow (s : State) (m : Marker) (row : List Byte) : State :=
  let s1 : State := { s with budget := { s.budget with reading := none, row := none } }
  let seq := leNat ((row.drop 4).take 4)
  let newer := ((seq : Int) - s.rd (Part.seqLast m.pt)) % 2 ^ 32
  if !rowGood row m then s1.bump Budget.descBad
  else if !(decide (1 ≤ newer) && decide (newer < 2 ^ 31)) then s1.bump Budget.descStale
  else s1.planRow row m

/-- DESCRIPTOR_READ_DONE (R255): a halted FP1 takes the row when it goes on (R426); one that restarts or is down has lost the read. -/
def State.descriptorDone (s : State) (row : List Byte) : State :=
  match s.budget.reading with
  | none => s
  | some m =>
    if s.fpRuns 1 then s.takeRow m row
    else if s.rd (Fp.fpState 1) = 2 then { s with budget := { s.budget with row := some row } }
    else { s with budget := { s.budget with reading := none, row := none } }

/-- A row that came while FP1 was halted is taken once it goes on (R426), and lost where FP1 has left RUN. -/
def State.heldRow (s : State) : State :=
  match s.budget.reading, s.budget.row with
  | some m, some row =>
    if s.fpRuns 1 then s.takeRow m row
    else if s.rd (Fp.fpState 1) = 2 then s
    else { s with budget := { s.budget with reading := none, row := none } }
  | _, _ => s

/-- DESCRIPTOR_READ_DONE. -/
def execDescriptorReadDone (row : List Byte) (s : State) : Host.Outcome State Fault Refusal := done (s.descriptorDone row)

/-- PRELOAD_EXPIRE (R255). -/
def execPreloadExpire (p : Fin 128) (s : State) : Host.Outcome State Fault Refusal :=
  done (if s.fpRuns 1 && s.budget.fw.preloads.any (fun e => e.1 = p.val && decide (e.2.2 ≤ s.beat)) then
    ({ s with
      budget := { s.budget with
        fw := { s.budget.fw with
          preloads := s.budget.fw.preloads.filter (fun e => !(e.1 = p.val && decide (e.2.2 ≤ s.beat))) } } }).bump Budget.preloadOrphan
    else s)

/-- A beat of the partitions that learn (R258): the set-point of the rail and the code of the domain enter their sums. -/
def State.beatInstances (s : State) : State :=
  { s with
    budget := { s.budget with
      cum := s.budget.cum.map (fun e =>
        let c := s.rdN (Part.ptCd e.1)
        (e.1, { e.2 with
          vSum := e.2.vSum + s.rd (Rail.vsetRes (s.rdN (Cd.cdRail c))), cSum := e.2.cSum + s.rd (Cd.ratioOut c), beats := e.2.beats + 1 })) } }

/-- PID_CLEAR (R271): FP1 serves the entry. -/
def State.pidClear (s : State) (q : Nat) : State :=
  ((forEach ptList (fun p s => s.setBlobWord (0x6200 + q) p (s.blobWord (0x6200 + q) p % 2 ^ 32)) s).bump (Pid.gen q)).cmdDone
    (Pid.pidClear q) 1

/-- PID_CLEAR. -/
def execPidClear (q : Byte) (s : State) : Host.Outcome State Fault Refusal :=
  done (s.hostRow (fun s => if s.fpRuns 1 then (s.pidClear q.toNat).fabric 2 1 else s))

/-! ### The budget period (R259, R260, R265, R282, R284) -/

/-- The mean POUT of a rail over the last period, mW. -/
def State.meanPower (s : State) (n : Nat) : Int :=
  let c := tabGet (fun _ => 0) s.budget.pow (24 + n)
  if c = 0 then 0 else divOpen 89 (tabGet (fun _ => 0) s.budget.pow (16 + n)) c

/-- A sum over rails. -/
def sumRails (l : List Nat) (f : Nat → Int) : Int := l.foldl (fun a n => a + f n) 0

/-- P_DIE and P_FIXED of the last period (R259). -/
def State.periodPower (s : State) : State :=
  (s.wr Budget.pDie (sumRails railList s.meanPower)).wr Budget.pFixed
    (sumRails (railList.filter (fun n => (s.railGroup n).isNone)) s.meanPower)

/-- BH_SCALED and GRANT_AT_BH (R284). -/
def State.boardHotPeriod (s : State) : State :=
  if s.rd Kettle.bhAct = 1 && s.rd Kettle.bhState = 1 && !s.budget.bhScaled then
    { s with budget := { s.budget with bhScaled := true, bhGrant := ptList.map (fun p => (p, s.rd (Part.grantMw p))) } }
  else if s.budget.bhScaled && s.rd Kettle.bhState = 0 && decide (s.budget.bhZeroAt + 800000000 ≤ s.hclk) then
    { s with budget := { s.budget with bhScaled := false } }
  else s

/-- THERM_CEIL_MW of a partition (R282). -/
def State.thermCeil (s : State) (p : Nat) : Int :=
  let h := tabGet (fun _ => s.hot p) s.hk.hotMax p
  let lim : Int := s.ktTLimit p
  if decide (h < (lim - s.rd Kettle.ktBand) * 256) && !s.budget.bhScaled then 0xFFFFFFFF
  else
    let pbar : Rat := if s.hk.pwCount = 0 then 0 else
      ((tabGet (fun _ => 0) s.hk.pwSum p : Int) : Rat) * 500000000 / (16777216 * (s.hk.pwCount : Rat))
    let room : Rat := ((lim * 256 - h : Int) : Rat) * 1000000 / (4096 * ((s.ktRf p + s.ktRs (s.ktAnchor p) : Nat) : Rat))
    let c := max 0 (ratOpen 90 (pbar + room))
    if s.budget.bhScaled then min c (divOpen 91 (tabGet (fun _ => 0) s.budget.bhGrant p * s.rd Kettle.bhScale) 100) else c

/-- The thermal ceilings of a period; cause 8 where one changes from none to a value. -/
def State.thermPeriod (s : State) : State :=
  let s1 := forEach ptList (fun p t => t.wr (Part.thermCeilMw p) (s.thermCeil p)) s
  let hit := ptList.any (fun p => s.rd (Part.thermCeilMw p) = 0xFFFFFFFF && s1.rd (Part.thermCeilMw p) ≠ 0xFFFFFFFF)
  let s2 : State := { s1 with hk := { s1.hk with hotMax := [], pwSum := [], pwCount := 0 } }
  when hit (fun s => s.cause 8) s2

/-- A cap or role as a period start takes it: not a write of its own HCLK, which the following period takes (R267). -/
def State.capNow (s : State) (key : Nat) : Int :=
  match s.budget.capOld.find? (fun e => e.1 = key) with
  | some e => if e.2.2 = s.hclk then e.2.1 else s.rd key
  | none => s.rd key

/-- What a period start takes for its allocation and the switches until the next (R260, R261): the role, the partitions' caps, ILIM_EFF. -/
def State.takePeriod (s : State) : State :=
  { s with
    budget := { s.budget with
      role := (s.capNow Budget.role).toNat, ptCap := ptList.map (fun p => (p, s.capNow (Part.ptCapMw p))),
      ilim := railList.map (fun n => (n, s.rd (Rail.ilimEff n))) } }

/-- CAP_EFF and CAP_SRC (R259). -/
def State.capPeriod (s : State) : State :=
  let a := s.capNow Budget.chipCapMw
  let b := s.capNow Budget.operCapMw
  let c := s.rd Budget.clusterGrantMw
  let e := min a (min b c)
  (s.wr Budget.capEff e).wr Budget.capSrc (if e = a then 0 else if e = b then 1 else 2)

/-- corr of R260; unchanged where no prediction of the last period exists. -/
def State.corrPeriod (s : State) : State :=
  match s.budget.predicted with
  | none => s
  | some p =>
    let lim := s.rd Budget.capEff
    s.wr Budget.corrMw (clampI (-(divOpen 92 lim 10)) (divOpen 92 lim 10)
      (s.rd Budget.corrMw + divOpen 93 (s.rd Budget.pDie - p) 4))

/-- A change of CAP_STATE, recorded (R265). -/
def State.setCapState (s : State) (v : Int) : State :=
  (s.wr Budget.capState v).recordFw 1 0x0703 v (s.rd Budget.capEff) (s.rd Budget.pDie)

/-- Replace FP1's working state. -/
def State.setBudgetFw (s : State) (f : BudgetFw) : State := { s with budget := { s.budget with fw := f } }

/-- CAP_STATE at a period (R265). `over`: whether the ended period was over its cap. -/
def State.capStatePeriod (s : State) (isOver : Bool) : State :=
  let short := decide (0 < s.rd Budget.shortfallMw) || s.rung5Mask ≠ 0
  let f := s.budget.fw
  match s.rd Budget.capState with
  | 0 => if short then (s.setBudgetFw { f with overSince := some s.hclk, isOver := false }).setCapState 1 else s
  | 1 =>
    if !short && !isOver then (s.setBudgetFw { f with overSince := none, isOver := false }).setCapState 0
    else s.setBudgetFw { f with overSince := if isOver then f.overSince else some s.hclk, isOver := isOver }
  | _ => s.setBudgetFw { f with underSince := if isOver then some s.hclk else f.underSince }

/-- The phase IDs in force. -/
def State.pidPresent (s : State) : Nat → Nat := fun p => s.rdN (Part.pidNow p)

/-- A budget period starts (R260 to R262); a direct rung 8 write stands until a phase-ID switch changes its derived demand (R251). -/
def State.budgetPeriod (s : State) : State :=
  let capOld := s.rd Budget.capEff
  let s1 := s.periodPower
  let isOver := decide (capOld < s1.rd Budget.pDie)
  let s2 := (s1.takePeriod.boardHotPeriod.thermPeriod.capPeriod).corrPeriod
  let a := s2.allocate s2.pidPresent
  let new := s2.derivedFor s2.pidPresent
  let l := (s2.switchContribs s2.pidPresent a new).filter (fun e => !(e.1 = 8 && s2.budget.direct.contains e.2.1))
  let s3 := (s2.contribute l).showAlloc s2.pidPresent a
  let s4 : State := { s3 with
    budget := { s3.budget with
      derived := new, lastPeriod := some s.beat,
      pow := s3.budget.pow.filter (fun e => decide (e.1 < 16) || decide (32 ≤ e.1)) } }
  s4.capStatePeriod isOver

/-- BUDGET_PERIOD_START (R260): at the beats that are multiples of BUDGET_PERIOD. -/
def execBudgetPeriodStart (s : State) : Host.Outcome State Fault Refusal :=
  done (if s.fpRuns 1 && s.beat % s.rdN Budget.budgetPeriod = 0 && s.budget.lastPeriod ≠ some s.beat then s.budgetPeriod.fabric 2 1 else s)

/-- CAP_TIMER_EXPIRY (R265). -/
def State.capTimer (s : State) : State :=
  let f := s.budget.fw
  let past := fun (o : Option Nat) => match o with | some t => s.elapsed t (800 * s.rdN Budget.capTimer) | none => false
  match s.rd Budget.capState with
  | 1 =>
    if past f.overSince && f.isOver then
      let s1 := (s.setBudgetFw { f with overSince := none, underSince := some s.hclk }).recordFw 1 0x0704 (s.rd Budget.capEff)
        (s.rd Budget.pDie) (s.rd Budget.shortfallMw)
      ((s1.bump Budget.unreachCount).cause 7).setCapState 2
    else s
  | 2 =>
    if past f.underSince then (s.setBudgetFw { f with overSince := some s.hclk, isOver := false, underSince := none }).setCapState 1
    else s
  | _ => s

/-- CAP_TIMER_EXPIRY. -/
def execCapTimerExpiry (s : State) : Host.Outcome State Fault Refusal := done (if s.fpRuns 1 then s.capTimer.fabric 2 1 else s)

/-! ### Rung 5 (R264) -/

/-- Whether the resolved set-point and ratios of a rail are at or below FP1's rung 6 ceilings. -/
def State.underRung6 (s : State) (n : Nat) : Bool :=
  let ok := fun (a : Nat) => match (s.contribR 6 a).range with | some r => decide (s.held a ≤ r.2) | none => true
  ok (aVset n) && (s.cdsOf n).all (fun c => ok (aRatio c))

/-- The limiter's ceiling takes a code. -/
def State.setCeiling (s : State) (n : Nat) (code mean : Int) : State :=
  let l := s.limiter n
  let s1 := s.setLimiter n { l with
    ceil := code, low := if l.ceil = 16 then code else min l.low code, since := if l.ceil = 16 then s.beat else l.since }
  let s2 := (forEach (s.ptsOf n) (fun p s => s.setRange 5 (aBrush p) (if code < 16 then some (1, code) else none)) s1).reevalAll
    ((s.ptsOf n).map aBrush)
  if l.ceil = 16 && decide (code < 16) then s2.record (srcRail n) 0x0106 code mean (s.rd (Budget.hwCapRail n))
  else if decide (l.ceil < 16) && code = 16 then s2.record (srcRail n) 0x0107 ((s.beat : Int) - l.since) l.low 0
  else s2

/-- The sums of a beat that ends are kept for the limiters, those of the budget period that FP1 does not take end with it (R259, R264). -/
def State.beatPower (s : State) : State :=
  let b := s.budget.pow
  let ended := railList.flatMap (fun n => [(32 + n, tabGet (fun _ => 0) b n), (40 + n, tabGet (fun _ => 0) b (8 + n))])
  let kept := b.filter (fun e => decide (16 ≤ e.1) && decide (e.1 < 32))
  let s1 : State := { s with budget := { s.budget with pow := kept ++ ended.filter (fun e => e.2 ≠ 0) } }
  if s.beat % s.rdN Budget.budgetPeriod = 0 && !s.fpRuns 1 then
    { s1 with
      budget := { s1.budget with pow := s1.budget.pow.filter (fun e => decide (32 ≤ e.1)) }
      hk := { s1.hk with hotMax := [], pwSum := [], pwCount := 0 } }
  else s1

/-- Whether a beat has just ended and its step of a limiter has not been made (R264). -/
def State.floorDue (s : State) (n : Nat) : Bool := s.beatHclk % 800 = 0 && (s.limiter n).stepBeat ≠ some s.beat

/-- BRUSH_FLOOR_STEP (R264): the mean power of the ended beat against the rail's cap; without a sample in the beat POUT stood. -/
def State.floorStep (s0 : State) (n : Nat) : State :=
  let s := s0.setLimiter n { s0.limiter n with stepBeat := some s0.beat }
  let cnt0 := tabGet (fun _ => 0) s.budget.pow (40 + n)
  let sum := if cnt0 = 0 then s.rd (Rail.pout n) else tabGet (fun _ => 0) s.budget.pow (32 + n)
  let cnt := if cnt0 = 0 then 1 else cnt0
  let cap := s.rd (Budget.hwCapRail n)
  let at0 := s.bit Budget.hwAtOp0 n
  let c := (s.limiter n).ceil
  let mean := divOpen 94 sum cnt
  if decide (cap * cnt < sum) && cap ≠ 0xFFFFFFFF && at0 && s.underRung6 n then
    (if 1 < c then s.setCeiling n (c - 1) mean else s)
  else if (decide (100 * sum ≤ 98 * cap * cnt) || !at0) && decide (c < 16) then s.setCeiling n (c + 1) mean
  else s

/-- BRUSH_FLOOR_STEP: one code a beat, at its end. -/
def State.brushFloor (s : State) (n : Nat) : State := if s.floorDue n then s.floorStep n else s

/-- BRUSH_FLOOR_STEP. -/
def execBrushFloorStep (n : Fin 8) (s : State) : Host.Outcome State Fault Refusal := done (s.brushFloor n)

/-! ### fmax and ageing (R247 to R249) -/

/-- The derate of a domain, 0.1 % (6010:08). -/
def State.derate (s : State) (c : Nat) : Nat := getField (s.rdN (OpTab.ageDerate (c / 8))) (8 * (c % 8)) 8

/-- FMAX_EFF of a field, with the deficit to a reference in repeatable mode (R247, R249). -/
def State.fmaxField (s : State) (c i m : Nat) : Nat × Nat :=
  let aged := getField (s.rdN (Cd.fmaxFused c i)) (16 * m) 16 * (1000 - s.derate c) / 1000
  let ref := s.fmaxRef c i m
  if s.rd OpTab.fmaxMode = 0 && ref ≠ 0 then (min aged ref, ref - aged) else (aged, 0)

/-- FP0 rewrites one word of FMAX_EFF, and records its shortfalls. -/
def State.rewriteWord (s : State) (c i : Nat) : State :=
  let f := fun m => s.fmaxField c i m
  let s1 := s.wr (Cd.fmaxEff c i) ((f 0).1 + (f 1).1 * 2 ^ 16 + (f 2).1 * 2 ^ 32 + (f 3).1 * 2 ^ 48 : Nat)
  forEach (List.range 4) (fun m s =>
    if (f m).2 = 0 then s else (s.recordFw 0 0x0702 c (i * 256 + m : Nat) (f m).2).bump Budget.refShortfalls) s1

/-- FP0 rewrites FMAX_EFF (R247): a lowered interlock code binds at once, a raised one at the next resolution. -/
def State.fmaxRewrite (s : State) : State :=
  let s1 := forEach cdList (fun c s => forEach (List.range 32) (fun i s => s.rewriteWord c i) s) s
  forEach cdList (fun c s => if s.vfNow c < s.rd (Cd.vfCode c) then s.refreshVf c else s) s1

/-- FMAX_REWRITE. -/
def execFmaxRewrite (s : State) : Host.Outcome State Fault Refusal := done (if s.fpRuns 0 then s.fmaxRewrite.fabric 2 0 else s)

/-- The derate of a domain after its monitors' slowdowns (R248), kept in the settings store. -/
def State.ageDomain (s : State) (slow : List (BitVec 32)) (c : Nat) : State :=
  let ms := [2 * c, 2 * c + 1].filterMap (fun k => slow[k]?)
  match ms with
  | [] => s
  | x :: r =>
    let worst := r.foldl (fun a b => max a b.toInt) x.toInt
    let old := s.derate c
    let new := min 255 (max (old : Int) (divCeil worst 1000 + s.rd OpTab.ageMargin))
    if new = old then s
    else ((s.wr (OpTab.ageDerate (c / 8)) (putField (s.rdN (OpTab.ageDerate (c / 8))) (8 * (c % 8)) 8 new.toNat)).markRws
      (OpTab.ageDerate (c / 8))).recordFw 0 0x0701 c old new

/-- A derate has fallen due (R248). -/
def State.ageDue (s : State) : Bool := s.fpRuns 0 && decide (s.rd OpTab.ageLast + 86400000000 ≤ s.beat)

/-- The derates after the monitors' slowdowns (R248). -/
def State.ageAll (s : State) (slow : List (BitVec 32)) : State :=
  (forEach cdList (fun c s => s.ageDomain slow c) s).wr OpTab.ageLast s.beat

/-- AGEING_MEASURE (R248). -/
def execAgeingMeasure (slow : List (BitVec 32)) (s : State) : Host.Outcome State Fault Refusal :=
  done (if s.ageDue then (s.ageAll slow).fmaxRewrite.fabric 2 0 else s)

end Sys2Proof.Machine
end

