-- ==== Sys2Proof/Machine/Loop.lean ====
section
/-! DEFINITION. The loop engine (spec/07): the loop period, the gain schedule, the coefficient SRAM, the following-error
reaction (rung 4), the trace, and hub arbitration. -/

namespace Sys2Proof.Machine

/-! ### Block floating arithmetic (R86, R221) -/

/-- A value m × 2^e in 250 µV units, or a coefficient. -/
structure Flt where
  m : Int
  e : Int
  deriving DecidableEq, Repr

/-- A coefficient word (R86 BFL): exponent S6 in [25:20], mantissa S20 in [19:0]. -/
def fltOf (w : Int) : Flt :=
  ⟨(BitVec.ofNat 20 (w % 2 ^ 20).toNat).toInt, (BitVec.ofNat 6 (getField w.toNat 20 6)).toInt⟩

/-- A value at another exponent, rounded to nearest with ties away from zero (R221). -/
def Flt.at (v : Flt) (e : Int) : Int :=
  if e ≤ v.e then v.m * 2 ^ (v.e - e).toNat else divAway v.m (2 ^ (e - v.e).toNat)

/-- Whether a mantissa fits in 20 bits. -/
def fits20 (m : Int) : Bool := decide (-(2 ^ 19) ≤ m) && decide (m < 2 ^ 19)

/-- A mantissa held at the 20-bit limits. -/
def sat20 (m : Int) : Int := clampI (-(2 ^ 19)) (2 ^ 19 - 1) m

/-- What a stage gives in a period: its states, whether it renormalised upward, whether it saturated. -/
structure StageOut where
  st : Stage
  renorm : Bool
  sat : Bool
  deriving DecidableEq, Repr

/-- The exact accumulator of run_stage (R221). -/
def stageAcc (c : Nat → Flt) (s : Stage) (x : Flt) : Flt :=
  let ce := (c 0).e
  let lo := min x.e s.es
  ⟨(c 0).m * (x.m * 2 ^ (x.e - lo).toNat)
    + ((c 1).m * s.x1 + (c 2).m * s.x2 - (c 3).m * s.y1 - (c 4).m * s.y2) * 2 ^ (s.es - lo).toNat, ce + lo⟩

/-- Raise the exponent until the new mantissas fit; at +31 they saturate (R221). The model's choices (log 122): an input x that does not fit
raises the exponent too, and the exponent is raised as often as it takes, for the one cost of 2 HCLK. -/
def upNorm (acc x : Flt) : Nat → Stage → Bool → StageOut
  | 0, s, r => ⟨s, r, true⟩
  | k + 1, s, r =>
    let y := acc.at s.es
    let xm := x.at s.es
    if fits20 y && fits20 xm then ⟨{ s with x1 := xm, x2 := s.x1, y1 := y, y2 := s.y1 }, r, false⟩
    else if 31 ≤ s.es then ⟨{ s with x1 := sat20 xm, x2 := s.x1, y1 := sat20 y, y2 := s.y1 }, r, true⟩
    else upNorm acc x k { x1 := s.x1 / 2, x2 := s.x2 / 2, y1 := s.y1 / 2, y2 := s.y2 / 2, es := s.es + 1 } true

/-- The down-renormalisation (R221). -/
def downNorm (s : Stage) : Stage :=
  let low := fun (v : Int) => decide (v.natAbs < 2 ^ 17)
  if low s.x1 && low s.x2 && low s.y1 && low s.y2 && decide (-32 < s.es) then
    { x1 := s.x1 * 2, x2 := s.x2 * 2, y1 := s.y1 * 2, y2 := s.y2 * 2, es := s.es - 1 }
  else s

/-- run_stage (R221). -/
def runStage (c : Nat → Flt) (s : Stage) (x : Flt) : StageOut := upNorm (stageAcc c s x) x 64 s false

/-- A stage that holds its output at its previous value, its states advancing with that value (R222). -/
def holdStage (s : Stage) (x : Flt) : StageOut := upNorm ⟨s.y1, s.es⟩ x 64 s false

/-- The output of a stage. -/
def StageOut.y (o : StageOut) : Flt := ⟨o.st.y1, o.st.es⟩

/-- The three stages in cascade. -/
structure Cascade where
  o1 : StageOut
  o2 : StageOut
  o3 : StageOut
  deriving DecidableEq, Repr

/-- Stages 2 and 3 after a stage 1. -/
def cascadeFrom (c : Nat → Nat → Flt) (l : LoopInt) (o1 : StageOut) : Cascade :=
  let o2 := runStage (c 1) l.st2 o1.y
  ⟨o1, o2, runStage (c 2) l.st3 o2.y⟩

/-- A value in 2^-20 of a 250 µV unit, in which CORR and d are held (log 14). -/
def Flt.fine (v : Flt) : Int := if -20 ≤ v.e then v.m * 2 ^ (v.e + 20).toNat else divOpen 20 v.m (2 ^ (-20 - v.e).toNat)

/-- CORR_MAX in 2^-20 of a 250 µV unit. -/
def State.corrMaxFine (s : State) (n : Nat) : Int := s.rd (Loop.corrMax n) * 2 ^ 20

/-- The cascade of a period with the hold of stage 1 (R222): CORR at its clamp and moved further, the rail-limit inhibit
with e positive, or RAMP or a soft stop with e negative. -/
def State.cascade (s : State) (n : Nat) (l : LoopInt) (c : Nat → Nat → Flt) (e : Int) : Cascade :=
  let x : Flt := ⟨e, -4⟩
  let free := cascadeFrom c l (runStage (c 0) l.st1 x)
  let mx := s.corrMaxFine n
  let next := free.o3.y.fine + l.d
  if (l.corr = mx && decide (mx < next)) || (l.corr = -mx && decide (next < -mx))
      || ((s.rail n).inhibit && decide (0 < e)) || (s.railState n = 2 && decide (e < 0)) then
    cascadeFrom c l (holdStage l.st1 x)
  else free

/-! ### Coefficients (R227, R228) -/

/-- The applied coefficient at a place of a rail's table. -/
def LoopInt.applied (n : Nat) (t : List (Nat × Int)) (k : Nat) : Int := tabGet (fun k => (Config.coef n k : Int)) t k

/-- The coefficients of a region: stage, place. -/
def coefsOf (n : Nat) (t : List (Nat × Int)) (r stage j : Nat) : Flt := fltOf (LoopInt.applied n t (15 * r + 5 * stage + j))

/-- Whether each stage of a region carries one exponent in the staging copy (R227). -/
def State.oneExp (s : State) (n r : Nat) : Bool :=
  (List.range 15).all (fun k =>
    decide ((fltOf (s.rd (Loop.coef n (15 * r + k)))).e = (fltOf (s.rd (Loop.coef n (15 * r + 5 * (k / 5))))).e))

/-- COEF_PENDING: the regions whose staging copy differs from the applied copy (R227). -/
def State.showPending (s : State) (n : Nat) : State :=
  let t := (s.loop n).coef
  s.wr (Loop.coefPending n) (((List.range 4).filter (fun r =>
    (List.range 15).any (fun k => s.rd (Loop.coef n (15 * r + k)) ≠ LoopInt.applied n t (15 * r + k)))).foldl (fun m r => m + 2 ^ r) 0 : Nat)

/-- The regions a COEF_COMMIT value names. -/
def commitRegions (v : Nat) : List Nat := if v = 4 then [0, 1, 2, 3] else [v]

/-- COEF_COMMIT (R227): the regions' coefficients are taken for the next sample edge and marked for the settings store; other values, or
mismatched exponents: reject. -/
def State.coefCommitWrite (s : State) (n v x : Nat) : State :=
  if decide (v ≤ 4) && (commitRegions v).all (fun r => s.oneExp n r) then
    let l := s.loop n
    let base := if l.commit = 0 then l.coef else l.newCoef
    let t := (commitRegions v).foldl (fun t r =>
      (List.range 15).foldl (fun t k => tabPut t (15 * r + k) (s.rd (Loop.coef n (15 * r + k)))) t) base
    let s1 := s.setLoop n { l with newCoef := t, commit := (commitRegions v).foldl (fun m r => m ||| 2 ^ r) l.commit }
    (forEach (commitRegions v) (fun r s => forEach (List.range 15) (fun k s => s.markRws (Loop.coef n (15 * r + k))) s) s1).wr
      (Loop.coefCommit n) 1
  else (s.reject (Loop.coefCommit n) x).wr (Loop.coefCommit n) 3

/-- A driver's COEF_COMMIT: the Steward may reload its regions again (R395). -/
def State.coefCommitDriver (s : State) (n v x : Nat) : State :=
  let t := s.coefCommitWrite n v x
  if t.rd (Loop.coefCommit n) = 3 then t
  else
    let m := (commitRegions v).foldl (fun m r => putBit m r false) (tabGet (fun _ => 0) s.fw.reloaded n)
    { t with fw := { t.fw with reloaded := tabPut t.fw.reloaded n m } }

/-- COEF_COMMIT. -/
def execCoefCommit (n : Fin 8) (v : Byte) (s : State) : Host.Outcome State Fault Refusal := done (s.hostRow (fun s => s.coefCommitDriver n v.toNat 0))

/-- A bad word found by the scrub (R228, R229): corrected and counted; an uncorrectable one outside the active region is
recorded, one of the active region meets the engine at its next fetch. -/
def State.scrubWord (s : State) (e : ScrubErr) : State :=
  let n := e.rail.val
  let k := e.coef.val
  if !e.ue then (s.bump (Loop.eccCe n)).fabric 4 2
  else
    let bad := (s.loop n).badWords
    let s1 := s.setLoop n { s.loop n with badWords := if bad.contains k then bad else bad ++ [k] }
    if k / 15 = s.rdN (Loop.region n) then s1
    else (s1.bump (Loop.eccUe n)).record (srcRail n) 0x0210 (k / 15 : Nat) (((k % 15) / 5 + 1) * 256 + k % 5 : Nat) k

/-- Whether the scrub may end a pass: one each millisecond (R228). -/
def State.scrubDue (s : State) : Bool := match s.scrubAt with | some t => s.elapsed t 800000 | none => true

/-- The words of a pass: 60 of each rail (R227). -/
def scrubWords : Nat := 480

/-- COEF_SCRUB (R228): a pass over every word of every rail, once a millisecond. -/
def execCoefScrub (errs : List ScrubErr) (s : State) : Host.Outcome State Fault Refusal :=
  done (if s.scrubDue then forEach errs (fun e s => s.scrubWord e) ({ s with scrubAt := some s.hclk, arb := { s.arb with scrubLeft := scrubWords } }) else s)

/-! ### Readings of a period (R117, R126, R128, R149) -/

/-- The VIN_SENSE monitor (R78): the mean of the last four samples (their sum, in 15.625 µV) falls below 0.840 V or rises to 0.860 V; the
lowest one of an inhibit is kept (R422). -/
def State.watchVin (s : State) : State :=
  let v := s.vinSum
  if s.ibc.vin.length < 4 then s
  else { s with
    ibc := { s.ibc with
      vinLow := if v < 215040 then true else if 220160 ≤ v then false else s.ibc.vinLow
      vinUnder := if v < 220160 then some s.hclk else s.ibc.vinUnder
      vinMin := if s.chest.inhibitAt.isSome then some (min v (s.ibc.vinMin.getD v)) else none } }

/-- Since when VBUS has been below BUS_UV without a break (R145), or at or above it (R443). -/
def State.watchBus (s : State) : State :=
  let low := decide (s.vbus < s.rd Ibc.busUv)
  { s with ibc := { s.ibc with
      busUvAt := if low then some (s.ibc.busUvAt.getD s.hclk) else none
      busOkAt := if low then none else some (s.ibc.busOkAt.getD s.hclk) } }

/-- VIN_SENSE enters the window of four (R117); rail 0's samples carry it. -/
def State.takeVin (s : State) (n : Nat) (v : BitVec 18) : State :=
  if n = 0 then ({ s with ibc := { s.ibc with vin := (s.ibc.vin ++ [(v.toNat : Int)]).drop (s.ibc.vin.length - 3) } }).watchVin.watchBus else s

/-- FSW and RIPPLE_GAIN are taken at a loop period (R149). -/
def State.takeSettings (s : State) (n : Nat) : State :=
  s.setRail n { s.rail n with fsw := some (s.rd (Rail.fsw n)), gain := some (s.rd (Rail.rippleGain n)) }

/-- Since when VOUT has been an under-voltage (R142) or an over-voltage (R141) without a break. -/
def State.watchVout (s : State) (n : Nat) (v : Int) : State :=
  let r := s.rail n
  s.setRail n { r with
    uvSince := if s.underVoltage n v then some (r.uvSince.getD s.hclk) else none
    ovSince := if s.onState n && s.overVoltage n v then some (r.ovSince.getD s.hclk) else none }

/-- The readings of a loop period: phase currents, VBUS, VOUT, IOUT, POUT, and the rail-limit inhibit. -/
def State.takeReadings (s : State) (n : Nat) (m : LoopIn) : State :=
  let s0 := when (s.onState n) (fun s => forEach (Config.phasesOf n) (fun p s => s.syncModel p) s) s
  let s1 := ((s0.takeSettings n).takeVin n m.vinSense).takeIph (typeA n) m.iphA
  let s2 := s1.takeModels n
  let s3 := s2.wr (Rail.vinBus n) s2.vbus
  let vout := divNear 21 m.vs.toNat 16
  let s4 := (s3.wr (Rail.vout n) vout).wr (Rail.iout n) (s3.railCurrent n)
  let s5 := (s4.wr (Rail.pout n) (divOpen 22 (vout * s4.rd (Rail.iout n)) 400)).watchVout n vout
  if s5.onState n then s5.updateInhibit n else s5

/-! ### Reference (R138, R140, R220) -/

/-- The ramp reference after one more period (R138, R140). -/
def State.advanceRamp (s : State) (n : Nat) : State :=
  let r := s.rail n
  if s.railState n ≠ 2 then s
  else
    let goal : Int := if r.softStop then 0 else s.rd (Rail.vsetRes n) * 256
    let wait := r.softStop && (s.pdsOf n).any (fun d => s.rd (Pd.pdState d) ≠ 0 && s.rd (Pd.pdState d) ≠ 4)
    let step := divOpen 23 (r.rampNum.natAbs : Int) r.rampDen
    if wait then s
    else s.setRail n { r with ramp := if goal < r.ramp then max goal (r.ramp - step) else min goal (r.ramp + step) }

/-- T in 15.625 µV: the ramp reference in whole units, or VSET_RES. -/
def State.reference (s : State) (n : Nat) : Int :=
  if s.railState n = 2 then 16 * divOpen 24 (s.rail n).ramp 256
  else if s.regulating n then 16 * s.rd (Rail.vsetRes n) else 0

/-- Take T (R220): a change ends the settled indication and restarts its count (R224), and loads the blanking (R230); a set-point taken is reported
to the resolver (R33). -/
def State.takeTarget (s : State) (n : Nat) : State :=
  let t := s.reference n
  let l := s.loop n
  let s1 := if t = l.target then s
    else (s.setLoop n { l with target := t, settleRun := 0, blank := s.rdN (Loop.feBlank n) }).wr (Loop.settled n) 0
  let s2 := s1.wr (Loop.target n) (t / 16)
  if s.regulating n && !(s.rail n).taken then
    let s3 := s2.setRail n { s2.rail n with taken := true }
    if s3.held (aVset n) ≠ s3.rd (Rail.vsetRes n) && (s3.rail n).vwait.isNone then s3.stepVset n else s3
  else s2

/-! ### Gain schedule (R225) -/

/-- A field of I_THR, as current × 100 (k from 1). -/
def State.bandThr (s : State) (n k : Nat) : Int := (getField (s.rdN (Loop.iThr n)) (8 * (k - 1)) 8 : Int) * s.rd (Rail.ilimRail n)

/-- The band and its run after this edge (R225). -/
def State.nextBand (s : State) (n : Nat) : Nat × Nat :=
  let l := s.loop n
  let hyst := s.rd (Loop.iHyst n) * s.rd (Rail.ilimRail n)
  let i := 100 * s.rd (Rail.iout n)
  let want0 := if l.band < 3 && decide (s.bandThr n (l.band + 1) + hyst < i) then l.band + 1 else l.band
  let want := if 0 < l.band && decide (i < s.bandThr n l.band - hyst) then l.band - 1 else want0
  if want ≠ l.band then (if s.rdN (Loop.regionDwell n) ≤ l.run + 1 then (want, 0) else (l.band, l.run + 1)) else (l.band, 0)

/-- The region a band selects (R225). -/
def State.regionFor (s : State) (n cb : Nat) : Nat :=
  let pb := if s.rd (Loop.phSplit n) ≤ (s.actList n).length then 1 else 0
  let f := s.rdN (Loop.regionForce n)
  if f ≠ 255 then f % 4 else getField (s.rdN (Loop.regionMap n)) (2 * (4 * pb + cb)) 2

/-- select_region (R225). -/
def State.selectRegion (s : State) (n : Nat) : Nat := s.regionFor n (s.nextBand n).1

/-! ### Filters (R221, R222, R226, R229) -/

/-- VREF_LOOP from the target, OFFSET_NOW and CORR (R222), at 15.625 µV. -/
def State.formVref (s : State) (n : Nat) : State :=
  let l := s.loop n
  let v := clampI 0 (16 * s.rd (Rail.vsetLimit n)) (l.target + 16 * s.rd (UbRail.offsetNow n) + divOpen 25 l.corr (2 ^ 16))
  ((s.setLoop n { l with vref := v }).wr (Loop.vrefLoop n) (divNear 26 v 16)).wr (Loop.corr n) (divNear 27 l.corr (2 ^ 20))

/-- A fetch with an uncorrectable word (R229): CORR, states and d stand; the first such period begins the hold. The word address of LOOP_HOLD
and COEF_UE is the model's choice (log 123): one word per coefficient, at 15·region + 5·(stage − 1) + place. -/
def State.holdPeriod (s : State) (n r k : Nat) : State :=
  let l := s.loop n
  let s1 := s.setLoop n { l with hold := true, holdPeriods := l.holdPeriods + 1, lastRegion := r }
  if l.hold then s1
  else
    let s2 := (((s1.setLoop n { s1.loop n with holdPeriods := 1 }).wr (Loop.holdSince n) s.beat).bump (Loop.eccUe n)).traceEvent n 4
    s2.record (srcRail n) 0x020E r (((k % 15) / 5 + 1) * 256 + k % 5 : Nat) k

/-- The end of a hold (R229). -/
def State.endHold (s : State) (n : Nat) : State :=
  let l := s.loop n
  if l.hold then
    ((s.setLoop n { l with hold := false, holdPeriods := 0 }).wr (Loop.holdSince n) 0).record (srcRail n) 0x020F l.holdPeriods (s.rd (Loop.region n)) 0
  else s

/-- What the filters of a period give: cascade kept, transfer added. -/
structure FilterOut where
  kept : Cascade
  add : Int
  deriving DecidableEq, Repr

/-- The evaluation of a clean period (R221, R226): with the old set where the region or its coefficients change, or with the
held CORR where a hold ends. -/
def State.filters (s : State) (n : Nat) (l : LoopInt) (told tnew : List (Nat × Int)) (r0 r : Nat) (e : Int) : FilterOut :=
  let new := s.cascade n l (coefsOf n tnew r) e
  let yn := new.o3.y.fine
  if l.hold then ⟨new, l.corr - yn⟩
  else if r ≠ r0 || l.commit.testBit r then ⟨new, (s.cascade n l (coefsOf n told r0) e).o3.y.fine - yn⟩
  else ⟨new, 0⟩

/-- Apply the committed coefficients at the sample edge (R227). -/
def State.applyCommit (s : State) (n : Nat) : State :=
  let l := s.loop n
  if l.commit = 0 then s
  else
    ((s.setLoop n { l with
      coef := l.newCoef, newCoef := [], commit := 0,
      badWords := l.badWords.filter (fun k => !l.commit.testBit (k / 15)) }).cmdDone (Loop.coefCommit n) 2).showPending n

/-- The filters of a period in an on-state (R221 to R223, R226, R229). `m`: the readings of the edge. -/
def State.runFilters (s : State) (n : Nat) (m : LoopIn) : State :=
  let l := s.loop n
  let nb := s.nextBand n
  let r := s.selectRegion n
  let fresh := s.rd (Loop.loopState n) = 0
  let r0 := if fresh then r else l.lastRegion
  let s0 := ((s.setLoop n { l with band := nb.1, run := nb.2 }).applyCommit n).wr (Loop.region n) r
  let s1 := when (decide (r ≠ r0)) (fun s => (s.bump (Loop.regionChanges n)).traceEvent n 3) s0
  let bad := (s1.loop n).badWords
  let bad1 := match m.ue with | some k => if bad.contains (15 * r + k) then bad else bad ++ [15 * r + k.val] | none => bad
  let s2 := ((s1.setLoop n { s1.loop n with badWords := bad1 }).bump (Loop.eccCe n) m.ce.val)
  let base : Int := 6 + s.fetchWait + (if m.ce.val = 0 then 0 else 2)
  let e := l.target - (m.vs.toNat : Int)
  match bad1.filter (fun k => k / 15 = r) with
  | k :: _ => ((s2.holdPeriod n r k).formVref n).wr (Loop.delayLast n) base
  | [] =>
    let f := s.filters n l l.coef (s2.loop n).coef r0 r e
    let d := l.d + f.add
    let corr := clampI (-(s.corrMaxFine n)) (s.corrMaxFine n) (f.kept.o3.y.fine + d)
    let s3 := s2.endHold n
    let s4 := (s3.setLoop n { s3.loop n with
      st1 := downNorm f.kept.o1.st, st2 := downNorm f.kept.o2.st, st3 := downNorm f.kept.o3.st, corr := corr,
      d := d - divOpen 28 d (2 ^ s.rdN (Loop.btShift n)), lastRegion := r }).wr (Loop.xferNow n) (divOpen 29 d (2 ^ 16))
    let sat : Nat := (if f.kept.o1.sat then 1 else 0) + (if f.kept.o2.sat then 1 else 0) + (if f.kept.o3.sat then 1 else 0)
    ((s4.formVref n).bump (Loop.satCount n) sat).wr (Loop.delayLast n)
      (base + (if f.kept.o1.renorm || f.kept.o2.renorm || f.kept.o3.renorm then 2 else 0))

/-- The fabric accesses of a period (R228, R236): the coefficient fetch, the write-back of each corrected word. -/
def State.fetchAccesses (s : State) (m : LoopIn) : State :=
  forEach (List.range m.ce.val) (fun _ s => s.fabric 4 2) s.fabricFetch

/-- LOOP_STATE (R220, R229). -/
def State.showLoopState (s : State) (n : Nat) : State :=
  s.wr (Loop.loopState n) (if (s.loop n).hold then 3 else if s.regulating n then 2 else if (s.rail n).softStop then 4 else 1)

/-! ### Settled, ramp completion, balance (R27, R123 to R125, R138, R224) -/

/-- The settled indication (R224): the run of edges in the band is counted at every edge since T has its present value, in RAMP too, and the
indication stands only in REGULATE and SHED with T at VSET_RES; its rise sets VIL to VSET_RES and the interlock codes follow (R27). -/
def State.updateSettled (s : State) (n : Nat) (vs : Int) : State :=
  let l := s.loop n
  let t := l.target
  let b := 16 * s.rd (Loop.settleBand n)
  let ok := decide (t - b ≤ vs) && decide (vs ≤ t + 16 * s.rd (UbRail.offsetNow n) + b)
  let k := if ok then l.settleRun + 1 else 0
  let up := ok && s.regulating n && decide (t = 16 * s.rd (Rail.vsetRes n)) && decide (s.rdN (Loop.settleN n) ≤ k)
  let s1 := (s.setLoop n { l with settleRun := k }).wr (Loop.settled n) (if up then 1 else 0)
  if up && s.rd (Loop.settled n) = 0 then
    forEach (s.cdsOf n) (fun c s => s.refreshVf c) (s1.setRail n { s1.rail n with vil := some (s.rd (Rail.vsetRes n)) })
  else s1

/-- Ramp completion (R138): the reference at the set-point, VOUT within ±25 mV at 8 sample edges in a row. -/
def State.rampDone (s : State) (n : Nat) (vs : Int) : State :=
  let r := s.rail n
  if s.railState n = 2 && !r.softStop then
    let goal := s.rd (Rail.vsetRes n)
    let k := if r.ramp = goal * 256 && decide ((vs - 16 * goal).natAbs ≤ 1600) then r.okRun + 1 else 0
    let s1 := s.setRail n { r with okRun := k }
    if 8 ≤ k then (s1.setRail n { s1.rail n with diode := false, taken := true }).setRailState n (s1.regOrShed n) 0 else s1
  else s

/-- The rated current of the active phases (R123). -/
def State.ratingSum (s : State) (n : Nat) : Int := (s.actList n).foldl (fun a p => a + s.rd (Ph.phRating p)) 0

/-- Add one phase per period above ADD_HI; start or break the dwell below SHED_LO; SHED_EN 0 keeps the ceiling (R123). -/
def State.addShed (s : State) (n : Nat) : State :=
  if !s.regulating n then s
  else if s.rd (Rail.shedEn n) = 0 then s.fitPhases n
  else
    let i := 100 * s.rd (Rail.iout n)
    let rt := s.ratingSum n
    let s1 := if s.rd (Rail.addHi n) * rt < i && decide ((((s.actList n).length : Nat) : Int) < s.phCeil n) then s.addPhase n else s
    let low := decide (i < s.rd (Rail.shedLo n) * rt)
    s1.setRail n { s1.rail n with shedSince := if low then some ((s1.rail n).shedSince.getD s.hclk) else none }

/-- Diode emulation in SHED (R125): IAVG below half the modelled peak-to-peak ripple, the mean over the active phases. -/
def State.updateDiode (s : State) (n : Nat) : State :=
  if s.regulating n then
    let pp := (s.actList n).foldl (fun a p => a + divOpen 30 (s.riseNum p (s.rd (Ph.ton p))) (128 * max 1 (s.rd (Ph.phL p)))) 0
    s.setRail n { s.rail n with diode := s.railState n = 4 && decide (2 * s.rd (Rail.iout n) < pp) }
  else s

/-- Current balance (R124). -/
def State.balance (s : State) (n : Nat) : State :=
  let act := s.actList n
  let k : Int := act.length
  let vb := s.rd (Rail.vinBus n)
  if act = [] || vb ≤ 0 || !s.onState n then s
  else
    let den := s.vinSum * 50 * s.rd Ibc.ibcRatio * s.fswNow n
    let raw := if den ≤ 0 then 0 else divOpen 31 ((s.loop n).vref * 6400000 * (s.ibc.vin.length * 16384)) den
    forEach act (fun p s =>
      let share : Int := if s.rd (Ph.phState p) = 3 then 1 else 2
      let diff := share * s.rd (Rail.iout n) - 2 * k * s.rd (Ph.iph p)
      let t := s.rd (Ph.trim p) + divOpen 32 (diff * 128 * s.rd (Ph.phL p)) (2 * k * 64 * 5 * vb)
      s.wr (Ph.trim p) (clampI (-(raw / 8)) (raw / 8) t)) s

/-! ### Offset and Snare thresholds (R153, R170, R171) -/

/-- The sum of the open contributions of a rail at this instant (R170). -/
def State.openOffsets (s : State) (n : Nat) : Int :=
  let hold := divCeil (s.rd (UbRail.preposHold n) * 4) 5
  (s.upbeat.offsets.filter (fun o => o.rail = n && decide (o.from8 ≤ ((8 * s.hclk : Nat) : Int))
    && (match o.arrival with | some t => decide ((s.hclk : Int) < t + hold) | none => true))).foldl (fun a o => a + o.amount) 0

/-- OFFSET_NOW of the next period (R170, R171). -/
def State.updateOffset (s : State) (n : Nat) : State :=
  let now := s.rd (UbRail.offsetNow n)
  if s.suppressed n then s.wr (UbRail.offsetNow n) 0
  else
    let want := min (s.openOffsets n) (min (s.rd (UbRail.preposMax n)) (s.rd (Rail.vsetMax n) - s.rd (Rail.vsetRes n)))
    s.wr (UbRail.offsetNow n) (if now ≤ want then want else max want (now - 10))

/-- The Snare threshold of a domain (R153). -/
def State.snareThr (s : State) (n c : Nat) : Int :=
  let ref := min (s.rd (Rail.vsetRes n)) (s.rd (Loop.vrefLoop n) - s.rd (UbRail.offsetNow n))
  let trip := (modesOf (s.rdN (Snare.precSet c))).foldl (fun a m => min a (s.rd (Upbeat.snTripFp16 + m))) 255
  max 0 (ref - divNear 33 (ref * trip) 1000)

/-- The thresholds of a rail's domains go out over the ring (R153). -/
def State.sendThresholds (s : State) (n : Nat) : State :=
  forEach (s.cdsOf n) (fun c s => s.sendAgain (satCd c) 2 (s.snareThr n c)) s

/-! ### Following error (R230 to R232) -/

/-- The following-error monitor of a period (R230), and the release condition while rung 4 is active (R232). -/
def State.followError (s : State) (n : Nat) (vs : Int) : State :=
  let l0 := s.loop n
  let fe := l0.target - vs
  let fe250 := divOpen 34 fe 16
  let s1 := (s.wr (Loop.feNow n) fe250).wr (Loop.feMax n) (max (s.rd (Loop.feMax n)) fe250)
  let run := s.regulating n && s.rd (Loop.feEn n) = 1 && !l0.rung4
  if l0.rung4 then
    s1.setLoop n { l0 with
      relRun := if fe ≤ 16 * s.rd (Loop.feRelLimit n) then l0.relRun + 1 else 0, relMax := max l0.relMax fe250,
      feRunning := false }
  else if run then
    let start := !l0.feRunning
    let timer0 : Int := if start then 0 else s.rd (Loop.feTimer n)
    let blank := if start then s.rdN (Loop.feBlank n) else l0.blank
    let timer := if 0 < blank then timer0 else if 16 * s.rd (Loop.feLimit n) < fe then timer0 + 1 else max 0 (timer0 - 1)
    (s1.setLoop n { l0 with
      feRunning := true, blank := blank - 1, feDue := l0.feDue || decide (s.rd (Loop.feTime n) ≤ timer) }).wr (Loop.feTimer n) timer
  else (s1.setLoop n { l0 with feRunning := false, feDue := false }).wr (Loop.feTimer n) 0

/-- Rung 4 becomes active (R231). -/
def State.feExpire (s : State) (n : Nat) : State :=
  let l := s.loop n
  let v := s.rd (Rail.vsetRes n)
  let s1 := (s.setLoop n { l with rung4 := true, feDue := false, feRunning := false, relRun := 0, relMax := s.rd (Loop.feNow n) }).setRange
    4 (aVset n) (some (v, v))
  let s2 := forEach (s.cdsOf n) (fun c s =>
    let r := s.rd (Cd.ratioRes c)
    s.setRange 4 (aRatio c) (some (r, r))) s1
  let s3 := forEach (s.ptsOf n) (fun p s => s.setRange 4 (aBrush p) (some (1, s.rd (Loop.feBrush n)))) s2
  let s4 := s3.reevalAll ([aVset n] ++ (s.cdsOf n).map aRatio ++ (s.ptsOf n).map aBrush)
  let s5 := ((s4.bump (Loop.feReacts n)).wr (Loop.feSince n) s.beat).dropPulses n
  (s5.record (srcRail n) 0x020C (s.rd (Loop.feNow n)) (s.rd (Rail.iout n))
    (s.rd (Loop.region n) * 256 + s.rd (Rail.phActive n))).traceEvent n 1

/-- Whether a command that turns a rail off waits in this HCLK (R140, R149): its rows, and a write of RAIL_CTRL. -/
def State.offComes (s : State) (n : Nat) : Bool :=
  s.rd Sd.sdCtrl ≠ 1
    && ((s.hostUp && s.comes (fun i => match i with | .railCtrlOff k => k.val = n | .railCtrlOffImmediate k => k.val = n | _ => false))
      || s.valueComes (Rail.railCtrl n) 2 || s.valueComes (Rail.railCtrl n) 3)

/-- Whether a rail leaves REGULATE and SHED in this HCLK (R239): by a latch, a command that turns it off or Gong's rails-off, which wait. -/
def State.railLeaves (s : State) (n : Nat) : Bool :=
  s.latchComes n ≠ 0 || s.offComes n || (s.gongOffDue && s.comes (fun i => match i with | .gongRailsOff => true | _ => false))

/-- Whether this HCLK is a sample edge of a rail (R220): the count since hub reset is 5n above a multiple of 40. -/
def State.edgeHclk (s : State) (n : Nat) : Bool := s.start.hubUp && (s.hclk - s.start.hubAt + 35 * n) % 40 = 0

/-- The decision of an expiry comes 2 HCLK after its sample edge (R230, R231). -/
def State.feDecided (s : State) (n : Nat) : Bool := match (s.loop n).sampledAt with | some t => s.elapsed t 2 | none => true

/-- FE_EXPIRY (R231, R239): the monitor has reached FE_TIME and the rail has not left REGULATE and SHED. -/
def execFeExpiry (n : Fin 8) (s : State) : Host.Outcome State Fault Refusal :=
  done (if (s.loop n).feDue && s.feDecided n && !s.railLeaves n && s.regulating n && s.rd (Loop.feEn n) = 1 && !(s.loop n).rung4 then s.feExpire n else s)

/-- Whether rung 4 of a rail releases, with its cause (R232, R239): the rail first; where the condition and FE_EN 0 meet at
one edge the manual gives no order and the cause is a free value. -/
def State.feReleaseCause (s : State) (n : Nat) : Option Int :=
  let met := decide (s.rdN (Loop.feRelTime n) ≤ (s.loop n).relRun)
  let off := s.rd (Loop.feEn n) = 0
  if !s.regulating n || s.railLeaves n then some 1
  else if met && off then some (if s.freeVal 40 % 2 = 0 then 0 else 2)
  else if met then some 0 else if off then some 2 else none

/-- Rung 4 releases (R232). -/
def State.feRelease (s : State) (n : Nat) (cause : Int) : State :=
  let l := s.loop n
  let s1 := (s.setLoop n { l with rung4 := false, relRun := 0, feRunning := false }).wr (Loop.feTimer n) 0
  let s2 := forEach (s.cdsOf n) (fun c s => s.setRange 4 (aRatio c) none) (s1.setRange 4 (aVset n) none)
  let s3 := forEach (s.ptsOf n) (fun p s => s.setRange 4 (aBrush p) none) s2
  let s4 := s3.reevalAll ([aVset n] ++ (s.cdsOf n).map aRatio ++ (s.ptsOf n).map aBrush)
  ((s4.record (srcRail n) 0x020D ((s.beat : Int) - s.rd (Loop.feSince n)) cause l.relMax).traceEvent n 2).useFree

/-- FE_RELEASE (R232): at a sample edge of the rail. -/
def execFeRelease (n : Fin 8) (s : State) : Host.Outcome State Fault Refusal :=
  done (if (s.loop n).rung4 && s.edgeHclk n then (match s.feReleaseCause n with | some c => s.feRelease n c | none => s) else s)

/-! ### Trace (R233, R234) -/

/-- The nodes of R233 at this sample, in the order of their codes. `off`, `act`: OFFSET_NOW and the number of active phases that the engine
took at this edge, before it forms those of the next period. -/
def State.traceNodes (s : State) (n : Nat) (vs off act : Int) (ce change : Bool) : List Int :=
  let l := s.loop n
  let y := fun (t : Stage) => divOpen 35 (Flt.fine ⟨t.y1, t.es⟩) (2 ^ 16)
  [vs, l.target, l.target - vs, y l.st1, y l.st2, y l.st3, divOpen 36 l.corr (2 ^ 16), s.rd (Loop.xferNow n), l.vref,
    16 * off, s.rd (Rail.iout n), act, s.rd (Loop.region n), s.rd (Loop.feTimer n),
    s.rd (Loop.delayLast n),
    (if (s.rail n).inhibit then 1 else 0) + (if l.rung4 then 2 else 0) + (if l.hold then 4 else 0) + 8 * s.rd (Loop.settled n)
      + (if ce then 16 else 0) + (if change then 32 else 0)]

/-- Whether the level trigger of TR_TRIG fires between two samples (R234). -/
def State.levelTrigger (s : State) (n : Nat) (old new : List Int) : Bool :=
  let w := s.rdN (Trace.trTrig n)
  let lv := s.rd (Trace.trLevel n)
  match old[w % 256]?, new[w % 256]? with
  | some a, some b =>
    let rise := decide (a ≤ lv) && decide (lv < b)
    let fall := decide (lv ≤ a) && decide (b < lv)
    match w / 256 with | 1 => rise | 2 => fall | 3 => rise || fall | _ => false
  | _, _ => false

/-- One sample of each channel (R233). -/
def State.traceSample (s : State) (n : Nat) (nodes : List Int) : List Int :=
  (List.range 8).map (fun c => nodes.getD (getField (s.rdN (Trace.trSel n)) (8 * c) 8) 0)

/-- A trigger of one rail reaches the rails linked to it at their next sample edge (R234). -/
def State.linkTraces (s : State) (n : Nat) : State :=
  forEach railList (fun k s =>
    if s.rd (Trace.trCtrl k) = 1 && s.bit (Trace.trLink k) n then
      s.setLoop k { s.loop k with traceCause := some (min 4 ((s.loop k).traceCause.getD 4)) } else s) s

/-- The trace at a sample edge (R233, R234): a trigger of any kind that comes before PRE samples are held waits for them (log 23). -/
def State.traceEdge (s : State) (n : Nat) (vs off act : Int) (ce change : Bool) : State :=
  let l := s.loop n
  let nodes := s.traceNodes n vs off act ce change
  let pre := s.rdN (Trace.trPre n)
  let smp := s.traceSample n nodes
  let lvl := s.levelTrigger n l.nodes nodes
  let s1 := s.setLoop n { l with nodes := nodes }
  match s.rd (Trace.trCtrl n) with
  | 1 =>
    let cause := if lvl then some (min 1 (l.traceCause.getD 1)) else l.traceCause
    let held := l.trace.drop (l.trace.length - pre)
    if decide (pre ≤ l.trace.length) && cause.isSome then
      let s2 := s1.setLoop n { s1.loop n with trace := held ++ [smp], traceCause := none }
      (((((s2.wr (Trace.trCtrl n) 2).wr (Trace.trBeat n) s.beat).wr (Trace.trTick n) s.tick).wr (Trace.trCause n)
        (cause.getD 0 : Nat))).linkTraces n
    else s1.setLoop n { s1.loop n with trace := held ++ [smp], traceCause := cause }
  | 2 => if l.trace.length < 4096 then s1.setLoop n { s1.loop n with trace := l.trace ++ [smp] } else s1
  | _ => s1

/-- TR_CTRL ARM (R234), from IDLE or DONE. -/
def State.trArm (s : State) (n : Nat) : State :=
  if s.rd (Trace.trCtrl n) = 0 || s.rd (Trace.trCtrl n) = 3 then
    ((s.setLoop n { s.loop n with trace := [], traceFrozen := [], traceCause := none }).wr (Trace.length n) 0).wr (Trace.trCtrl n) 1
  else s
/-- TR_CTRL FORCE (R234): as a trigger, cause 3, at the next sample edge; outside ARMED no effect. -/
def State.trForce (s : State) (n : Nat) : State :=
  if s.rd (Trace.trCtrl n) = 1 then
    s.setLoop n { s.loop n with traceCause := some (min 3 ((s.loop n).traceCause.getD 3)) } else s
/-- TR_CTRL STOP (R234). -/
def State.trStop (s : State) (n : Nat) : State :=
  if s.rd (Trace.trCtrl n) = 1 || s.rd (Trace.trCtrl n) = 2 then
    ((s.setLoop n { s.loop n with trace := [], traceCause := none }).wr (Trace.length n) 0).wr (Trace.trCtrl n) 0 else s

def execTrArm (n : Fin 8) (s : State) : Host.Outcome State Fault Refusal := done (s.hostRow (fun s => (s.trArm n).cause 1))
def execTrForce (n : Fin 8) (s : State) : Host.Outcome State Fault Refusal := done (s.hostRow (fun s => (s.trForce n).cause 1))
def execTrStop (n : Fin 8) (s : State) : Host.Outcome State Fault Refusal := done (s.hostRow (fun s => (s.trStop n).cause 1))

/-- TRACE_DONE (R234): 4,096 samples are held. -/
def execTraceDone (n : Fin 8) (s : State) : Host.Outcome State Fault Refusal :=
  done (if s.rd (Trace.trCtrl n) = 2 && decide (4096 ≤ (s.loop n).trace.length) then
    (((s.setLoop n { s.loop n with traceFrozen := (s.loop n).trace, trace := [] }).wr (Trace.length n) 131072).bump
      (Trace.gen n)).wr (Trace.trCtrl n) 3 else s)

/-! ### The loop period -/

/-- Whether this HCLK is a rail's sample edge that has not been taken (R220). -/
def State.sampleEdge (s : State) (n : Nat) : Bool := s.edgeHclk n && (s.loop n).sampledAt ≠ some s.hclk

/-- One loop period of a rail (R220). -/
def State.loopPeriod (s0 : State) (n : Nat) (m : LoopIn) : State :=
  let vs : Int := m.vs.toNat
  let s := s0.reconcile.setLoop n { s0.loop n with sampledAt := some s0.hclk }
  let s1 := ((((s.energyEdges n ⟨m.edges, m.actQ, m.actPt⟩ (m.pre.getD ⟨[], [], []⟩)).takeReadings n m).addPeriod n (s.onState n)).sumPower n)
  let changes0 := s1.rd (Loop.regionChanges n)
  let active := s1.railState n = 2 || s1.regulating n
  let s2 := if active then
      let a := (((s1.advanceRamp n).takeTarget n).runFilters n m).fetchAccesses m
      let b := (a.showLoopState n).wr (Loop.delayMax n) (max (a.rd (Loop.delayMax n)) (a.rd (Loop.delayLast n)))
      ((((b.updateSettled n vs).rampDone n vs).addShed n).updateDiode n).balance n
    else s1.applyCommit n
  let s3 := ((s2.sendThresholds n).followError n vs).updateOffset n
  s3.traceEdge n vs (s1.rd (UbRail.offsetNow n)) (s1.rd (Rail.phActive n)) (m.ce.val ≠ 0) (s3.rd (Loop.regionChanges n) ≠ changes0)

/-- LOOP_SAMPLE at a sample edge; anywhere else the engine takes nothing (R220). -/
def State.loopSample (s : State) (n : Nat) (m : LoopIn) : State := if s.sampleEdge n then s.loopPeriod n m else s

/-- LOOP_SAMPLE. -/
def execLoopSample (n : Fin 8) (m : LoopIn) (s : State) : Host.Outcome State Fault Refusal := done (s.loopSample n m)

/-- REGION_CHANGE (R225, R226): the period in which the selected region changes. -/
def execRegionChange (n : Fin 8) (m : LoopIn) (s : State) : Host.Outcome State Fault Refusal :=
  let s1 := s.takeReadings n m
  done (if s.sampleEdge n && (s1.railState n = 2 || s1.regulating n) && decide (s1.selectRegion n ≠ (s1.loop n).lastRegion) then s.loopSample n m else s)

/-! ### Hub arbitration (R237) -/

/-- E_PROMOTION (R237): a level E request that has waited E_PROMOTE_AT is promoted, to take the next grant ahead of levels C and D. It is one
of those that wait, or of a requester the model does not hold, which then waits from that HCLK. -/
def State.ePromote (s : State) (wait : Nat) : State :=
  let since := s.hclk - wait
  let req : FabReq := ⟨4, 4, since, [], true⟩
  let mine := fun (r : FabReq) => r.level = 4 && !r.promoted && r.since = since
  if s.rdN Arb.ePromoteAt ≤ wait then
    ({ s with arb := { s.arb with
        waiting := if s.arb.waiting.any mine then s.arb.waiting.map (fun r => if mine r then { r with promoted := true } else r)
          else s.arb.waiting ++ [req] } }).bump Arb.ePromotions
  else s

/-- E_PROMOTION. -/
def execEPromotion (wait : BitVec 16) (s : State) : Host.Outcome State Fault Refusal := done (s.ePromote wait.toNat)

end Sys2Proof.Machine
end

