-- ==== Sys2Proof/Machine/Droop.lean ====
section
/-! DEFINITION. The droop response (spec/05): the Snare detectors and the stretch (rung 3), Upbeat announcements, pre-fire and
pre-positioning, and the precision sets. -/

namespace Sys2Proof.Machine

/-! ### Snare (R152 to R159) -/

/-- The period of a domain's output edges in 1/1000 HCLK: 64/(code × F_TABLE), 1/ALT_FREQ, or that of SAFE, 16 HCLK (R195). -/
def State.cdPeriod (s : State) (c : Nat) : Nat :=
  let of_ := fun (num : Nat) (den : Int) => if den ≤ 0 then 16000 else (max 1 (divOpen 46 num den)).toNat
  match s.rdN (Cd.srcNow c) with
  | 0 => of_ 51200000 (s.rd (Cd.ratioOut c) * s.rd (Cd.fTable c))
  | 1 => of_ 800000 (s.rd (Cd.altFreq c))
  | _ => 16000

/-- A stretched edge of a domain at its delayed time (R155, R156): the counters of its beat, the last stretch, and rung 3 from the first
one (R158), with the code at the DCO at the trip as its ceiling. -/
def State.stretchEdge (s : State) (c q : Nat) : State :=
  let r := s.snare c
  let s1 := s.setSnare c { r with rung3 := true, lastAt := s.hclk, beatEdges := r.beatEdges + 1, beatLostq := r.beatLostq + q }
  let s2 := ((s1.bump (Snare.snEdges c)).bump (Snare.snLostq c) q).wr (Snare.snLastStretch c) s.beat
  if r.rung3 then s2
  else (s2.setRange 3 (aRatio c) (some (s.rd (Cd.minCode c), r.tripCode))).reeval (aRatio c)

/-- Inputs of a domain's detectors release. -/
def State.snareClear (s : State) (c m : Nat) : State :=
  s.wr (Snare.snTripped c) (s.rdN (Snare.snTripped c) ^^^ (s.rdN (Snare.snTripped c) &&& m) : Nat)

/-- The DCU's output edges are followed from a trip on: `next` is the nominal time of the next one, in 1/1000 HCLK. -/
def State.followEdges (s : State) (c next : Nat) : State :=
  if (s.snare c).edge.isSome then s
  else s.setSnare c { s.snare c with edge := some next, tripCode := s.rd (Cd.ratioOut c) }

/-- CLK_OBS follows a domain's stretches: its next edge comes later (R214). -/
def State.delayObs (s : State) (c d : Nat) : State :=
  if s.obs.src = 6 * 256 + c then { s with obs := { s.obs with edgeAt := s.obs.edgeAt + d } } else s

/-- The stretch check of the next output edge (R155): a domain that is tripped 0.5 ns before its nominal time delays it by STRETCH_Q quarter
periods; releases that waited for the check take place (R152). -/
def State.stretchCheck (s : State) (c : Nat) : State :=
  let r := s.snare c
  match r.edge with
  | none => s
  | some e =>
    let p := s.cdPeriod c
    let q := s.rdN (Snare.stretchQ c)
    let hit := decide (s.rd (Snare.snTripped c) ≠ 0)
    let t := if hit then e + (divOpen 47 (q * p : Nat) 4).toNat else e
    ((s.setSnare c { r with
      edge := some (t + p), held := 0, relDue := 0, due := if hit then r.due ++ [(t, q)] else r.due }).snareClear c r.relDue).delayObs c
      (t - e)

/-- The stretch checks before an instant in 1/1000 HCLK: 0.5 ns, 400 of these units, before the nominal edge. -/
def State.stretchChecks (s : State) (c limit : Nat) : Nat → State
  | 0 => s
  | k + 1 => match (s.snare c).edge with
    | some e => if e < limit + 400 then (s.stretchCheck c).stretchChecks c limit k else s
    | none => s

/-- The stretched edges that come before an instant. -/
def State.stretchesDue (s : State) (c limit : Nat) : State :=
  let r := s.snare c
  forEach (r.due.filter (fun e => decide (e.1 < limit))) (fun e s => s.stretchEdge c e.2)
    (s.setSnare c { r with due := r.due.filter (fun e => decide (limit ≤ e.1)) })

/-- The output edges of a tripped domain in this HCLK (R155, R157): none while its output is held. DESIGN CHOICE, log 116: where output
edges return to a domain that is tripped, the first nominal edge is taken one period after that HCLK; R155 does not place it. -/
def State.snareHclk (s : State) (c : Nat) : State :=
  let limit := 1000 * (s.hclk + 1)
  if !s.hasEdges c then s.setSnare c { s.snare c with edge := none, due := [], held := 0 }
  else
    let s1 := if s.rd (Snare.snTripped c) = 0 then s else s.followEdges c (1000 * s.hclk + s.cdPeriod c)
    let s2 := (s1.stretchChecks c limit 16).stretchesDue c limit
    if s2.rd (Snare.snTripped c) = 0 && (s2.snare c).due = [] then s2.setSnare c { s2.snare c with edge := none } else s2

/-- The tripped domains, and those with edges still to come. -/
def State.snareTick (s : State) : State :=
  forEach (cdList.filter (fun c => s.rd (Snare.snTripped c) ≠ 0 || (s.snare c).edge.isSome)) (fun c s => s.snareHclk c) s

/-- A detector whose release was noted falls below its threshold again, or its MGN bit rises: it stays tripped (R152). -/
def State.keepTripped (s : State) (c k : Nat) : State :=
  let r := s.snare c
  s.setSnare c { r with relDue := r.relDue ^^^ (r.relDue &&& (2 ^ k + 2 ^ (k + 4))) }

/-- From a trip to the first output edge whose nominal time is at least 0.5 ns after it, in 1/1000 HCLK (R155): `toEdge` to the next edge,
the edges p apart. -/
def firstStretch (toEdge p : Nat) : Nat := if 400 ≤ toEdge then toEdge else toEdge + p * ((400 - toEdge + (p - 1)) / p)

/-- SNARE_TRIP (R152, R155, R157): an enabled input trips its detector. `toEdge`: from now to the domain's next nominal output edge, in
1/1000 HCLK; the first edge stretched is the first at least 0.5 ns away. -/
def State.snareTrip (s0 : State) (c inp toEdge : Nat) : State :=
  if s0.headOff c inp then s0 else
  let k := inp % 4
  let s1 := if inp < 4 then s0 else s0.setSnare c { s0.snare c with mgn := (s0.snare c).mgn ||| 2 ^ k }
  let s := if decide (4 ≤ inp) || s0.snareLive c then s1.keepTripped c k else s1
  if !s.bit (Snare.snMask c) inp || s.bit (Snare.snTripped c) inp || (decide (inp < 4) && !s.snareLive c) then s
  else
    let was := s.bit (Snare.snTripped c) ((inp + 4) % 8)
    let s1 := s.wrBit (Snare.snTripped c) inp true
    let s2 := if was then s1 else s1.bump (Snare.snTrips c k)
    if !s.hasEdges c then (if was then s2 else s2.bump (Snare.snUnstretched c))
    else
      let s3 := s2.followEdges c (1000 * s.hclk + firstStretch toEdge (max 1 (s.cdPeriod c)))
      s3.setSnare c { s3.snare c with held := (s3.snare c).held ||| 2 ^ k }

/-- SNARE_TRIP. -/
def execSnareTrip (c : Fin 64) (i : SagIn) (s : State) : Host.Outcome State Fault Refusal := done (s.snareTrip c i.inp i.toEdge.toNat)

/-- Whether the voltage of a detector lets it release (R152, R154): at or above the threshold plus SN_HYST; always below 0.30 V. -/
def State.snareHigh (s : State) (c : Nat) (v : Int) : Bool :=
  !s.snareLive c || decide (s.rd (Snare.snThr c) + s.rd Upbeat.snHyst ≤ v)

/-- SNARE_RELEASE (R152): the voltage at a detector's sense head, or its MGN bit sampled low (inputs 4 to 7) with the voltage there. The
detector releases where both hold, after the next stretch check at the earliest. DESIGN CHOICE, log 115: in a domain with no output edges, to
which no stretch check comes, it releases at once, and R152 does not say what its hold to the next check means there. -/
def State.snareRelease (s0 : State) (c inp : Nat) (v : Int) : State :=
  let k := inp % 4
  let s := if inp < 4 then s0
    else s0.setSnare c { s0.snare c with mgn := (s0.snare c).mgn ^^^ ((s0.snare c).mgn &&& 2 ^ k) }
  if !s.snareHigh c v || (s.snare c).mgn.testBit k then s
  else if s.hasEdges c && (s.snare c).held.testBit k then
    s.setSnare c { s.snare c with relDue := (s.snare c).relDue ||| (2 ^ k + 2 ^ (k + 4)) }
  else s.snareClear c (2 ^ k + 2 ^ (k + 4))

/-- SNARE_RELEASE. -/
def execSnareRelease (c : Fin 64) (inp : Fin 8) (v : BitVec 16) (s : State) : Host.Outcome State Fault Refusal :=
  done (s.snareRelease c inp v.toNat)

/-- SNARE_RUNG_RELEASE (R158): 1 µs after the last stretched edge. -/
def execSnareRungRelease (c : Fin 64) (s : State) : Host.Outcome State Fault Refusal :=
  done (if (s.snare c).rung3 && s.elapsed (s.snare c).lastAt 800 then
    ((s.setSnare c { s.snare c with rung3 := false }).setRange 3 (aRatio c) none).reeval (aRatio c) else s)

/-- A parameter saturates at 0xFFFF_FFFF (R158). -/
def sat32 (v : Nat) : Int := min v 0xFFFFFFFF

/-- SNARE_BEAT_END (R158): the beat that has just ended; the quarter cycles lost in it, to stretching and to switches, for R316. -/
def State.snareBeatEnd (s : State) (c : Nat) : State :=
  let r := s.snare c
  let sw := s.rd (Cd.swLostCyc c)
  let clear := { r with endBeat := some s.beat, beatEdges := 0, beatLostq := 0, swAt := sw, lostLast := r.beatLostq + 4 * (sw - r.swAt) }
  if s.rdN (Snare.snBurstThr c) < r.beatEdges then
    s.setSnare c { clear with
      runBeats := r.runBeats + 1, runEdges := r.runEdges + r.beatEdges, runLostq := r.runLostq + r.beatLostq }
  else if r.runBeats = 0 then s.setSnare c clear
  else
    ((s.setSnare c { clear with runBeats := 0, runEdges := 0, runLostq := 0 }).bump (Snare.snBurstRuns c)).recordAt { s.stamp with beat := s.beat - 1, tick := 1023 }
      false (srcCd c) 0x0301 (sat32 r.runBeats) (sat32 r.runEdges) (sat32 r.runLostq)

/-- Whether a beat has just ended and a domain's counts of it have not been taken (R158). -/
def State.burstDue (s : State) (c : Nat) : Bool := s.beatHclk % 800 = 0 && (s.snare c).endBeat ≠ some s.beat

/-- The quarter cycles a domain lost in the last full beat, whether or not its counts have been taken (R316). -/
def State.lostBeat (s : State) (c : Nat) : Int :=
  let r := s.snare c
  if s.burstDue c then r.beatLostq + 4 * (s.rd (Cd.swLostCyc c) - r.swAt) else r.lostLast

/-- SNARE_BEAT_END (R158): `beat` is the one that has just ended. -/
def execSnareBeatEnd (c : Fin 64) (beat : Word64) (s : State) : Host.Outcome State Fault Refusal :=
  done (if s.burstDue c && decide (s.beat = beat.toNat + 1) then s.snareBeatEnd c else s)

/-- SN_SNAP (R156). -/
def State.snSnap (s : State) (c : Nat) : State :=
  (((s.wr (Snare.snapEdges c) (s.rd (Snare.snEdges c))).wr (Snare.snapLostq c) (s.rd (Snare.snLostq c))).wr (Snare.snapBeat c)
    s.beat).cmdDone (Snare.snSnap c) 1

/-- SN_SNAP. -/
def execSnSnap (c : Fin 64) (s : State) : Host.Outcome State Fault Refusal := done (s.hostRow (fun s => s.snSnap c))

/-! ### Precision sets (R173, R174) -/

/-- The mode a QSEL of a lane holds: 0 to 3, or 0xF. -/
def State.qmodeOf (s : State) (l k : Nat) : Nat := getField (s.rdN (Lane.qmode l)) (4 * k) 4

/-- The precision set of a domain as bits; an empty set, and UB_EN 0, count as all four (R173, R177). -/
def State.precisionSet (s : State) (c : Nat) : Nat :=
  let lanes := (List.range 32).filter (fun l => s.rdN (Lane.laneCd l) = c)
  let set := lanes.foldl (fun m l => (List.range 16).foldl (fun m k => if s.qmodeOf l k < 4 then m ||| 2 ^ s.qmodeOf l k else m) m) 0
  if set = 0 || s.rd Upbeat.ubEn = 0 then 15 else set

/-- Bring PREC_SET and the interlock code of a domain up to its queues (R174). -/
def State.refreshPrec (s : State) (c : Nat) : State :=
  let set := s.precisionSet c
  if s.rdN (Snare.precSet c) = set then s else (s.wr (Snare.precSet c) set).refreshVf c

/-- Store the mode of a QSEL. -/
def State.setQmode (s : State) (l k m : Nat) : State :=
  (s.wr (Lane.qmode l) (putField (s.rdN (Lane.qmode l)) (4 * k) 4 m)).refreshPrec (s.rdN (Lane.laneCd l))

/-! ### Plans (R161, R165 to R171) -/

/-- The unfired pulses of a rail (3208+n:10). -/
def State.showPulses (s : State) (n : Nat) : State :=
  s.wr (UbRail.pendingPulses n) (s.upbeat.pulses.filter (fun p => p.rail = n)).length

/-- Drop the plan of an announcement: its unfired pulses, counted, and its offset contribution (R161, R168). -/
def State.dropPlan (s : State) (id n : Nat) : State :=
  let k := (s.upbeat.pulses.filter (fun p => p.id = id)).length
  let s1 : State := { s with
    upbeat := { s.upbeat with
      pulses := s.upbeat.pulses.filter (fun p => p.id ≠ id), offsets := s.upbeat.offsets.filter (fun o => o.id ≠ id) } }
  (s1.bump (UbRail.pfDropped n) k).showPulses n

/-- The pending announcement of a queue (R161). -/
def State.pendingAnn (s : State) (q : Nat) : Option Ann := s.upbeat.anns.find? (fun a => a.q = q && a.cmdEdge.isNone && !a.retracted)

/-- Remove an announcement. -/
def State.removeAnn (s : State) (id : Nat) : State :=
  { s with upbeat := { s.upbeat with anns := s.upbeat.anns.filter (fun a => a.id ≠ id) } }

/-- Replace an announcement. -/
def State.putAnn (s : State) (a : Ann) : State :=
  { s with upbeat := { s.upbeat with anns := s.upbeat.anns.map (fun b => if b.id = a.id then a else b) } }

/-- Withdraw the pending announcement of a queue, counting it where `ctr` says, if there is one. -/
def State.withdraw (s : State) (q n : Nat) (ctr : Option Nat) : State :=
  match s.pendingAnn q with
  | some a =>
    let s1 := (s.removeAnn a.id).dropPlan a.id n
    match ctr with | some k => s1.bump k | none => s1
  | none => s

/-- The current step of an announcement in 10 mA × 64 (R164). -/
def State.stepOf (s : State) (cls prec : Nat) : Int :=
  s.rd (ClassTab.classStep0 + cls) * (getField (s.rdN Upbeat.precScale) (8 * prec) 8 : Int)

/-- The pulses of a plan (R165): number and on-time. -/
def State.pulsePlan (s : State) (n : Nat) (step64 : Int) : Nat × Int :=
  let amps := s.rd (UbRail.pfAmps n)
  let k := min (divCeil step64 (64 * amps)) (s.rd (UbRail.pfPulseMax n))
  let l := (s.actList n).foldl (fun m p => max m (s.rd (Ph.phL p))) 0
  let dv := s.rd (Rail.vinBus n) - s.rd (Rail.vout n)
  let t := if 0 < dv then divNear 42 (amps * 128 * l) (5 * dv) else s.freeVal 41
  (k.toNat, clampI 16 (s.rd (UbRail.pfTonMax n)) t)

/-- A plan at receipt (R165). -/
def State.makePlan (s : State) (a : Ann) (n c : Nat) (step64 : Int) : State :=
  let mode := s.rdN (UbRail.ubMode n)
  let now8 : Int := (8 * s.hclk : Nat)
  let den := s.rd (Cd.ratioRes c) * s.rd (Cd.fTable c)
  let arr := now8 - 64 + divOpen 43 ((a.lead : Int) * 409600) den
  let pp := s.pulsePlan n step64
  let t1 := max (now8 + 128) (arr - pp.2 - (((pp.1 - 1) / 2 : Nat) : Int) * 32)
  let fit := min pp.1 (256 - (s.upbeat.pulses.filter (fun p => p.rail = n)).length)
  let starts := (List.range fit).map (fun (j : Nat) => 4 * divCeil (t1 + 32 * (j : Int)) 4)
  let pulses := starts.map (fun t => (⟨a.id, n, a.q, a.lane, a.qsel, t, pp.2, decide (a.wend8 + 384 < t)⟩ : Pulse))
  let s1 := if mode.testBit 1 then
      let s2 : State := { s with upbeat := { s.upbeat with pulses := s.upbeat.pulses ++ pulses } }
      ((when (decide (fit < pp.1)) (fun s => s.bump (UbRail.pfTrunc n)) s2).showPulses n).addUpTo n (min pp.1 (s.phCeil n).toNat)
    else s
  let off := min (step64 * s.rd (UbRail.preposGain n) / 16000000 * 10) (s.rd (UbRail.preposMax n))
  let start := max (now8 + 128) (arr - divOpen 44 (32 * s.rd (UbRail.preposLead n)) 5)
  let s3 : State := if mode.testBit 0 then
      { s1 with upbeat := { s1.upbeat with offsets := s1.upbeat.offsets ++ [⟨a.id, n, a.q, off, start, none⟩] } }
    else s1
  (when (mode ≠ 0) (fun s => s.traceEvent n 7) s3).useFree

/-- An accepted announcement (R161, R164, R165, R171, R173); a CMD_START sampled after its sampling edge and before its receipt matches it
(R162). -/
def State.announce (s : State) (l : Nat) (w : Nat) (q : Nat) : State :=
  let n := s.rdN (Lane.laneRail l)
  let c := s.rdN (Lane.laneCd l)
  let qsel := getField w 28 4
  let prec := getField w 22 2
  let s1 := (s.withdraw q n (some (Lane.superseded l))).setQmode l qsel prec
  let lead := getField w 10 12
  let den := s1.rd (Cd.ratioRes c) * s1.rd (Cd.fTable c)
  let wend := ((8 * s.hclk : Nat) : Int) - 64 + divOpen 45 ((lead + 32 : Nat) * 409600) den
  let e := s1.upbeat.early.find? (fun e => e.q = q)
  let a : Ann := ⟨s.upbeat.nextId, q, l, qsel, getField w 24 4, lead, wend, e.map (fun e => e.newEdge), (e.map (fun e => e.at_)).getD 0, false⟩
  let s2 : State := { s1 with
    upbeat := { s1.upbeat with
      nextId := s1.upbeat.nextId + 1, anns := s1.upbeat.anns ++ [a], early := s1.upbeat.early.filter (fun e => e.q ≠ q) } }
  let step := s2.stepOf a.cls prec
  if s2.suppressed n then s2.bump (UbRail.annSuppressed n)
  else if step = 0 then s2 else s2.makePlan a n c step

/-! ### Matching (R162, R163, R167 to R169) -/

/-- The lane that a queue lies on. -/
def State.laneOf (s : State) (q : Nat) : Option Nat :=
  (List.range 32).find? (fun l => (List.range 16).any (fun k => s.rdN (Lane.qmap l k) = q))

/-- A CMD_START of a lane's queue against its pending announcement (R162, R163): it matches at an edge after the sampling edge, else it is
unannounced. -/
def State.classifyStart (s : State) (l q edge at_ : Nat) : State :=
  match s.pendingAnn q with
  | some a => if 0 < edge then s.putAnn { a with cmdEdge := some edge, cmdAt := at_ } else s.bump (Lane.unannounced l)
  | none => s.bump (Lane.unannounced l)

/-- Whether Upbeat listens to a lane (R177, R180). -/
def State.laneOn (s : State) (l : Nat) : Bool := s.rd Upbeat.ubEn ≠ 0 && s.rd (Lane.laneEn l) ≠ 0

/-- A CMD_START of a lane's queue (R162, R176): `edge` counts from the sampling edge of the queue's pending announcement; `inFlight`, where it
is not 0, from that of an announcement of the queue that has not been received yet. -/
def State.upbeatCmdStart (s : State) (q edge inFlight : Nat) : State :=
  match s.laneOf q with
  | none => s
  | some l =>
    if !s.laneOn l then s
    else if inFlight = 0 then s.classifyStart l q edge s.hclk
    else if s.upbeat.early.any (fun e => e.q = q) then s.bump (Lane.unannounced l)
    else { s with upbeat := { s.upbeat with early := s.upbeat.early ++ [⟨q, edge, inFlight, s.hclk⟩] } }

/-- A CMD_START that waited for an announcement on its way is classified without it. -/
def State.settleStart (s : State) (e : EarlyStart) : State :=
  let s1 : State := { s with upbeat := { s.upbeat with early := s.upbeat.early.filter (fun x => x.q ≠ e.q) } }
  match s.laneOf e.q with
  | some l => if s.laneOn l then s1.classifyStart l e.q e.edge e.at_ else s1
  | none => s1

/-- Those of a list. -/
def State.settleStarts (s : State) (f : EarlyStart → Bool) : State :=
  forEach (s.upbeat.early.filter f) (fun e s => s.settleStart e) s

/-- An announcement word at its receipt (R58, R160, R161): checks in the order of R58, then the word's own CANCEL bit. -/
def State.upbeatWord (s : State) (l : Nat) (word : Word32) (gap : Nat) : State :=
  let w := word.toNat
  let q := s.rdN (Lane.qmap l (getField w 28 4))
  if !s.laneOn l then s
  else if gap ≤ 3 then s.bump (Lane.discSpacing l)
  else if parityOdd 32 w then s.bump (Lane.discParity l)
  else if getField w 2 8 ≠ 0 || q = 0xFFFF then s.bump (Lane.discFormat l)
  else
    let s1 := ((s.bump (Lane.accepted l)).bump Upbeat.ubAccepted).wr (Lane.lastWord l) w
    if w.testBit 1 then
      ((s1.bump (Lane.cancels l)).withdraw q (s.rdN (Lane.laneRail l)) none).settleStarts (fun e => e.q = q)
    else s1.announce l w q

/-- UPBEAT_ANNOUNCE. `gap`: domain cycles since the lane's previous announcement. -/
def execUpbeatAnnounce (l : Fin 32) (word : Word32) (gap : Byte) (s : State) : Host.Outcome State Fault Refusal :=
  done (s.upbeatWord l word gap.toNat)

/-- UPBEAT_CANCEL. -/
def execUpbeatCancel (l : Fin 32) (word : Word32) (gap : Byte) (s : State) : Host.Outcome State Fault Refusal :=
  done (s.upbeatWord l word gap.toNat)

/-- The release of pulses and the start of the offset hold at a report: which pulses fire from now. -/
def State.reportPlan (s : State) (a : Ann) (now : Pulse → Bool) : State :=
  let t8 : Int := (8 * s.hclk : Nat)
  { s with
    upbeat := { s.upbeat with
      pulses := s.upbeat.pulses.map (fun p =>
        if p.id = a.id then { p with held := false, start8 := if now p then min p.start8 t8 else p.start8 } else p),
      offsets := s.upbeat.offsets.map (fun o => if o.id = a.id then { o with arrival := some a.cmdAt } else o) } }

/-- UPBEAT_LATE (R169). -/
def State.recordLate (s : State) (a : Ann) (outcome lateness : Nat) : State :=
  s.record (srcCd (s.rdN (Lane.laneCd a.lane))) 0x0302 (a.lane * 256 + a.qsel : Nat) (a.cls * 256 + outcome : Nat) lateness

/-- A match report (R163, R167, R168). -/
def State.matchReport (s : State) (a : Ann) (e : Nat) : State :=
  let s1 := s.removeAnn a.id
  if e + 32 < a.lead then
    (if a.retracted then s1 else s1.reportPlan a (fun _ => true)).bump (Lane.early a.lane)
  else if e ≤ a.lead + 32 then
    (if a.retracted then s1 else s1.reportPlan a (fun _ => false)).bump (Lane.hits a.lane)
  else if a.retracted then s1
  else
    (((s1.reportPlan a (fun p => p.held)).bump (Lane.lateCaught a.lane)).wr (Lane.lastLate a.lane) (e - a.lead - 32 : Nat)).recordLate a
      1 (e - a.lead - 32)

/-- MATCH_REPORT. -/
def execMatchReport (q : Fin 512) (s : State) : Host.Outcome State Fault Refusal :=
  done (match s.upbeat.anns.find? (fun a => a.q = q.val && a.cmdEdge.isSome) with
    | some a => s.matchReport a (a.cmdEdge.getD 0)
    | none => s)

/-- UPBEAT_RETRACT (R168): t_wend + RETRACT_NS has passed without a report. An announcement whose CMD_START is under way stays
for its report, which wins where it comes in this HCLK (R176); else it is no longer pending. -/
def State.retract (s : State) (q : Nat) : State :=
  match s.upbeat.anns.find? (fun a => a.q = q && !a.retracted) with
  | none => s
  | some a =>
    let n := s.rdN (Lane.laneRail a.lane)
    let reported := a.cmdEdge.isSome && s.comes (fun i => match i with | .matchReport k => k.val = q | _ => false)
    if reported then s
    else if 5 * a.wend8 + 32 * s.rd (UbRail.retractNs n) ≤ 5 * ((8 * s.hclk : Nat) : Int) then
      let s1 := if a.cmdEdge.isSome then s.putAnn { a with retracted := true } else s.removeAnn a.id
      ((s1.dropPlan a.id n).bump (Lane.lateRetracted a.lane)).recordLate a 2 0
    else s

/-- UPBEAT_RETRACT. -/
def execUpbeatRetract (q : Fin 512) (s : State) : Host.Outcome State Fault Refusal := done (s.retract q)

/-- PREPOS_HOLD_END (R170): PREPOS_HOLD has elapsed since the arrival. -/
def execPreposHoldEnd (q : Fin 512) (s : State) : Host.Outcome State Fault Refusal :=
  let isOver := fun (o : Offset) => o.q = q.val && (match o.arrival with
    | some t => decide (4 * s.rd (UbRail.preposHold o.rail) ≤ 5 * ((s.hclk : Int) - t)) | none => false)
  done { s with upbeat := { s.upbeat with offsets := s.upbeat.offsets.filter (fun o => !isOver o) } }

/-- Whether ACT_Qnnn of a queue has read 0 for PREC_IDLE (R173); activity that a loop sample shows lies in the 40 HCLK before it. -/
def State.queueIdle (s : State) (q : Nat) : Bool :=
  decide (tabGet (fun _ => 0) s.upbeat.busyAt q + 800 * s.rdN Upbeat.precIdle ≤ s.hclk + 40)

/-- PREC_IDLE_EXPIRY (R173): a queue idle for PREC_IDLE drops its mode, unless an announcement is pending. -/
def execPrecIdleExpiry (q : Fin 512) (s : State) : Host.Outcome State Fault Refusal :=
  done (if (s.pendingAnn q).isSome || !s.queueIdle q then s
    else forEach (List.range 32) (fun l s => forEach (List.range 16) (fun k s =>
      if s.rdN (Lane.qmap l k) = q.val && s.qmodeOf l k ≠ 15 then s.setQmode l k 15 else s) s) s)

/-- The order of the due pulses of a rail (R166): start, lane, QSEL. -/
def pulseBefore (p r : Pulse) : Bool :=
  decide (p.start8 < r.start8) || (p.start8 = r.start8 && (decide (p.lane < r.lane) || (p.lane = r.lane && decide (p.qsel < r.qsel))))

/-- The oldest due pulse of a rail (R166). -/
def State.duePulse (s : State) (n : Nat) : Option Pulse :=
  (s.upbeat.pulses.filter (fun p => p.rail = n && !p.held && decide (p.start8 ≤ ((8 * s.hclk : Nat) : Int)))).foldl
    (fun b p => match b with | none => some p | some r => if pulseBefore p r then some p else some r) none

/-- Remove one pulse. -/
def State.erasePulse (s : State) (p : Pulse) : State :=
  ({ s with upbeat := { s.upbeat with pulses := s.upbeat.pulses.erase p } }).showPulses p.rail

/-- PREFIRE_PULSE (R146, R166): a pending trigger takes next_phase first; under the inhibit the pulse is counted and not
fired, under an over-voltage clamp it waits for the latch that drops it (R141). -/
def State.prefire (s : State) (n : Nat) : State :=
  match s.duePulse n with
  | none => s
  | some p =>
    if (s.rail n).ovClamp then s
    else if (s.rail n).inhibit then (s.erasePulse p).bump (UbRail.pfSuppressed n)
    else
      let s1 := (s.triggerFirst n).tryFire n
      if s1.fireSpaced n then
        match s1.nextPhase n with
        | (s2, some ph) => (((s2.erasePulse p).fire n ph p.ton)).bump (UbRail.pfPulses n)
        | (s2, none) => s2
      else s1

/-- PREFIRE_PULSE. -/
def execPrefirePulse (n : Fin 8) (s : State) : Host.Outcome State Fault Refusal := done (s.prefire n)

/-- UB_EN 0 (R177): no plans, nothing is matched or counted; every precision set counts as all four modes. -/
def State.upbeatOff (s : State) : State :=
  let s1 : State := { s with upbeat := { s.upbeat with anns := [], pulses := [], offsets := [], early := [] } }
  forEach cdList (fun c s => s.refreshPrec c) (forEach railList (fun n s => s.showPulses n) s1)

/-- LANE_DISABLE (R180): the lane is ignored; its pending announcements are withdrawn as cancels. -/
def State.laneDisable (s : State) (l : Nat) : State :=
  forEach ((s.upbeat.anns.filter (fun a => a.lane = l && a.cmdEdge.isNone && !a.retracted)).map (fun a => a.q)) (fun q s =>
    s.withdraw q (s.rdN (Lane.laneRail l)) (some (Lane.cancels l))) (s.wr (Lane.laneEn l) 0)

/-- LANE_DISABLE. -/
def execLaneDisable (l : Fin 32) (s : State) : Host.Outcome State Fault Refusal := done (s.hostRow (fun s => (s.laneDisable l).markRws (Lane.laneEn l)))

end Sys2Proof.Machine
end

