-- ==== Sys2Proof/Machine/Energy.lean ====
section
/-! DEFINITION. The commands of energy accounting and of window control (spec/11): CMD_START, the reconciliation, the snapshot,
WIN_EN. -/

namespace Sys2Proof.Machine

/-! ### Command energy (R342, R343) -/

/-- CMD_START (R342, R349): the command accumulator, and the completed command's item. -/
def State.rollCommand (s : State) (q beforeAct beforeEdges startAct : Nat) : State :=
  let s1 := s.rollAcc q beforeAct beforeEdges startAct
  let last := s1.rdN (QEn.cmdLast q)
  s1.commandItem q (last / 2 ^ 48) (s1.rdN (QEn.cmdLastCyc q)) (last % 2 ^ 48)

/-- CMD_START (R60, R163, R342): the command accumulator and Upbeat's match. -/
def execCmdStart (q : Fin 512) (e : StartEdge) (beforeAct beforeEdges : BitVec 16) (startAct : BitVec 3) (s : State) :
    Host.Outcome State Fault Refusal :=
  done ((s.rollCommand q beforeAct.toNat beforeEdges.toNat startAct.toNat).upbeatCmdStart q e.edge.toNat e.inFlight.toNat)

/-! ### Reconciliation (R339, R340) -/

/-- RECONCILE. -/
def execReconcile (s : State) : Host.Outcome State Fault Refusal := done s.reconcile

/-- RECONCILE_APPLY. -/
def execReconcileApply (s : State) : Host.Outcome State Fault Refusal := done s.reconcileApply

/-! ### Snapshot (R345) -/

/-- E_SNAP 1 (R345): instant B is the first beat start at least 64 HCLK after the write; rejected while one is pending. -/
def State.eSnapCmd (s : State) (x : Nat) : State :=
  if s.rd EnTel.eSnap = 1 then s.reject EnTel.eSnap x
  else ({ s with energy := { s.energy with snapAt := some ((s.beatHclk + 64 + 799) / 800 * 800) } }).wr EnTel.eSnap 1

/-- E_SNAP. -/
def execESnap (s : State) : Host.Outcome State Fault Refusal := done (s.hostRow (fun s => s.eSnapCmd 0))

/-- ENERGY_SNAPSHOT (R345): at instant B. -/
def State.energySnapshot (s0 : State) : State :=
  let s := s0.adjusted
  match s.energy.snapAt with
  | some b =>
    if b ≤ s.beatHclk then
      let s1 : State := { s with energy := { s.energy with snapAt := none } }
      let s2 := forEach railList (fun n t => t.wr (EnTel.railSnap n) (s.rd (EnTel.railEnergy n))) s1
      let s3 := forEach ptList (fun p t => t.wr (PEn.peSnap p) (s.rd (PEn.peTotal p))) s2
      let s4 := forEach (List.range 512) (fun q t =>
        (t.wr (QEn.qeSnap q) (s.rd (QEn.qeTotal q))).wr (QEn.cmdSnap q) (s.cmdView q)) s3
      (s4.wr EnTel.snapBeat (b / 800 : Nat)).cmdDone EnTel.eSnap 2
    else s0
  | none => s0

/-- ENERGY_SNAPSHOT. -/
def execEnergySnapshot (s : State) : Host.Outcome State Fault Refusal := done s.energySnapshot

/-- What the HCLK brings to the energy counters and the windows whatever is commanded (R339, R345, R349): the instants whose command has
not come (log 3), an item from the DCUs, the port. -/
def State.energyTick (s : State) : State :=
  let s1 := s.reconcileApply.reconcile.energySnapshot
  let s2 := forEach (winList.filter (fun w => s1.rd (Win.winEn w) = 1)) (fun w s => ((s.sampleDue w).advanceWin w).telFlush w) s1
  s2.endSplit.ringItem.portTick

/-! ### WIN_EN (R346, R358) -/

/-- A write of WIN_EN, rejected where R346 says. -/
def State.winEnWriteX (s : State) (w : Nat) (v : Int) (x : Nat) : State :=
  if (s.winEnWrite w v).2 then s.reject (Win.winEn w) x else (s.winEnWrite w v).1

/-- WIN_ENABLE. -/
def execWinEnable (w : Fin 15) (s : State) : Host.Outcome State Fault Refusal := done (s.hostRow (fun s => s.winEnWriteX w 1 0))
/-- WIN_DISABLE. -/
def execWinDisable (w : Fin 15) (s : State) : Host.Outcome State Fault Refusal := done (s.hostRow (fun s => s.winEnWriteX w 0 0))

end Sys2Proof.Machine
end

