-- ==== Sys2Proof/Machine/Events.lean ====
section
/-! DEFINITION. Event shelves, the Chest, and hang analysis (spec/13): the drain of the record queue, the programs and erases of
the Chest, its reading, the heartbeat, the cut and the stop, the dumps. -/

namespace Sys2Proof.Machine

/-! ### The Chest queue and state (R417, R437) -/

/-- CHEST_STATE (R437): INHIBITED, FAILED after a NOR error until the next good program, WRITING, READY. -/
def State.showChest (s : State) : State :=
  let c := s.chest
  (s.wr Chest.chestState (if c.inhibitAt.isSome then 2 else if c.failed then 3 else if c.queue = [] then 0 else 1)).wr Chest.cqDepth
    c.queue.length

/-- A record joins the Chest queue, or is lost to it (R417); NVM_DIP goes to its head (R422), behind a record of which a program has begun. -/
def State.chestPut (s : State) (r : Rec) : State :=
  let c := s.chest
  let k := if r.code = 0x0801 then (if c.opening || (c.step = 0 && !c.tail) then 0 else 1) else c.queue.length
  (if c.queue.length < 1024 then { s with chest := { c with queue := c.queue.take k ++ r :: c.queue.drop k } }
   else ({ s with chest := { c with lostSince := c.lostSince + 1 } }).bump Chest.chestLost).showChest

/-- NOR_ERROR (R410, R437): 1 program, 2 erase, 3 read; the address. -/
def State.norError (s : State) (kind addr : Nat) : State :=
  (({ s with chest := { s.chest with failed := true } }).bump Chest.norErrors).record 0 0x0809 kind addr 0 |>.showChest

/-- A program of the NOR (R75): the address and the bytes of the last one. -/
def State.norProgram (s : State) (addr : Nat) (bytes : List Byte) : State :=
  { s with chest := { s.chest with norAt := addr, norBytes := bytes } }

/-! ### The drain (R411, R412) -/

/-- The oldest record of the queue reaches its shelf, the windows that select it and the Chest (R349, R412, R417). -/
def State.shelve (s : State) (r : Rec) : State :=
  let seq := s.rdN (Shelf.shelfHead r.source)
  let lost := s.lostMark r.source
  let r' := { r with seq := seq, flags := if lost then putBit r.flags 2 true else r.flags }
  let s1 : State := { s with
    shelf := { s.shelf with
      slots := tabPut s.shelf.slots (r.source * 64 + seq % 64) r', lost := tabDel s.shelf.lost r.source } }
  let s2 := (((s1.wr (Shelf.shelfHead r.source) ((seq + 1) % 2 ^ 32 : Nat)).bump (Shelf.gen r.source)).bump Ev.records).eventItem r'
  when (r'.flags.testBit 0) (fun s => s.chestPut r') s2

/-- RECORD_DRAIN (R236, R412): the level E access that the fabric granted to the drain writes the oldest record. -/
def execRecordDrain (s : State) : Host.Outcome State Fault Refusal :=
  done (match s.shelf.queue with
    | [] => s
    | r :: q =>
      if s.arb.drain.isSome then
        ({ s with shelf := { s.shelf with queue := q }, arb := { s.arb with drain := none } }).shelve r else s)

/-! ### Programs and erases of the Chest (R414 to R419) -/

/-- The NOR address of the present program of the Chest (R414, R415): copy, sector, header or slot, body or MARKER. -/
def ChestInt.addr (c : ChestInt) : Nat :=
  let base := if c.step < 2 then 0x02000000 else 0x03000000
  let place := if c.opening then 0 else 64 + 64 * c.slot
  base + 4096 * c.sector + place + (if c.step % 2 = 1 then 60 else 0)

/-- The bytes of the present program of the Chest (R415, R416): the body with its CRC-32C, or the MARKER. -/
def State.chestBytes (s : State) : List Byte :=
  let c := s.chest
  if c.step % 2 = 1 then leBytes 4 0x3C3CC3C3
  else if c.opening then
    let b := penBytes 0x5A434853 ++ leBytes 1 (c.step / 2) ++ leBytes 1 1 ++ [0xFF, 0xFF]
      ++ leBytes 4 c.sectorSeq ++ leBytes 4 (s.rdN Chest.nextCseq)
    b ++ leBytes 4 (crc32c b).toNat
  else match c.queue with
    | [] => []
    | r :: _ =>
      let seq := if c.step = 0 then s.rdN Chest.nextCseq else s.rdN Chest.nextCseq - 1
      let b := r.bytes ++ leBytes 4 seq
      b ++ leBytes 4 (crc32c b).toNat

/-- The erased sectors of the journal (R418, R437): ERASED_AHEAD shows 255 of more (log 132). -/
def State.setErased (s : State) (n : Nat) : State :=
  ({ s with chest := { s.chest with erased := n } }).wr Chest.erasedAhead (min n 255 : Nat)

/-- LENGTH of CHEST_READ (R438). -/
def State.showChestLen (s : State) : State :=
  s.wr ChestRd.length (max 0 (32 * (s.rd Chest.nextCseq - s.rd ChestRd.startCseq)))

/-- The first record is committed at its second program (R416). -/
def State.chestCommit (s : State) : State :=
  let c := s.chest
  let s1 : State := { s with chest := { c with
    journal := match c.queue with | [] => c.journal | r :: _ => tabPut c.journal (s.rdN Chest.nextCseq) r.bytes } }
  ((s1.bump Chest.nextCseq).bump ChestRd.gen).showChestLen

/-- A sector is opened at its header's MARKER (R415, R416): the CSEQ of its slot 0. -/
def State.chestOpened (s : State) : State :=
  { s with chest := { s.chest with firsts := tabPut s.chest.firsts s.chest.sector (s.rdN Chest.nextCseq) } }

/-- The fourth program ends a record, or the header of a sector (R416). -/
def State.chestEnd (s : State) : State :=
  let c := s.chest
  if c.opening then
    ({ s with chest := { c with opening := false, step := 0, slot := 0 } }).setErased (c.erased - 1)
  else
    let q := c.queue.drop 1
    let full := decide (62 ≤ c.slot)
    let tell := decide (0 < c.lostSince) && decide (q.length < 512)
    let s1 : State := { s with
      chest := { c with
        queue := q, step := 0, slot := if full then 0 else c.slot + 1, opening := full,
        sector := if full then (c.sector + 1) % 3072 else c.sector, sectorSeq := if full then c.sectorSeq + 1 else c.sectorSeq
        lostSince := if tell then 0 else c.lostSince } }
    let s2 := when q.isEmpty (fun s => { s with hang := { s.hang with yields := false } }) s1
    when tell (fun s => s.record 0 0x0803 c.lostSince 0 0) s2

/-- CHEST_PROGRAM (R416, R418, R421): one of the four programs completes; a program already running at an inhibit finishes, and no
other starts; a sector is opened only once one is erased. -/
def State.chestProgram (s : State) (good : Bool) : State :=
  let c := s.chest
  if !c.scanned || c.queue = [] || (c.inhibitAt.isSome && !c.tail) || (c.opening && c.erased = 0) then s
  else if !good then ({ s with chest := { c with tail := false } }).norError 1 c.addr
  else
    let s1 : State := ({ s with
      chest := { c with step := c.step + 1, failed := false, tail := false, norAt := c.addr, norBytes := s.chestBytes } })
    let s2 := if c.step ≠ 1 then s1 else if c.opening then s1.chestOpened else s1.chestCommit
    (when (decide (3 ≤ c.step)) (fun s => s.chestEnd) s2).showChest

/-- CHEST_PROGRAM. -/
def execChestProgram (good : Bool) (s : State) : Host.Outcome State Fault Refusal := done (s.chestProgram good)

/-- The sector with the lowest SECTOR_SEQ (R418): the one after the erased sectors. -/
def State.oldestSector (s : State) : Nat := (s.chest.sector + (if s.chest.opening then 0 else 1) + s.chest.erased) % 3072

/-- OLDEST_CSEQ once the oldest sector is erased: the CSEQ of slot 0 of the next one; of a sector that an earlier run opened it is 63
higher (DEDUCED, log 105). -/
def State.nextOldest (s : State) : Int :=
  match s.chest.firsts.find? (fun e => e.1 = (s.oldestSector + 1) % 3072) with
  | some e => (e.2 : Int)
  | none => s.rd Chest.oldestCseq + 63

/-- The NOR address that the Chest erases: copy 0 first, then copy 1 (R418). -/
def State.eraseAddr (s : State) : Nat := (if s.chest.halfErased then 0x03000000 else 0x02000000) + 4096 * s.oldestSector

/-- The oldest sector is erased in both copies: its records are gone. -/
def State.sectorErased (s : State) : State :=
  let c := s.chest
  let o := s.nextOldest
  let s1 : State := { s with chest := { c with
    halfErased := false, journal := c.journal.filter (fun e => !decide ((e.1 : Int) < o)), firsts := tabDel c.firsts s.oldestSector } }
  ((s1.setErased (c.erased + 1)).wr Chest.oldestCseq o).bump ChestRd.gen

/-- CHEST_ERASE (R418): with fewer than 4 sectors erased ahead, the erase of the sector with the lowest SECTOR_SEQ completes, first in copy 0
and then in copy 1. -/
def State.chestErase (s : State) (good : Bool) : State :=
  let c := s.chest
  if !c.scanned || c.inhibitAt.isSome || decide (4 ≤ c.erased) then s
  else if !good then s.norError 2 s.eraseAddr
  else if c.halfErased then s.sectorErased
  else { s with chest := { c with halfErased := true } }

/-- CHEST_ERASE. -/
def execChestErase (good : Bool) (s : State) : Host.Outcome State Fault Refusal := done (s.chestErase good)

/-! ### Dump areas (R429, R440) -/

/-- The state sub of a dump area. -/
def areaState (a : Nat) : Nat := if a = 0 then Dump.area0State else Dump.area1State
/-- The ID sub of a dump area. -/
def areaId (a : Nat) : Nat := if a = 0 then Dump.area0Id else Dump.area1Id

/-- LENGTH of DUMP_READ (R441): the committed payload of the selected area. -/
def State.showDumpLen (s : State) : State := s.wr DumpRd.length (tabGet (fun _ => 0) s.hang.lens (s.rdN Dump.dumpSel) : Nat)

/-- An area's committed payload. -/
def State.setLen (s : State) (a n : Nat) : State :=
  ({ s with hang := { s.hang with lens := tabPut s.hang.lens a n } }).showDumpLen

/-- A dump area changes state; GEN of DUMP_READ counts changes of the selected one (R441). -/
def State.setArea (s : State) (a : Nat) (st : Int) : State :=
  let s1 := s.wr (areaState a) st
  if s.rd Dump.dumpSel = a && s.rd (areaState a) ≠ st then s1.bump DumpRd.gen else s1

/-- An area's erase begins. -/
def State.clearArea (s : State) (a : Nat) : State :=
  let s1 := s.setArea a 4
  if s.hang.clearing.contains a then s1 else { s1 with hang := { s1.hang with clearing := s1.hang.clearing ++ [a] } }

/-- DUMP_CLEAR (R429, R440). -/
def State.dumpClearWrite (s : State) (v x : Nat) : State :=
  if 1 < v || s.rd (areaState v) = 1 then s.reject Dump.dumpClear x else (s.clearArea v).wr Dump.dumpClear 1

/-- DUMP_CLEAR. -/
def execDumpClear (v : Byte) (s : State) : Host.Outcome State Fault Refusal := done (s.hostRow (fun s => s.dumpClearWrite v.toNat 0))

/-- One area as the scan found it (R419, R429, R435): a dump with uncommitted sectors is erased in the background. -/
def State.scanArea (s : State) (a st id bytes : Nat) (partialDump : Bool) : State :=
  let s1 := ((s.wr (areaState a) st).wr (areaId a) id).setLen a bytes
  if partialDump then (s1.clearArea a).record 0 0x0808 id 3 bytes else s1

/-- A copy of a slot is committed (R419): its MARKER reads 0x3C3C_C3C3 and its CRC is good. -/
def slotGood (b : List Byte) : Bool := byteField b 60 4 = 0x3C3CC3C3 && byteField b 36 4 = (crc32c (b.take 36)).toNat

/-- A copy of a sector's header is committed (R415). -/
def headGood (b : List Byte) : Bool :=
  b.take 4 = penBytes 0x5A434853 && byteField b 60 4 = 0x3C3CC3C3 && byteField b 16 4 = (crc32c (b.take 16)).toNat

/-- Whether bytes read all 0xFF. -/
def blank (b : List Byte) : Bool := b.all (fun x => x = 0xFF)

/-- The headers of the journal that are committed in a copy, with the bytes of one. A header that is committed in neither is programmed anew
when its sector is opened, with the same bytes (DEDUCED, log 132). -/
def scanHeads (r : ChestScan) : List (Nat × List Byte) :=
  (r.reads.filter (fun e => e.slot = none && (headGood e.copy0 || headGood e.copy1))).map (fun e =>
    (e.sector.toNat, if headGood e.copy0 then e.copy0 else e.copy1))

/-- The records committed in a copy: sector, slot, the 64 bytes of a good copy (R419). -/
def scanRecs (r : ChestScan) : List (List Byte) :=
  (r.reads.filter (fun e => e.slot.isSome && (slotGood e.copy0 || slotGood e.copy1))).map (fun e => if slotGood e.copy0 then e.copy0 else e.copy1)

/-- The records committed in one copy only; `b`: those whose other copy reads all 0xFF. -/
def scanHalves (r : ChestScan) (b : Bool) : List ChestRead :=
  r.reads.filter (fun e => e.slot.isSome && (slotGood e.copy0 != slotGood e.copy1)
    && (blank (if slotGood e.copy0 then e.copy1 else e.copy0)) = b)

/-- The newest opened sector: the one with the highest SECTOR_SEQ (R415). -/
def scanNewest (r : ChestScan) : Option (Nat × List Byte) :=
  (scanHeads r).foldl (fun m h => match m with
    | none => some h
    | some g => if byteField g.2 8 4 < byteField h.2 8 4 then some h else some g) none

/-- NEXT_CSEQ (R419): 1 more than the highest committed CSEQ; where none is committed, the CSEQ of slot 0 of the newest sector (DEDUCED), and
with no sector opened yet the manual gives none. -/
def scanNextCseq (r : ChestScan) : Nat :=
  match scanRecs r with
  | [] => (match scanNewest r with | some h => byteField h.2 12 4 | none => Config.dumpOpen 15 0 % 2 ^ 32)
  | b :: l => (l.foldl (fun m c => max m (byteField c 32 4)) (byteField b 32 4) + 1) % 2 ^ 32

/-- OLDEST_CSEQ (R420): the lowest committed one. -/
def scanOldestCseq (r : ChestScan) : Nat :=
  match scanRecs r with
  | [] => scanNextCseq r
  | b :: l => l.foldl (fun m c => min m (byteField c 32 4)) (byteField b 32 4)

/-- The slot of a sector that takes the next record: behind every slot that is not erased, one with a discarded body included (R419). -/
def scanNextSlot (r : ChestScan) (sector : Nat) : Nat :=
  (r.reads.filter (fun e => e.sector.toNat = sector && (!blank e.copy0 || !blank e.copy1))).foldl (fun m e =>
    match e.slot with | some k => max m (k.val + 1) | none => m) 0

/-- Where the next record goes: the newest sector while it has an erased slot, its header completed first where it is committed in copy 0
alone; else the next sector, to be opened. -/
def scanPlace (r : ChestScan) (c : ChestInt) : ChestInt :=
  match scanNewest r with
  | none => { c with sector := 0, sectorSeq := Config.dumpOpen 16 0 % 2 ^ 32, slot := 0, opening := true, step := 0 }
  | some h =>
    let seq := byteField h.2 8 4
    let k := scanNextSlot r h.1
    let one := r.reads.any (fun e => e.slot = none && e.sector.toNat = h.1 && !headGood e.copy1)
    if 63 ≤ k then { c with sector := (h.1 + 1) % 3072, sectorSeq := (seq + 1) % 2 ^ 32, slot := 0, opening := true, step := 0 }
    else if one && k = 0 then { c with sector := h.1, sectorSeq := seq, slot := 0, opening := true, step := 2 }
    else { c with sector := h.1, sectorSeq := seq, slot := k, opening := false, step := 0 }

/-- A record that one copy lacks is programmed there, its MARKER last (R416, R419). -/
def State.repairSlot (s : State) (e : ChestRead) : State :=
  let good := slotGood e.copy0
  let at_ := (if good then 0x03000000 else 0x02000000) + 4096 * e.sector.toNat + 64 + 64 * (match e.slot with | some k => k.val | none => 0)
  let b := if good then e.copy0 else e.copy1
  (s.norProgram at_ (b.take 40)).norProgram (at_ + 60) (b.drop 60)

/-- CHEST_SCAN_DONE (R419, R429): the scan begins with S2 (R443); its repairs are programs, which wait for the end of an inhibit (R421). -/
def State.chestScanDone (s : State) (r : ChestScan) : State :=
  let fix := scanHalves r true
  if s.chest.scanned || !s.start.dirRead || (s.chest.inhibitAt.isSome && fix ≠ []) then s
  else
    let single := (scanHalves r false).length
    let c := scanPlace r { s.chest with
      scanned := true
      journal := (scanRecs r).foldl (fun t b => tabPut t (byteField b 32 4) (b.take 32)) s.chest.journal
      firsts := (scanHeads r).foldl (fun t h => tabPut t h.1 (byteField h.2 12 4)) s.chest.firsts }
    let s0 := forEach fix (fun e s => s.repairSlot e) { s with chest := c, start := { s.start with scanDone := true } }
    let s1 := ((((s0.wr Chest.nextCseq (scanNextCseq r)).wr Chest.oldestCseq (scanOldestCseq r)).wr Chest.singleCopy single).wr
      Chest.repairs fix.length).setErased (3072 - (scanHeads r).length + (if c.step = 2 then 1 else 0))
    let s2 := when (fix ≠ []) (fun s => s.record 0 0x0802 fix.length single 0) (forEach r.bad (fun a s => s.norError 3 a.toNat) s1)
    let s3 := (s2.scanArea 0 r.area0 r.id0.toNat r.bytes0.toNat r.partial0).scanArea 1 r.area1 r.id1.toNat r.bytes1.toNat r.partial1
    (s3.wr Dump.nextId (max r.id0.toNat r.id1.toNat + 1 : Nat)).showChestLen

/-- CHEST_SCAN_DONE. -/
def execChestScanDone (r : ChestScan) (s : State) : Host.Outcome State Fault Refusal := done (s.chestScanDone r)

/-! ### Reading the Chest and the dumps (R420, R441) -/

/-- The transports whose fetch runs, with one more. -/
def addX (l : List Nat) (x : Nat) : List Nat := if l.contains x then l else l ++ [x]

/-- A fetch for the window of a transport starts. -/
def State.startFetch (s : State) (dump : Bool) (x : Nat) : State :=
  if dump then ({ s with chest := { s.chest with dumpX := addX s.chest.dumpX x } }).wr DumpRd.fetch 1
  else ({ s with chest := { s.chest with fetchX := addX s.chest.fetchX x } }).wr ChestRd.fetch 1

/-- START_CSEQ (R438): any value is valid; a fetch starts for the writer's window and for every other one that holds bytes. -/
def State.startCseqWrite (s : State) (x v : Nat) : State :=
  let s1 := ((s.wr ChestRd.startCseq v).showChestLen).startFetch false x
  forEach ((s.chest.windows.filter (fun e => e.1 < 4)).map (fun e => e.1)) (fun y s => s.startFetch false y) s1

/-- START_CSEQ_WRITE. -/
def execStartCseqWrite (x : Xport) (v : Word32) (s : State) : Host.Outcome State Fault Refusal :=
  done (s.overPort x (fun s => s.startCseqWrite (xnum x) v.toNat))

/-- A byte of CHEST_READ that is known (R420): one of a record that the scan found or that is committed since, 0 of one older than OLDEST_CSEQ. -/
def State.chestByte (s : State) (p : Nat) : Option Byte :=
  let q := s.rdN ChestRd.startCseq + p / 32
  if q < s.rdN Chest.oldestCseq then some 0
  else (s.chest.journal.find? (fun e => e.1 = q)).map (fun e => e.2.getD (p % 32) 0)

/-- A byte of DUMP_READ that this run has written (R434). -/
def State.dumpByte (s : State) (p : Nat) : Option Byte :=
  (s.hang.data.find? (fun e => e.1 = s.rdN Dump.dumpSel * 1024 + p / 4032)).map (fun e => e.2.getD (p % 4032) 0)

/-- n bytes of a BLOB in the NOR from an offset, as a fetch reads them: what this run has written there, else what the NOR held before
(`bytes`); 0 past LENGTH (R93). -/
def State.fetched (s : State) (dump : Bool) (off n : Nat) (bytes : List Byte) : List Byte :=
  let len := s.rdN (if dump then DumpRd.length else ChestRd.length)
  (List.range n).map (fun i =>
    if len ≤ off + i then 0
    else match (if dump then s.dumpByte (off + i) else s.chestByte (off + i)) with
      | some b => b
      | none => bytes.getD i 0)

/-- The window of a transport after its fetch: 1,920 bytes from its CURSOR (R93). -/
def State.fetchedWindow (s : State) (dump : Bool) (x : Nat) (bytes : List Byte) : List Byte :=
  s.fetched dump (tabGet (fun _ => 0) s.host.cursors (x * 65536 + (if dump then 0xA031 else 0xA011))) 1920 bytes

/-- CHEST_FETCH_DONE (R420, R434): the first BLOCK_READ that waits is answered, else the window of the first transport that waits holds
the new bytes. -/
def State.fetchDone (s : State) (dump : Bool) (bytes : List Byte) : State :=
  let c := s.chest
  match (if dump then c.dumpAskers else c.askers) with
  | a :: rest =>
    ({ s with chest := if dump then { c with dumpAskers := rest } else { c with askers := rest } }).respond a 3 .ok a.count
      (s.fetched dump a.off a.len bytes)
  | [] =>
    match (if dump then c.dumpX else c.fetchX) with
    | [] => s
    | x :: rest =>
      let w := s.fetchedWindow dump x bytes
      let more : Int := if rest = [] then 0 else 1
      if dump then ({ s with chest := { c with windows := tabPut c.windows (4 + x) w, dumpX := rest } }).wr DumpRd.fetch more
      else ({ s with chest := { c with windows := tabPut c.windows x w, fetchX := rest } }).wr ChestRd.fetch more

/-- CHEST_FETCH_DONE: a read that fails is recorded (R410). -/
def execChestFetchDone (dump : Bool) (r : NorRead) (s : State) : Host.Outcome State Fault Refusal :=
  done ((match r.bad with | some a => s.norError 3 a.toNat | none => s).fetchDone dump r.bytes)

/-! ### Heartbeat and causes (R423) -/

/-- The first beat start at least 64 HCLK from now. -/
def State.nextCut (s : State) : Nat := (s.beatHclk + 64 + 799) / 800 % 2 ^ 64

/-- A hang cause (R423, R428): merged while one is under way, recorded alone with action 0, else S is scheduled. -/
def State.declareHang (s : State) (cause action : Nat) : State :=
  if s.rd Hang.hangState ≠ 0 then (s.bump Hang.hangsMerged).record 0 0x0804 cause action 0
  else
    let s1 := (s.bump Hang.hangs).wr Hang.hangCause cause
    if action = 0 then s1.record 0 0x0804 cause 0 0
    else
      let cut := s.nextCut
      (({ s1 with hang := { s1.hang with action := action, cause := cause, cutAt := cut } }).wr Hang.hangState 1).record 0 0x0804 cause
        action (cut % 2 ^ 32 : Nat)

/-- HB_KICK (R423, R439). -/
def State.hbKickWrite (s : State) (v x : Nat) : State :=
  if v = 1 then { s with hang := { s.hang with kickAt := s.hclk, missed := false } } else s.reject Hang.hbKick x

/-- HB_KICK. -/
def execHbKick (v : Byte) (s : State) : Host.Outcome State Fault Refusal := done (s.hostRow (fun s => s.hbKickWrite v.toNat 0))

/-- HEARTBEAT_MISSED (R423): HB_PERIOD × 1,000 beats without a kick; after a miss the timer waits for the next kick. -/
def execHeartbeatMissed (s : State) : Host.Outcome State Fault Refusal :=
  done (if s.rd Hang.hbPeriod ≠ 0 && !s.hang.missed && s.elapsed s.hang.kickAt (800000 * s.rdN Hang.hbPeriod) then
    ({ s with hang := { s.hang with missed := true } }).declareHang 1 (getField (s.rdN Hang.hangAction) 0 2) else s)

/-- STOP_CTRL is rejected: it reads 3. -/
def State.rejectStop (s : State) (x : Nat) : State := (s.reject Hang.stopCtrl x).wr Hang.stopCtrl 3

/-- STOP_CTRL 1 and 2 (R423): a cause of the transport; merged while a hang is under way. -/
def State.stopDump (s : State) (x action : Nat) : State :=
  let s1 := s.declareHang (if x = 0 then 2 else 3) action
  if s.rd Hang.hangState = 0 then s1.wr Hang.stopCtrl 1 else s1

def execStopCtrlDump (x : Xport) (s : State) : Host.Outcome State Fault Refusal := done (s.overPort x (fun s => s.stopDump (xnum x) 1))
def execStopCtrlStopDump (x : Xport) (s : State) : Host.Outcome State Fault Refusal := done (s.overPort x (fun s => s.stopDump (xnum x) 2))

/-- STOP_CTRL 3 (R427): only in STOPPED; the release instant. -/
def State.stopReleaseCmd (s : State) (x : Nat) : State :=
  if s.rd Hang.hangState = 4 then
    (({ s with hang := { s.hang with releaseAt := s.nextCut } }).wr Hang.hangState 5).wr Hang.stopCtrl 1
  else s.rejectStop x

def execStopCtrlRelease (x : Xport) (s : State) : Host.Outcome State Fault Refusal := done (s.overPort x (fun s => s.stopReleaseCmd (xnum x)))

/-! ### The dump (R428, R434) -/

/-- A dump ends (R428): STOPPED for action 2, else IDLE; records carry POST_CUT no longer (R424); a STOP_CTRL command that took
it is done. -/
def State.dumpEnd (s : State) : State :=
  let s1 : State := { (s.wr Hang.hangState (if s.hang.action = 2 then 4 else 0)) with shelf := { s.shelf with postCut := false } }
  if s.rd Hang.stopCtrl = 1 then s1.cmdDone Hang.stopCtrl 2 else s1

/-- DUMP_FAIL (R428): 1 a NOR error, 2 an abort; the area reads FAILED. -/
def State.dumpFail (s : State) (why : Nat) : State :=
  ((s.setArea s.hang.area 3).record 0 0x0808 s.hang.dumpId why (s.rd Dump.progress)).dumpEnd

/-- STOP_CTRL 4 (R428): in ERASING or DUMPING. -/
def State.stopAbort (s : State) (x : Nat) : State :=
  if s.rd Hang.hangState = 2 || s.rd Hang.hangState = 3 then
    (({ s with hang := { s.hang with clearing := s.hang.clearing.filter (fun a => a ≠ s.hang.area) } }).dumpFail 2).cmdDone
      Hang.stopCtrl 2
  else s.rejectStop x

def execStopCtrlAbort (x : Xport) (s : State) : Host.Outcome State Fault Refusal := done (s.overPort x (fun s => s.stopAbort (xnum x)))

/-- A dump begins in an erased area. -/
def State.dumpBegin (s : State) : State :=
  let s1 := (((s.setArea s.hang.area 1).wr (areaId s.hang.area) s.hang.dumpId).setLen s.hang.area 0).wr Hang.hangState 3
  { s1 with hang := { s1.hang with yields := decide (s1.chest.queue ≠ []), page := 0, running := false, payload := [] } }

/-- The area of a new dump (R429): an erased one, area 0 first; else none is erased and the one with the lower DUMP_ID is. -/
def State.dumpArea (s : State) : Nat × Bool :=
  if s.rd Dump.area0State = 0 then (0, true)
  else if s.rd Dump.area1State = 0 then (1, true)
  else (if s.rd Dump.area0Id ≤ s.rd Dump.area1Id then 0 else 1, false)

/-- The shadow bank as a cut of this HCLK fills it (R424). -/
def State.toShadow (s : State) : Shadow := ⟨s.dict, s.hclk, s.beatHclk, s.hub, s.loops, s.upbeat, s.phs, s.energy, s.host, s.chest⟩

/-- Whether a stamp can be the DCU's (R424, R425), S at 0: of a running domain its last edge lies within a period, a stretched one, and the
HCLK of the copy before the hold, which comes 4.5 ns after S at the latest, or for action 1 it is the first at or after S; of a domain without
output edges it is not after the last sample edge that counted one, but for edges counted since. -/
def State.stampOk (s : State) (x : StopStamp) : Bool :=
  let c := x.cd.val
  let o := x.off.toInt
  let p : Int := s.cdPeriod c + (s.rd (Snare.stretchQ c) * s.cdPeriod c + 3) / 4
  let d := s.dcu c
  if s.hang.gated.contains c then
    decide (o ≤ 4600) && (x.since ≠ 0 || decide (o ≤ 1000 * ((d.edgeAt : Int) - (s.hang.cutHclk + s.start.hubAt) + 1)))
  else
    (!x.stretched || (s.snare c).rung3)
      && (if s.hang.action = 2 then decide (-(p + 2000) ≤ o) && decide (o ≤ 4600) else decide (-1000 ≤ o) && decide (o ≤ p + 1000) && x.hold = 0)

/-- The stamps that the DCUs sample; one that cannot be a DCU's is none. -/
def State.takeStamps (s : State) (stamps : List StopStamp) : State :=
  { s with hang := { s.hang with stamps := stamps.filter s.stampOk } }

/-- The hub cut (R424): the shadow bank, the CUT_HEADs, the stamps, POST_CUT; ARMED traces are forced (R431). -/
def State.takeCut (s : State) (stamps : List StopStamp) : State :=
  let heads := ((List.range 128).filter (fun u => s.rd (Shelf.shelfHead u) ≠ 0)).map (fun u => (u, s.rdN (Shelf.shelfHead u)))
  let s1 : State := { s with
    hang := { s.hang with
      cutHclk := s.hclk - s.start.hubAt, heads := heads, gated := cdList.filter (fun c => !s.hasEdges c)
      counts := cdList.map (fun c => (c, (s.dcu c).edges)), shadow := s.toShadow }
    shelf := { s.shelf with postCut := true } }
  forEach railList (fun n s => s.trForce n) ((s1.takeStamps stamps).wr Hang.cutBeat s.hang.cutAt)

/-- The processors that run their firmware, in RUN or writing a handover (R426). -/
def State.runMask (s : State) : Nat :=
  (List.range 4).foldl (fun m k => if s.rd (Fp.fpState k) = 2 || s.rd (Fp.fpState k) = 3 then m + 2 ^ k else m) 0

/-- The stop (R425, R426): every domain is held, every processor that runs halts. -/
def State.stopAll (s : State) : State :=
  let mask := s.runMask
  let s1 : State := { (s.wr Hang.stoppedCd (2 ^ 64 - 1)) with hang := { s.hang with stop := true } }
  (forEach ((List.range 4).filter (fun k => mask.testBit k)) (fun k s => s.setFp k { s.fp k with halted := true }) s1).record 0 0x0805
    64 mask 0

/-- The cut (R424, R428). -/
def State.cutNow (s : State) (stamps : List StopStamp) : State :=
  let (a, erased) := s.dumpArea
  let s1 := s.takeCut stamps
  let s2 := when (s.hang.action = 2) (fun s => s.stopAll) s1
  let s3 : State := ({ s2 with
    hang := { s2.hang with area := a, dumpId := s.rdN Dump.nextId, sectors := 0 } }).bump Dump.nextId
  let s4 := s3.wr Dump.progress 0
  if erased then s4.dumpBegin else (s4.setArea a 4).wr Hang.hangState 2

/-- HANG_CUT (R424, R425): in the HCLK of S; stamps that come once the cut is taken, before the first sector, complete it. -/
def State.hangCut (s : State) (stamps : List StopStamp) : State :=
  if s.rd Hang.hangState = 1 && s.beatHclk = 800 * s.hang.cutAt then s.cutNow stamps
  else if (s.rd Hang.hangState = 2 || s.rd Hang.hangState = 3) && s.hang.stamps = [] && s.hang.sectors = 0 then
    s.takeStamps stamps
  else s

/-- S passes whether or not its command came (log 3): the hub cut needs none. -/
def State.cutDue (s : State) : State :=
  if s.rd Hang.hangState = 1 && decide (800 * s.hang.cutAt ≤ s.beatHclk) then s.cutNow [] else s

/-- HANG_CUT. -/
def execHangCut (stamps : List StopStamp) (s : State) : Host.Outcome State Fault Refusal := done (s.hangCut stamps)

/-- An area is erased (R429). -/
def State.areaErased (s : State) (a : Nat) : State :=
  let s1 := ((s.setArea a 0).wr (areaId a) 0).setLen a 0
  { s1 with hang := { s1.hang with data := s1.hang.data.filter (fun e => e.1 / 1024 ≠ a) } }

/-- DUMP_ERASE_DONE (R428, R429): the erase under way, a clearing first, completes; an area that a dump waits for takes it. -/
def State.dumpEraseDone (s : State) (good : Bool) : State :=
  if s.chest.inhibitAt.isSome then s
  else
    let waits := s.rd Hang.hangState = 2
    match s.hang.clearing with
    | a :: rest =>
      let s1 : State := { s with hang := { s.hang with clearing := rest } }
      if !good then
        let s2 := s1.norError 2 (0x02C00000 + 0x01000000 * a)
        if waits && s.hang.area = a then s2.dumpFail 1 else s2.setArea a 3
      else
        let s2 := s1.areaErased a
        let s3 := if s.rd Dump.dumpClear = 1 && rest = [] then s2.cmdDone Dump.dumpClear 2 else s2
        if waits && s.hang.area = a then s3.dumpBegin else s3
    | [] =>
      if !waits then s
      else if good then (s.areaErased s.hang.area).dumpBegin
      else (s.norError 2 (0x02C00000 + 0x01000000 * s.hang.area)).dumpFail 1

/-- DUMP_ERASE_DONE. -/
def execDumpEraseDone (good : Bool) (s : State) : Host.Outcome State Fault Refusal := done (s.dumpEraseDone good)

/-- A processor leaves its halt: its watchdog goes on from where the halt suspended it (R426). -/
def State.endHalt (s : State) (k : Nat) : State :=
  let f := s.fp k
  let n := s.hclk - s.haltFrom k
  if f.halted then
    let s1 := s.setFp k { f with halted := false, runAt := f.runAt + n }
    if k = 1 then { s1 with budget := { s1.budget with fw := s1.budget.fw.shift n } } else s1
  else s

/-- STOP_RELEASE (R427): the holds and halts end; gate requests that waited are raised (R426). -/
def State.stopRelease (s : State) : State :=
  if s.rd Hang.hangState ≠ 5 || decide (s.beat < s.hang.releaseAt) then s
  else
    let s1 : State := { s with hang := { s.hang with stop := false } }
    let s2 := forEach (List.range 4) (fun k s => s.endHalt k) (s1.wr Hang.stoppedCd 0)
    let s3 := forEach cdList (fun c s =>
      (if s.rd (Cd.cdState c) = 2 then s.setDcu c { s.dcu c with gateAt := s.hclk } else s).serveRun c) s2
    let s4 := (s3.wr Hang.releaseBeat s.hang.releaseAt).wr Hang.hangState 0
    (when (s.rd Hang.stopCtrl = 1) (fun s => s.cmdDone Hang.stopCtrl 2) s4).record 0 0x0806 (s.hang.releaseAt % 2 ^ 32 : Nat)
      ((s.hang.releaseAt - s.hang.cutAt) % 2 ^ 32 : Nat) 0

/-- STOP_RELEASE. -/
def execStopRelease (s : State) : Host.Outcome State Fault Refusal := done s.stopRelease

end Sys2Proof.Machine
end

