-- ==== Sys2Proof/Machine/Firmware.lean ====
section
/-! DEFINITION. Firmware processors, handover, images, slots, activation and the settings store (spec/12). FP0 to FP3 are the
Steward, Budget, Drumline and Custodian roles of Z-REF. -/

namespace Sys2Proof.Machine

/-! ### Image headers and the boot check (R377, R378) -/

/-- A field of an image header: n bytes at a place, little-endian. -/
def hdrField (h : List Byte) (at_ n : Nat) : Nat := byteField h at_ n

/-- The place of a section's entry: FP0 to FP3, then TABLES. -/
def sectAt (k : Nat) : Nat := 64 + 48 * k

/-- The format test (cause 1): MAGIC, HDR_FMT, every section within PKG_LEN. -/
def hdrFormat (h : List Byte) : Bool :=
  decide (h.take 4 = penBytes 0x545A4657) && hdrField h 4 2 = 1
    && (List.range 5).all (fun k => decide (hdrField h (sectAt k) 4 + hdrField h (sectAt k + 4) 4 ≤ hdrField h 8 4))

/-- MIN_SVN in the boot check (R455): taken as 0 in PROVISIONED. -/
def State.minSvnNow (s : State) : Nat := if s.rd Lc.lcState = 2 then 0 else s.rdN Upd.minSvn

/-- The field test of a code of R378: 3 key revoked, 4 key epoch, 5 SVN, 6 instance. -/
def State.hdrTest (s : State) (h : List Byte) (code : Nat) : Bool :=
  match code with
  | 3 => !s.bit KeyLad.revoked (hdrField h 22 1)
  | 4 => decide (hdrField h 20 2 = s.rdN KeyLad.keyEpoch) && !s.bit KeyLad.keyStatus 2
  | 5 => decide (s.minSvnNow ≤ hdrField h 16 4)
  | 6 => (hdrField h 40 8 = 0 || hdrField h 40 8 = s.rdN Ident.configHash) && decide (hdrField h 32 2 ≤ s.rdN Ident.blockVersion)
  | _ => true

/-- The certificate of a signing key (R378): root hash, root signature. -/
def rootSigns (rootKey pub sig : List Byte) (signKey : Nat) : Bool :=
  decide (Config.sha384 rootKey = Config.rootHash) && Config.ecdsaVerify rootKey (pub ++ leBytes 1 signKey) sig

/-- The key and tag test of section k (code 7). -/
def tagGood (k : Nat) (r : BootRead) : Bool :=
  let h := r.header
  Config.gcmGood (hdrField h 20 2) ((h.drop (sectAt k + 8)).take 12) (h.take 304) r.sect ((h.drop (sectAt k + 20)).take 16)

/-- The boot check of R378: 0 where it passes, else the cause of the first failing test. -/
def State.bootCheck (s : State) (k : Nat) (r : BootRead) : Nat :=
  let h := r.header
  let pub := (h.drop 512).take 96
  if !hdrFormat h then 1
  else if !rootSigns ((h.drop 768).take 96) pub ((h.drop 608).take 96) (hdrField h 22 1) then 2
  else if !s.hdrTest h 3 then 3
  else if !Config.ecdsaVerify pub (h.take 1024) ((h.drop 1024).take 96) then 2
  else if !s.hdrTest h 4 then 4
  else if !s.hdrTest h 5 then 5
  else if !s.hdrTest h 6 then 6
  else if !tagGood k r then 7 else 0

/-! ### Slots and settings regions (R384, R393, R394) -/

/-- The inactive slot (R379). -/
def State.inactive (s : State) : Nat := 1 - s.rdN Fw.activeSlot

/-- A slot loses its map and what chunk 0 gave. -/
def State.clearSlot (s : State) (b : Nat) : State :=
  let s0 := when (tabGet (fun _ => 0) s.fw.held b ≠ 0 && b = s.inactive) (fun s => s.bump UpdMap.gen) s
  let s1 : State := { s0 with
    fw := { s0.fw with held := tabDel s.fw.held b, headers := tabDel s.fw.headers b, mirror := tabDel s.fw.mirror b } }
  forEach [Slot.stream b, Slot.version b, Slot.svn b, Slot.nChunks b, Slot.held b, Slot.settingsFmts b, Slot.handoverFmts b,
    Slot.dlGen b, Slot.failCause b, Slot.failAt b] (fun key s => s.wr key 0) s1

/-- The state and format subs of a settings region. -/
def regState (r : Nat) : Nat := if r = 0 then Sett.reg0State else Sett.reg1State
def regFmt (r : Nat) : Nat := if r = 0 then Sett.reg0Fmt else Sett.reg1Fmt

/-- FMT and BACK of a slot's settings or handovers. -/
def State.fmtOf (s : State) (key : Nat) : Nat := getField (s.rdN key) 16 16
def State.backOf (s : State) (key : Nat) : Nat := getField (s.rdN key) 0 16

/-- Whether two images share a format (R385). -/
def State.fmtsMeet (s : State) (f : Nat → Nat) : Bool :=
  decide (max (s.backOf (f 0)) (s.backOf (f 1)) ≤ min (s.fmtOf (f 0)) (s.fmtOf (f 1)))

/-- Bytes of a settings region, and of a sector with its header (R75, R393). -/
def regionSize : Nat := 0x200000
def sectorSize : Nat := 4096

/-- The bytes of a settings record (R393), padded to a multiple of 16. -/
def SetRec.bytes (r : SetRec) : List Byte :=
  let head := leBytes 1 r.ty ++ leBytes 1 r.sub ++ leBytes 2 r.idx ++ leBytes 4 r.data.length ++ leBytes 4 r.seq
  head ++ leBytes 4 (crc32c (head ++ r.data)).toNat ++ r.data ++ List.replicate ((16 - r.data.length % 16) % 16) 0

/-- Where a record of a size goes: past the 32-byte header of its sector, in the next sector where this one has no room. -/
def Region.place (r : Region) (size : Nat) : Nat :=
  let a := if r.pos % sectorSize = 0 then r.pos + 32 else r.pos
  if size + 32 ≤ sectorSize && decide (sectorSize < a % sectorSize + size) then (a / sectorSize + 1) * sectorSize + 32 else a

/-- A record is written at the end of a region (R393). -/
def Region.put (r : Region) (ty sub idx : Nat) (data : List Byte) : Region :=
  let size := 16 + (data.length + 15) / 16 * 16
  let at_ := r.place size
  { r with seq := r.seq + 1, pos := at_ + size, recs := r.recs ++ [⟨ty, sub, idx, r.seq, at_, data⟩] }

/-- The records that win: of each index and sub the one with the highest SEQ (R393). -/
def Region.live (r : Region) : List SetRec :=
  r.recs.filter (fun e => !r.recs.any (fun f => f.idx = e.idx && f.sub = e.sub && decide (e.seq < f.seq)))

/-- The record that wins for an index and sub. -/
def Region.find (r : Region) (idx sub : Nat) : Option SetRec := r.live.find? (fun e => e.idx = idx && e.sub = sub)

/-- Free space below 25 % (R393). -/
def Region.low (r : Region) : Bool := decide (3 * regionSize < 4 * (r.pos - r.tail))

/-- While free space is low the oldest sector's live records are copied on, and it is erased (R393). -/
def Region.compact (fuel : Nat) (r : Region) : Region :=
  match fuel with
  | 0 => r
  | n + 1 =>
    if r.low then
      let old := r.live.filter (fun e => decide (e.at_ < r.tail + sectorSize))
      let r1 := old.foldl (fun r e => r.put e.ty e.sub e.idx e.data) r
      Region.compact n { r1 with recs := r1.recs.filter (fun e => decide (r.tail + sectorSize ≤ e.at_)), tail := r.tail + sectorSize }
    else r

/-- A settings region. -/
def State.region (s : State) (r : Nat) : Region := tabGet (fun _ => {}) s.fw.regions r

/-- The NOR address of a place of a settings region, and of a chunk of an image slot (R75). -/
def regionNor (r at_ : Nat) : Nat := 0x01100000 + r * regionSize + at_ % regionSize
def slotNor (b chunk : Nat) : Nat := 0x00100000 + b * 0x800000 + 256 * chunk

/-- The header of a sector of a settings region (R393): the places of its fields are the model's choice (DESIGN CHOICE, log 129). -/
def sectorHeader (fmt gen seq : Nat) : List Byte :=
  let b := penBytes 0x5A534554 ++ leBytes 4 fmt ++ leBytes 4 gen ++ leBytes 4 seq ++ List.replicate 12 0
  b ++ leBytes 4 (crc32c b).toNat

/-- The current settings region. -/
def State.currentRegion (s : State) : Nat := if s.rd Sett.reg1State = 1 then 1 else 0

/-- FREE_PCT is that of the current region (R405). -/
def State.showFree (s : State) : State :=
  let c := s.region s.currentRegion
  s.wr Sett.freePct (100 - 100 * min regionSize (c.pos - c.tail) / regionSize : Nat)

/-- Replace a settings region. -/
def State.setRegion (s : State) (r : Nat) (v : Region) : State :=
  ({ s with fw := { s.fw with regions := tabPut s.fw.regions r v } }).showFree

/-- Settings regions in one state move to another. -/
def State.moveRegions (s : State) (old new : Int) : State :=
  (forEach [0, 1] (fun r s => if s.rd (regState r) = old then s.wr (regState r) new else s) s).showFree

/-- A record is programmed into a region (R75, R393): a sector's header before the first record in it, then the record. -/
def State.programRec (s : State) (r ty sub idx : Nat) (data : List Byte) : State :=
  let v := (s.region r).put ty sub idx data
  let s1 := s.setRegion r v
  match v.recs.getLast? with
  | some e =>
    let s2 := when (e.at_ % sectorSize = 32) (fun s =>
      s.norProgram (regionNor r (e.at_ - 32)) (sectorHeader (s.rdN (regFmt r)) v.gen (e.at_ / sectorSize))) s1
    s2.norProgram (regionNor r e.at_) e.bytes
  | none => s1

/-- The new Custodian converts the current region into the free one, in the lower format (R394), in its next generation. -/
def State.convertRegion (s : State) : State :=
  let fmt := min (s.fmtOf (Slot.settingsFmts 0)) (s.fmtOf (Slot.settingsFmts 1))
  let cur := s.currentRegion
  if s.rd (regState (1 - cur)) = 0 then
    let s1 := ((s.wr (regState (1 - cur)) 3).wr (regFmt (1 - cur)) fmt).setRegion (1 - cur) { gen := (s.region (1 - cur)).gen + 1 }
    forEach (s.region cur).live (fun e s => s.programRec (1 - cur) e.ty e.sub e.idx e.data) s1
  else s

/-! ### The boot directory (R75, R298, R383, R390) -/

/-- What the boot directory is to hold. -/
def State.dirNow (s : State) : DirRec :=
  let map := fun (b : Nat) => match s.fw.mirror.find? (fun e => e.1 = b) with | some e => e.2.2 | none => 0
  { stA := s.rdN (Slot.slotState 0), stB := s.rdN (Slot.slotState 1), streamA := s.rdN (Slot.stream 0), streamB := s.rdN (Slot.stream 1),
    mapA := map 0, mapB := map 1, active := s.rdN Fw.activeSlot, minSvn := s.rdN Upd.minSvn, root := s.fw.root, region := s.currentRegion,
    fmt0 := s.rdN Sett.reg0Fmt, fmt1 := s.rdN Sett.reg1Fmt }

/-- The newer of the copies that a mask leaves (R383), with its place. -/
def newestDir (l : List (Nat × DirRec)) (bad : Nat) : Option (Nat × DirRec) :=
  (l.filter (fun e => !bad.testBit e.1)).foldl (fun b e => match b with
    | none => some e
    | some x => if x.2.seq < e.2.seq then some e else some x) none

/-- The bytes of a copy (R383): the order of its fields is the model's choice (DESIGN CHOICE, log 129). -/
def DirRec.bytes (d : DirRec) : List Byte :=
  let root : Nat := match d.root with | none => 0xFF | some r => (if r.1 then 1 else 0) + (if r.2 then 2 else 0)
  let b := leBytes 4 d.seq ++ leBytes 1 d.stA ++ leBytes 1 d.stB ++ leBytes 2 d.streamA ++ leBytes 2 d.streamB ++ leBytes 1 d.active
    ++ leBytes 1 root ++ leBytes 4 d.minSvn ++ leBytes 1 d.region ++ leBytes 2 d.fmt0 ++ leBytes 2 d.fmt1 ++ leBytes 4096 d.mapA
    ++ leBytes 4096 d.mapB
  b ++ leBytes 4 (crc32c b).toNat

/-- The boot directory's older copy is programmed where what it is to hold has changed (R383), once the directory has been read and no
inhibit stands (R421). -/
def State.dirWrite (s : State) : State :=
  let last := newestDir s.fw.dirs 0
  let now := s.dirNow
  let same := match last with | some e => e.2 = { now with seq := e.2.seq } | none => false
  if same || !s.start.dirRead || s.chest.inhibitAt.isSome then s
  else
    let place := match last with | some e => 1 - e.1 | none => 0
    let d : DirRec := { now with seq := match last with | some e => e.2.seq + 1 | none => 0 }
    ({ s with fw := { s.fw with dirs := tabPut s.fw.dirs place d } }).norProgram (0x4000 * place) d.bytes

/-- The inactive slot changes, and with it the map that 9034 shows (R93, R404). -/
def State.setActive (s : State) (b : Nat) : State :=
  let s1 := s.wr Fw.activeSlot b
  when (tabGet (fun _ => 0) s.fw.held s.inactive ≠ tabGet (fun _ => 0) s.fw.held s1.inactive) (fun s => s.bump UpdMap.gen) s1

/-! ### Logs and trace points (R375, R376) -/

/-- A processor writes a record to its log (R375): trace point and arguments are the firmware's (free values). -/
def State.logWrite (s : State) (k cls : Nat) : State :=
  let e : LogRec := ⟨s.beat % 2 ^ 48, s.tick, cls, (s.freeVal 208 % 2 ^ 16).toNat, (s.freeVal 209 % 2 ^ 16).toNat, (s.freeVal 210 % 2 ^ 32).toNat⟩
  let s1 := s.setFp k { s.fp k with log := tabPut (s.fp k).log (s.rdN (Log.logHead k) % 256) e }
  ((s1.bump (Log.logHead k)).bump (Log.gen k)).useFree

/-- A record of classes 0 to 7 (R376): faults, restarts, activation and settings errors, of a running processor; which of them a class is
stays open. -/
def State.logAlways (s : State) (k : Nat) : State := if s.rd (Fp.fpState k) = 2 then s.logWrite k (s.freeVal 211 % 8).toNat else s

/-- A fault is logged as the processor stops, or its record is lost mid-record (R376, R400): which is open. -/
def State.logFault (s : State) (k : Nat) : State :=
  if s.rd (Fp.fpState k) ≠ 2 && s.rd (Fp.fpState k) ≠ 3 then s
  else if s.freeVal 207 % 2 = 1 then (s.bump (Log.logLost k)).useFree
  else s.logWrite k (s.freeVal 211 % 8).toNat

/-- A trace point of a class of 8 to 63 is logged while TRACE_MASK has its bit (R376). -/
def State.logTrace (s : State) (k : Nat) : State :=
  let c := (8 + s.freeVal 213 % 56).toNat
  if s.bit (Fp.traceMask k) c then s.logWrite k c else s.useFree

/-- A record of the activation or of a settings error, on FP3's shelf and in its log (R376, R396). -/
def State.recordLogged (s : State) (code : Nat) (p1 p2 p3 : Int) : State := (s.recordFw 3 code p1 p2 p3).logAlways 3

/-! ### Forwarding (R382, R401) -/

/-- The slot whose stream is forwarded (R382). -/
def State.fwdSlot (s : State) : Option Nat :=
  let b := s.inactive
  let staged := s.rd (Slot.slotState b) = 2
  match s.rd Upd.fwdEn with
  | 1 => if staged then some b else none
  | 2 => some (if staged then b else s.rdN Fw.activeSlot)
  | _ => none

/-- The stream on its way to a partner is given up; a pass that is done stays done. -/
def PortInt.dropFwd (q : PortInt) : PortInt := { q with bulkData := [], tx := { finished := q.tx.finished, peer := q.tx.peer } }

/-- A port that forwards what is no longer to be forwarded stops, and its bit of FWD_PORTS falls (R382, R401). -/
def State.fwdReview (s : State) : State :=
  forEach (List.range 4) (fun p s =>
    let q := s.port p
    let on := match s.fwdSlot with | some b => q.tx.stream = s.rdN (Slot.stream b) | none => false
    if s.bit Upd.fwdPorts p && !on then (s.setPort p q.dropFwd).wr Upd.fwdPorts (putBit (s.rdN Upd.fwdPorts) p false) else s) s

/-! ### The ends of an activation (R386 to R391) -/

/-- Milliseconds of a span in HCLK. -/
def msOf (site span : Nat) : Int := divOpen site span 800000

/-- The activation's working state without its request. -/
def ActInt.idle (a : ActInt) : ActInt := { quietAt := a.quietAt, confirmAt := a.confirmAt }

/-- Replace the activation. -/
def State.setAct (s : State) (a : ActInt) : State := { s with fw := { s.fw with act := a } }

/-- The command of the request is done (R401). -/
def State.updDone (s : State) : State := if s.rd Upd.updCtrl = 1 then s.cmdDone Upd.updCtrl 2 else s

/-- HCLK waited for a request (R386): from acceptance to the start, and every pause. -/
def State.actWaited (s : State) : Nat :=
  let a := s.fw.act
  if a.phase = 1 then s.hclk - a.acceptedAt
  else a.waited + (match a.pausedAt with | some p => s.hclk - p | none => 0)

/-- ACT_CANCEL (R386): counted, or withdrawn by a command. -/
def State.actCancelled (s : State) (counted : Bool) : State :=
  let a := s.fw.act
  let n : Int := if counted then min 3 (s.rd Upd.actCancels + 1) else s.rd Upd.actCancels
  let ms := msOf 120 s.actWaited
  let s1 := ((s.wr Upd.actCancels n).wr Upd.actLastResult 4).wr Upd.actWaited ms
  let s2 := (s1.recordLogged 0x0609 n ms a.rolled).setAct a.idle
  (when (counted && decide (n = 3)) (fun s => s.cause 11) s2).updDone

/-- A rollback is complete (R386, R388). -/
def State.rollbackDone (s : State) : State :=
  let a := s.fw.act
  let s1 := s.moveRegions 3 0
  if a.cancelled then s1.actCancelled (!a.coldEnd)
  else
    let s2 := (((s1.wr (Slot.slotState a.target) 6).wr (Slot.failCause a.target) a.failCause).wr (Slot.failAt a.target) s.beat).recordLogged
      0x0608 a.failFp a.failCause (msOf 121 (s.hclk - a.startedAt))
    (((s2.wr Upd.actLastResult (if a.failCause = 9 then 3 else 2)).wr Upd.actFailFp a.failFp).setAct a.idle).updDone

/-- The activation is complete (R384, R387): the target is active and unconfirmed. -/
def State.activationDone (s : State) : State :=
  let a := s.fw.act
  let old := s.rdN Fw.activeSlot
  let ver := s.rd (Slot.version a.target)
  let s1 := ((s.wr (Slot.slotState old) 5).wr (Slot.slotState a.target) 4).setActive a.target
  let s2 := (((s1.wr Fw.fwVersion ver).wr Upd.actLastResult 1).wr Upd.actFailFp 0xFF).wr Upd.actCancels 0
  let s3 := ((s2.moveRegions 1 2).moveRegions 3 1).recordLogged 0x0607 a.target ver (msOf 122 (s.hclk - a.startedAt))
  (s3.setAct { a.idle with confirmAt := s.hclk }).updDone.fwdReview

/-- A fall-back is complete (R384, R391). -/
def State.fallbackDone (s : State) : State :=
  let a := s.fw.act
  let old := s.rdN Fw.activeSlot
  let s1 := ((s.wr (Slot.slotState old) 6).wr (Slot.failCause old) 8).wr (Slot.failAt old) s.beat
  let s2 := (((s1.wr (Slot.slotState a.target) 3).setActive a.target).wr Fw.fwVersion (s.rd (Slot.version a.target))).wr
    Upd.actLastResult 5
  let s3 := (((s2.moveRegions 1 0).moveRegions 3 0).moveRegions 2 1).recordLogged 0x060B a.why old a.target
  (s3.setAct a.idle).updDone.fwdReview

/-- A rollback or fall-back with nothing left to move is complete. -/
def State.checkRolled (s : State) : State :=
  let a := s.fw.act
  if a.moved = [] && a.turn.isNone then (if a.phase = 3 then s.rollbackDone else if a.phase = 4 then s.fallbackDone else s) else s

/-- A rollback begins (R387, R388): the processors moved so far move back. -/
def State.beginRollback (s : State) (failFp cause : Nat) (cancelled : Bool) : State :=
  let a := s.fw.act
  s.setAct { a with
    phase := 3, failFp := failFp, failCause := cause, cancelled := cancelled, tablesDue := false
    rolled := a.moved.length + (if a.turn.isSome then 1 else 0), waited := s.actWaited, pausedAt := none }

/-! ### Boots, crashes and restarts (R367 to R371) -/

/-- A processor leaves RUN: FP1's timers stand (R266). -/
def State.leaveRun (s : State) (k : Nat) : State :=
  if k = 1 && s.rd (Fp.fpState 1) = 2 then { s with budget := { s.budget with downAt := some (if (s.fp 1).halted then s.haltFrom 1 else s.hclk) } } else s

/-- The slot a processor boots after a crash (R388): the one it was running during an activation, else the active one. -/
def State.bootTarget (s : State) (k : Nat) : Nat :=
  if s.fw.act.phase < 2 then s.rdN Fw.activeSlot
  else if s.rd (Fp.fpState k) = 1 then (s.fp k).bootSlot else s.rdN (Fp.fpSlot k)

/-- A boot starts. -/
def State.startBoot (s : State) (k slot why : Nat) : State :=
  (s.setFp k { s.fp k with bootAt := s.hclk, bootSlot := slot, bootWhy := why, bootRecord := false, halted := false }).wr (Fp.fpState k) 1

/-- RESTARTS, LAST_CAUSE and LAST_RESTART of a restart for any cause (R367, R399). -/
def State.countRestart (s : State) (k cause : Nat) : State :=
  ((s.bump (Fp.restarts k)).wr (Fp.lastCause k) cause).wr (Fp.lastRestart k) s.beat

/-- FP_RESTART with the beat of its cause (R371, R396). -/
def State.recordRestart (s : State) (k : Nat) (at_ : Stamp) (us kind : Int) : State :=
  s.recordAt at_ true k 0x0601 (k * 256 + s.rdN (Fp.lastCause k) : Nat) us kind

/-- FP_RESTART of a restart whose boot is never complete: its boot time and RESUME_KIND are open (R371, R396). -/
def State.recordBroken (s : State) (k : Nat) (at_ : Stamp) : State := (s.recordRestart k at_ (s.freeVal 218) (s.freeVal 219)).useFree

/-- A restart (R367, R371): counted in RESTARTS, recorded once its boot is complete. -/
def State.restartFp (s : State) (k cause : Nat) : State :=
  let slot := s.bootTarget k
  let s1 := (s.leaveRun k).setFp k { s.fp k with
    bootAt := s.hclk, bootSlot := slot, bootWhy := 1, bootRecord := true, crashAt := s.stamp, halted := false }
  ((s1.countRestart k cause).wr (Fp.fpState k) 4).cause 6

/-- The reset of a restarting processor is done within 0.10 ms (R368, R371): it boots. When it is done is open. -/
def State.restartsDone (s : State) : State :=
  forEach (fpList.filter (fun k => s.rd (Fp.fpState k) = 4 && decide ((s.fp k).bootAt < s.hclk))) (fun k s =>
    (if s.freeVal 220 % 2 = 1 || s.elapsed (s.fp k).bootAt 80000 then s.wr (Fp.fpState k) 1 else s).useFree) s

/-- A processor that is DOWN boots a slot (R369, R391): its history is cleared, the restart counted. -/
def State.bootDown (s : State) (k slot why cause : Nat) : State :=
  ((s.setFp k { s.fp k with crashes := [] }).countRestart k cause).startBoot k slot why

/-- A fall-back begins (R391): the processors that are DOWN boot the previous slot at once, cold. -/
def State.beginFallback (s : State) (why : Nat) : State :=
  let b := s.inactive
  let s1 := s.setAct { s.fw.act.idle with phase := 4, target := b, why := why, moved := [3, 0, 2, 1] }
  forEach (fpList.filter (fun k => s.rd (Fp.fpState k) = 5)) (fun k s => s.bootDown k b 5 6) s1

/-- Whether a fall-back may begin: the active slot is unconfirmed, nothing moves. -/
def State.unconfirmed (s : State) : Bool := s.rd (Slot.slotState (s.rdN Fw.activeSlot)) = 4 && decide (s.fw.act.phase < 2)

/-- The third crash (R369, R371, R391, R423, R444): DOWN, after FP_RESTART. No fall-back starts while the Custodian does not run (R370). -/
def State.fpDown (s : State) (k cause first : Nat) : State :=
  let s1 := (((s.leaveRun k).wr (Fp.lastCause k) cause).recordBroken k s.stamp).wr (Fp.fpState k) 5
  let s2 := (s1.recordFw k 0x0602 k cause ((s.hclk - first) / 800 : Nat)).cause 6
  let s3 := (s2.setFp k { s2.fp k with bootRecord := false }).declareHang 4 (getField (s.rdN Hang.hangAction) 2 2)
  let s4 := when (k ≠ 2) (fun s => s.startFail 3 k) s3
  if s4.unconfirmed && s4.fpRuns 3 then s4.beginFallback 3 else s4

/-- A crash during an activation ends it (R388); during a rollback or fall-back its processor's turn ends. A processor that became
DOWN boots the active slot later, or the previous one of a fall-back at once (R388, R391). -/
def State.crashEnds (s : State) (k : Nat) : State :=
  let a := s.fw.act
  let turn := if a.turn = some k then none else a.turn
  let gone := s.rd (Fp.fpState k) = 5
  let moved := if gone then a.moved.filter (fun j => j ≠ k) else a.moved
  match a.phase with
  | 2 =>
    let s1 := s.beginRollback k 9 false
    (s1.setAct { s1.fw.act with moved := moved, turn := turn, rolled := moved.length + (if turn.isSome then 1 else 0) }).checkRolled
  | 3 => (s.setAct { a with turn := turn, moved := moved }).checkRolled
  | 4 =>
    let s1 := s.setAct { a with turn := turn }
    if gone then s1.bootDown k a.target 5 6 else s1
  | _ => s

/-- A crash (R367, R369): the third within 60,000,000 beats of the first makes the processor DOWN. -/
def State.crash (s : State) (k cause : Nat) : State :=
  let l := s.crashesNow k ++ [s.hclk]
  let s1 := (s.setFp k { s.fp k with crashes := l }).logFault k
  (if l.length < 3 then s1.restartFp k cause else s1.fpDown k cause (l.getD (l.length - 3) 0)).crashEnds k

/-- A cause of R367 from a running processor; a halted one neither crashes nor expires its watchdog (R426). -/
def State.crashEvent (s : State) (k cause : Nat) : State :=
  if (s.rd (Fp.fpState k) = 2 || s.rd (Fp.fpState k) = 3) && !(s.fp k).halted then s.crash k cause else s

/-- Whether the last kick may lie a value of WDT_MS back (R367, R399): no earlier than the processor runs, and while the value stood, from one
HCLK up to another. -/
def State.kickedAt (s : State) (k ms from_ upTo : Nat) : Bool :=
  decide (max (s.fp k).runAt from_ + 800000 * ms ≤ s.hclk) && decide (s.hclk < upTo + 800000 * ms)

/-- Whether a processor's watchdog may expire now: by the present WDT_MS, or by one that stood when the firmware kicked last. -/
def State.wdtUp (s : State) (k : Nat) : Bool :=
  let l := (s.fp k).wdts
  let ends := 0 :: l.map (fun e => e.1)
  s.kickedAt k (s.rdN (Fp.wdtMs k)) (ends.getLast?.getD 0) (s.hclk + 1)
    || (l.zip ends).any (fun e => s.kickedAt k e.1.2 e.2 e.1.1)

/-- WDT_MS is written (R399): what it was stands for the kick before. -/
def State.wdtWritten (s : State) (k : Nat) (old : Int) : State :=
  s.setFp k { s.fp k with wdts := (s.fp k).wdts.filter (fun e => decide (s.hclk ≤ e.1 + 8000000)) ++ [(s.hclk, old.toNat)] }

/-- FP_WATCHDOG (R367). -/
def execFpWatchdog (k : Fin 4) (s : State) : Host.Outcome State Fault Refusal :=
  done (if s.wdtUp k then s.crashEvent k 1 else s)
def execFpTrap (k : Fin 4) (s : State) : Host.Outcome State Fault Refusal := done (s.crashEvent k 2)
def execFpMemUe (k : Fin 4) (s : State) : Host.Outcome State Fault Refusal := done (s.crashEvent k 3)
def execFpFatal (k : Fin 4) (s : State) : Host.Outcome State Fault Refusal := done (s.crashEvent k 4)

/-- FP_CTRL 1 (R369, R371, R397, R399). -/
def State.fpCtrl (s : State) (k x : Nat) : State :=
  let st := s.rd (Fp.fpState k)
  if 2 ≤ s.fw.act.phase || (st ≠ 2 && st ≠ 5) then (s.reject (Fp.fpCtrl k) x).wr (Fp.fpCtrl k) 3
  else
    let s1 := s.wr (Fp.fpCtrl k) 1
    if st = 2 then s1.restartFp k 5 else s1.bootDown k (s.rdN Fw.activeSlot) 1 5

/-- FP_CTRL_RESTART. -/
def execFpCtrlRestart (k : Fin 4) (s : State) : Host.Outcome State Fault Refusal := done (s.hostRow (fun s => s.fpCtrl k 0))

/-! ### Handover, checkpoint and intake (R372 to R374) -/

/-- A half of a processor's area. -/
def FpInt.half (f : FpInt) (h : Nat) : Option Area := if h = 0 then f.half0 else f.half1

/-- Replace a half. -/
def FpInt.setHalf (f : FpInt) (h : Nat) (a : Option Area) : FpInt := if h = 0 then { f with half0 := a } else { f with half1 := a }

/-- The half a record goes into: the one that does not hold the newest valid record. -/
def FpInt.nextHalf (f : FpInt) : Nat := 1 - f.newest

/-- The format of a record (R372, R385, R387): the lower of the two images' for a handover, the running image's own for a checkpoint. -/
def State.areaFmt (s : State) (k kind : Nat) : Nat :=
  if kind = 2 then min (s.fmtOf (Slot.handoverFmts 0)) (s.fmtOf (Slot.handoverFmts 1)) else s.fmtOf (Slot.handoverFmts (s.rdN (Fp.fpSlot k)))

/-- The Steward's working state (R373); a rewrite of FMAX_EFF is one step of the model, so none is in progress between two. -/
def State.stewardBody (s : State) : StewardFw :=
  ⟨s.rd OpTab.ageLast + 86400000000 - s.beat,
    railList.filter (fun n => (s.loop n).hold && !(tabGet (fun _ => 0) s.fw.reloaded n).testBit (s.rdN (Loop.region n))), false⟩

/-- The submitted switches that have not taken effect yet (R373), by their order of acceptance. -/
def State.budgetTags (s : State) : List Nat := (s.hub.sched.filter (fun a => a.fw.isSome && a.txn.rung = 6)).map (fun a => a.order)

/-- The Custodian's working state (R373); a conversion is one step of the model. -/
def State.custBody (s : State) : CustFw :=
  ⟨s.fw.held, (List.range 4).map (fun p => (p, (s.port p).tx.next)), s.fw.marks.map (fun e => e.1), false, s.fw.act, s.rd Upd.actCancels⟩

/-- A record is written into the alternate half (R372). -/
def State.writeArea (s : State) (k kind dst : Nat) : State :=
  let f := s.fp k
  let a : Area := {
    kind := kind, fmt := s.areaFmt k kind, seq := f.areaSeq, beat := s.beat, at_ := s.hclk, src := s.rdN (Fp.fpSlot k), dst := dst
    steward := s.stewardBody, corr := s.rd Budget.corrMw, budget := s.budget.fw, tags := s.budgetTags, period := s.budget.lastPeriod
    drum := s.drum.fw, deficit := s.rd Pace.ownDeficit, pace := s.rd Pace.paceState, coll := s.drum.coll, gens := s.drum.genNodes
    cust := s.custBody }
  (s.setFp k { f.setHalf f.nextHalf (some a) with newest := f.nextHalf, areaSeq := f.areaSeq + 1, ckptAt := s.hclk }).wr (Fp.ckptAge k) 0

/-- A checkpoint (R372), in whose course the firmware passes a trace point (R376). -/
def State.checkpoint (s : State) (k : Nat) : State := (s.writeArea k 1 (s.rdN (Fp.fpSlot k))).logTrace k

/-- A running processor writes a checkpoint at least every CKPT_PERIOD (R372). -/
def State.checkpointsDue (s : State) : State :=
  forEach (fpList.filter (fun k => s.fpRuns k && s.elapsed (s.fp k).ckptAt (800000 * s.rdN Fw.ckptPeriod))) (fun k s => s.checkpoint k) s

/-- CHECKPOINT_WRITE (R372). -/
def execCheckpointWrite (k : Fin 4) (s : State) : Host.Outcome State Fault Refusal :=
  done (if s.fpRuns k then s.checkpoint k else s)

/-- Whether an image reads a handover format (R374, R377): from HANDOVER_BACK to HANDOVER_FMT. -/
def hdrReads (h : List Byte) (fmt : Nat) : Bool := decide (hdrField h 30 2 ≤ fmt) && decide (fmt ≤ hdrField h 28 2)

/-- The area of a processor that a boot takes (R374), with its half; `h`: the booted image's header. -/
def State.intake (s : State) (k : Nat) (h : List Byte) : Option (Nat × Area) :=
  let f := s.fp k
  let l := [f.newest, f.nextHalf].filterMap (fun h => (f.half h).map (fun a => (h, a)))
  let hand := l.find? (fun e => e.2.kind = 2 && (e.2.dst = f.bootSlot || (f.bootWhy = 4 && e.2.src = f.bootSlot)) && hdrReads h e.2.fmt)
  if f.bootWhy = 5 then none
  else match hand with
    | some e => some e
    | none => l.find? (fun e => e.2.kind = 1 && decide (s.beat ≤ e.2.beat + 1000 * s.rdN Fw.ckptMaxAge))

/-- FP1 resumes (R373, R374): from an area, or cold, when its open instances, corr and the plans not submitted are lost. -/
def State.resumeBudget (s : State) (a : Option Area) : State :=
  let old := s.budget.fw
  let sub := old.plans.filter (fun p => p.submitted)
  let since := s.budget.downAt.getD s.hclk
  let fw := match a with
    | some a => { a.budget.shift (s.hclk - a.at_) with
        plans := sub ++ a.budget.plans.filter (fun p => !p.submitted && !sub.any (fun x => x.pts = p.pts && x.beat = p.beat)) }
    | none => { old.shift (s.hclk - since) with insts := [], plans := sub, preloads := [] }
  let s0 : State := { s with budget := { s.budget with fw := fw, downAt := none } }
  let s1 := forEach ptList (fun p s => s.wr (Part.instOpen p) (if fw.insts.any (fun e => e.1 = p) then 1 else 0)) s0
  forEach ptList (fun p s => s.showNext p) (s1.wr Budget.corrMw (match a with | some a => a.corr | none => 0))

/-- Rounds without a grant (R326): from GRANT_LOSS_N in a row on, FP2 records the loss once. -/
def State.grantMissed (s : State) (rounds : Nat) : State :=
  let n := s.drum.fw.loss + rounds
  let s1 : State := { s with drum := { s.drum with away := 0, fw := { s.drum.fw with loss := n } } }
  if n < s.rdN Coll.grantLossN || s.drum.fw.lost then s1
  else
    let s1 : State := { s1 with drum := { s1.drum with fw := { s1.drum.fw with lost := true } } }
    let s2 := if s.rd Coll.grantLossAct = 1 then s1.wr Budget.clusterGrantMw (s.rd Coll.grantFallbackMw) else s1
    s2.recordDl 0x050B n (s.rd Coll.grantLossAct) (divOpen 135 (s2.rd Budget.clusterGrantMw) 1000)

/-- FP2 resumes (R373, R374), the rounds without a grant since it left RUN are counted (R326), and GEN_OFFER becomes min(GEN_OFFER_REQ, DL_GEN) (R392). -/
def State.resumeDrum (s : State) (slot : Nat) (a : Option Area) : State :=
  let fw := match a with | some a => a.drum | none => { s.drum.fw with dither := [] }
  let gen := s.rd (Slot.dlGen slot)
  let s1 := (({ s with drum := { s.drum with fw := fw } }).wr Fw.dlGenImg gen).wr Node.genOffer (min (s.rd Fw.genOfferReq) gen)
  if s.drum.away = 0 then s1 else s1.grantMissed s.drum.away

/-- The Custodian resumes (R370, R374): an activation that its record does not hold is cancelled, a running one by a rollback; a fall-back that
a processor called for by becoming DOWN meanwhile begins (DESIGN CHOICE, log 130). -/
def State.resumeCustodian (s : State) (a : Option Area) : State :=
  let act := s.fw.act
  let kept := match a with | some a => a.cust.act.phase ≠ 0 && a.cust.act.acceptedAt = act.acceptedAt | none => false
  if act.phase = 1 && !kept then s.actCancelled false
  else if act.phase = 2 && !kept then
    let s1 := s.beginRollback 255 0 true
    s1.setAct { s1.fw.act with coldEnd := true }
  else if s.unconfirmed && s.fpMask 5 ≠ 0 then s.beginFallback 3 else s

/-- A role resumes from what its boot takes (R374). -/
def State.resume (s : State) (k : Nat) (a : Option Area) : State :=
  match k with
  | 1 => s.resumeBudget a
  | 2 => s.resumeDrum (s.fp 2).bootSlot a
  | 3 => s.resumeCustodian a
  | _ => s

/-! ### The completion of a boot (R371, R374, R387) -/

/-- The order of activation (R387): Custodian, Steward, Drumline, Budget. -/
def actOrder : List Nat := [3, 0, 2, 1]

/-- A boot for an activation, a rollback or a fall-back is complete. -/
def State.afterBoot (s : State) (k why : Nat) : State :=
  let a := s.fw.act
  let turn := if a.turn = some k then none else a.turn
  match a.phase with
  | 2 =>
    if why = 2 then
      let moved := a.moved ++ [k]
      let s1 := s.setAct { a with moved := moved, turn := turn, tablesDue := k = 3 || a.tablesDue }
      let s2 := when (k = 3) (fun s => s.convertRegion) s1
      if actOrder.all (fun j => moved.contains j) then s2.activationDone else s2
    else s
  | 3 => (s.setAct { a with
      turn := turn, moved := if why = 2 then a.moved ++ [k] else if why = 3 then a.moved.filter (fun j => j ≠ k) else a.moved }).checkRolled
  | 4 => (s.setAct { a with
      turn := turn, moved := if why = 3 || why = 5 then a.moved.filter (fun j => j ≠ k) else a.moved }).checkRolled
  | _ => s

/-- The next processor of the start boots (R443): Custodian, Steward, Budget, Drumline. -/
def State.nextBoot (s : State) : State :=
  match [3, 0, 1, 2].find? (fun k => s.rd (Fp.fpState k) = 0) with
  | some k => s.startBoot k (s.rdN Fw.activeSlot) 0
  | none => s

/-- Once no processor boots, the chain of S7 goes on, but not while the start is held for a boot (R443, R444). -/
def State.bootOn (s : State) : State :=
  let held := s.rd Start.startState = 6 && s.rd Start.failCause = 3
  if held || fpList.any (fun j => s.rd (Fp.fpState j) = 1 || s.rd (Fp.fpState j) = 4) then s else s.nextBoot

/-- A record that a boot takes is invalid from then on (R374); the next one goes into the half that does not hold the newest valid one
(R372). -/
def FpInt.consume (f : FpInt) (h : Nat) : FpInt :=
  let f1 := f.setHalf h none
  if f.newest = h && (f1.half (1 - h)).isSome then { f1 with newest := 1 - h } else f1

/-- The check passes: intake, RUN (R371, R374); FP_RESTART is recorded with the beat of its cause. -/
def State.bootPass (s : State) (k : Nat) (h : List Byte) : State :=
  let f := s.fp k
  let e := s.intake k h
  let kind : Nat := match e with | some e => e.2.kind | none => 0
  let us := divOpen 123 (s.hclk - f.bootAt : Nat) 800
  let f1 := match e with | some e => f.consume e.1 | none => f
  let s1 := s.setFp k { f1 with halted := s.hang.stop, bootRecord := false, runAt := s.hclk, ckptAt := s.hclk }
  let s2 := (((s1.wr (Fp.fpState k) 2).wr (Fp.fpSlot k) f.bootSlot).wr (Fp.resumeKind k) kind).wr (Fp.lastBootUs k) us
  let s3 := s2.resume k (e.map (fun e => e.2))
  let s4 := if f.bootRecord then s3.recordRestart k f.crashAt us kind else s3
  let s5 := if s.rd (Fp.fpCtrl k) = 1 then s4.cmdDone (Fp.fpCtrl k) 2 else s4
  (s5.logAlways k).bootOn.afterBoot k f.bootWhy

/-- The check fails (R371, R378, R387): the slot it left for an activation, else a crash with cause 7. -/
def State.bootFail (s : State) (k cause : Nat) : State :=
  let f := s.fp k
  let s1 := s.wr (Slot.failCause f.bootSlot) cause
  if f.bootWhy = 2 then
    let back := s1.rdN (Fp.fpSlot k)
    let s2 := s1.setFp k { f with bootSlot := back, bootWhy := 4 }
    if s.fw.act.phase = 2 then
      let s3 := s2.beginRollback k cause false
      s3.setAct { s3.fw.act with rolled := s.fw.act.moved.length }
    else s2
  else (if f.bootRecord then s1.recordBroken k f.crashAt else s1).crash k 7

/-- FP_BOOT (R371, R378): from BOOT, which a restart reaches once its reset is done. -/
def execFpBoot (k : Fin 4) (r : BootRead) (s : State) : Host.Outcome State Fault Refusal :=
  done (if s.rd (Fp.fpState k) = 1 then
    (match s.bootCheck k r with
      | 0 => s.bootPass k r.header
      | c => s.bootFail k c)
  else s)

/-- After HANDOVER (R367, R371): reset, and boot of the slot its turn names. -/
def State.handoverEnd (s : State) (k : Nat) : State :=
  (s.startBoot k (s.fp k).handDst (if s.fw.act.phase = 2 then 2 else 3)).countRestart k 6

/-- HANDOVER_DONE (R371, R372). -/
def execHandoverDone (k : Fin 4) (s : State) : Host.Outcome State Fault Refusal :=
  done (if s.rd (Fp.fpState k) = 3 && !(s.fp k).halted then (s.writeArea k 2 (s.fp k).handDst).handoverEnd k else s)

/-- HANDOVER_TIMEOUT (R371): 1 ms; the half it was writing is invalid. -/
def execHandoverTimeout (k : Fin 4) (s : State) : Host.Outcome State Fault Refusal :=
  done (if s.rd (Fp.fpState k) = 3 && !(s.fp k).halted && s.elapsed (s.fp k).handAt 800000 then
    (s.setFp k ((s.fp k).setHalf (s.fp k).nextHalf none)).handoverEnd k else s)

/-- TABLES_CHECK (R378, R387): a failure gives cause 7 for the slot, and ends an activation. -/
def State.tablesCheck (s : State) (r : BootRead) : State :=
  let b := s.rdN (Fp.fpSlot 3)
  if !s.fpRuns 3 then s
  else
    let a := s.fw.act
    if tagGood 4 r then s.setAct { a with tablesDue := false }
    else
      let s1 := s.wr (Slot.failCause b) 7
      if a.phase = 2 && a.tablesDue then (s1.beginRollback 3 7 false).checkRolled else s1

/-- TABLES_CHECK. -/
def execTablesCheck (r : BootRead) (s : State) : Host.Outcome State Fault Refusal := done (s.tablesCheck r)

/-! ### The course of an activation (R385 to R391) -/

/-- UPD_CTRL is rejected: it reads 3. -/
def State.rejectUpd (s : State) (x : Nat) : State := (s.reject Upd.updCtrl x).wr Upd.updCtrl 3

/-- Whether ACTIVATE is accepted (R385). -/
def State.activateOk (s : State) : Bool :=
  let b := s.inactive
  let h := tabGet (fun _ => []) s.fw.headers b
  decide (s.fw.act.phase = 0) && s.rd (Slot.slotState b) = 2 && s.rd (Slot.slotState (s.rdN Fw.activeSlot)) = 3
    && s.fpMask 5 = 0 && [3, 4, 5, 6].all (fun c => s.hdrTest h c) && s.fmtsMeet Slot.handoverFmts && s.fmtsMeet Slot.settingsFmts

/-- UPD_CTRL 1 (R385, R386). -/
def State.updActivate (s : State) (x : Nat) : State :=
  if !s.activateOk then s.rejectUpd x
  else ((s.wr Upd.updCtrl 1).wr Upd.actWaited 0).setAct { s.fw.act.idle with phase := 1, target := s.inactive, acceptedAt := s.hclk }

/-- CONF_LIMIT has elapsed since the activation (R391). -/
def State.confLimitUp (s : State) : Bool :=
  s.rd Upd.confLimit ≠ 0 && s.elapsed s.fw.act.confirmAt (800000000 * s.rdN Upd.confLimit)

/-- Whether a cause of a fall-back waits in this HCLK (R397): the command over any transport, CONF_LIMIT, a third crash. -/
def State.fallbackComes (s : State) : Bool :=
  let third := fun (k : Nat) => k ≠ 3 && decide (2 ≤ (s.crashesNow k).length)
  let runs := fun (k : Nat) => third k && (s.rd (Fp.fpState k) = 2 || s.rd (Fp.fpState k) = 3) && !(s.fp k).halted
  let back := s.rd (Slot.slotState s.inactive) = 5
  (back && s.valueComes Upd.updCtrl 5) || s.comes (fun i => match i with
    | .updFallback => back && s.hostUp
    | .confLimitExpiry => s.confLimitUp
    | .fpWatchdog k => runs k && s.wdtUp k
    | .fpTrap k => runs k
    | .fpMemUe k => runs k
    | .fpFatal k => runs k
    | .fpBoot k r => third k && s.rd (Fp.fpState k) = 1 && (s.fp k).bootWhy ≠ 2 && s.bootCheck k r ≠ 0
    | _ => false)

/-- UPD_CTRL 2 (R390, R397): a fall-back of the HCLK wins. -/
def State.updConfirm (s : State) (x : Nat) : State :=
  if !s.unconfirmed || s.fallbackComes then s.rejectUpd x
  else
    let a := s.rdN Fw.activeSlot
    let svn := max (s.rd Upd.minSvn) (s.rd (Slot.svn a))
    let s1 := (s.wr Upd.minSvn svn).wr (Slot.slotState a) 3
    let s2 := if s.rd (Slot.slotState (1 - a)) = 5 then (s1.clearSlot (1 - a)).wr (Slot.slotState (1 - a)) 0 else s1
    ((((s2.moveRegions 2 0).moveRegions 3 1).recordLogged 0x060A a (s.rd (Slot.version a)) svn).cmdDone Upd.updCtrl 2)

/-- A chunk's program is answered (R380, R381): MCTP status OK or RANGE, or a BULK_CTL ACK or NAK on its port. -/
def State.answerChunk (s : State) (j : ChunkJob) (ok : Bool) : State :=
  let s1 := if ok then s else s.bump Upd.chunkNaks
  if j.source = 0 then s1.respondTo j.asker 4 (if ok then .ok else .range) []
  else
    let p := s1.port (j.source - 1)
    if p.up then s1.setPort (j.source - 1) { p with
      bulkCtl := p.bulkCtl ++ [9 * 2 ^ 48 + (if ok then 3 else 4) * 2 ^ 44 + j.stream * 2 ^ 24 + j.chunk] } else s1

/-- UPD_CTRL 3 (R384, R386, R397): chunks on their way are refused, and a request that is still deferred is withdrawn with the stream. -/
def State.updAbort (s : State) (x : Nat) : State :=
  let b := s.inactive
  if 2 ≤ s.fw.act.phase || (s.rd (Slot.slotState b) ≠ 1 && s.rd (Slot.slotState b) ≠ 2) then s.rejectUpd x
  else
    let jobs := s.fw.program
    let s0 := if s.fw.act.phase = 1 then s.actCancelled false else s
    let s1 := forEach jobs (fun j s => s.answerChunk j false) { s0 with fw := { s0.fw with program := [] } }
    ((((s1.clearSlot b).wr (Slot.slotState b) 0).wr Upd.actCancels 0).cmdDone Upd.updCtrl 2).fwdReview

/-- UPD_CTRL 4 (R386): a deferred request. -/
def State.updCancel (s : State) (x : Nat) : State :=
  if s.fw.act.phase = 1 then (s.actCancelled false).cmdDone Upd.updCtrl 2 else s.rejectUpd x

/-- UPD_CTRL 5 (R391). -/
def State.updFallback (s : State) (x : Nat) : State :=
  if s.unconfirmed && s.rd (Slot.slotState s.inactive) = 5 then (s.wr Upd.updCtrl 1).beginFallback 1 else s.rejectUpd x

/-- The Custodian serves UPD_CTRL (R370): it answers RETRY while FP3 does not run. -/
def State.byCustodian (s : State) (f : State → State) : State := if s.fpRuns 3 then f s else s

def execUpdActivate (s : State) : Host.Outcome State Fault Refusal := done (s.hostRow (fun s => s.byCustodian (fun s => s.updActivate 0)))
def execUpdConfirm (s : State) : Host.Outcome State Fault Refusal := done (s.hostRow (fun s => s.byCustodian (fun s => s.updConfirm 0)))
def execUpdAbort (s : State) : Host.Outcome State Fault Refusal := done (s.hostRow (fun s => s.byCustodian (fun s => s.updAbort 0)))
def execUpdCancel (s : State) : Host.Outcome State Fault Refusal := done (s.hostRow (fun s => s.byCustodian (fun s => s.updCancel 0)))
def execUpdFallback (s : State) : Host.Outcome State Fault Refusal := done (s.hostRow (fun s => s.byCustodian (fun s => s.updFallback 0)))

/-- The quiet condition has held for 10 ms (R386). -/
def State.quiet10 (s : State) : Bool := match s.fw.act.quietAt with | some q => s.elapsed q 8000000 | none => false

/-- ACTIVATION_START (R386). -/
def State.activationStart (s : State) : State :=
  let a := s.fw.act
  if a.phase ≠ 1 || !s.quiet10 then s
  else
    let w := s.hclk - a.acceptedAt
    let ms := msOf 124 w
    ((s.setAct { a with phase := 2, startedAt := s.hclk, waited := w, pausedAt := none }).wr Upd.actWaited ms).recordLogged 0x0606 a.target
      (s.rd (Slot.version a.target)) ms

/-- ACTIVATION_START. -/
def execActivationStart (s : State) : Host.Outcome State Fault Refusal := done s.activationStart

/-- A processor's turn: it writes its handover (R371). -/
def State.takeTurn (s : State) (k dst : Nat) : State :=
  let a := s.fw.act
  let s1 := (s.leaveRun k).setFp k { s.fp k with handAt := s.hclk, handDst := dst }
  (s1.setAct { a with turn := some k }).wr (Fp.fpState k) 3

/-- The processor that moves back next (R387): the last moved that runs; the Custodian last. -/
def State.nextBack (s : State) : Option Nat :=
  let l := s.fw.act.moved
  l.reverse.find? (fun k => s.fpRuns k && (k ≠ 3 || l = [3]))

/-- ACTIVATION_MOVE (R387 to R391): the next processor of the activation, its rollback or a fall-back. -/
def State.activationMove (s : State) : State :=
  let a := s.fw.act
  if a.turn.isSome then s
  else match a.phase with
    | 2 =>
      let ready := if a.pausedAt.isSome then s.quiet10 else a.quietAt.isSome
      if !ready || a.tablesDue then s
      else match actOrder.find? (fun k => !a.moved.contains k) with
        | some k =>
          let w := s.actWaited
          ((s.setAct { a with waited := w, pausedAt := none }).wr Upd.actWaited (msOf 125 w)).takeTurn k a.target
        | none => s
    | 3 => match s.nextBack with | some k => s.takeTurn k (s.rdN Fw.activeSlot) | none => s
    | 4 => match s.nextBack with | some k => s.takeTurn k a.target | none => s
    | _ => s

/-- ACTIVATION_MOVE. -/
def execActivationMove (s : State) : Host.Outcome State Fault Refusal := done s.activationMove

/-- ACT_LIMIT_EXPIRY (R386, R397): the start wins where its condition is met. -/
def State.actLimitExpiry (s : State) : State :=
  let a := s.fw.act
  if s.actWaited < 800000 * s.rdN Upd.actLimit then s
  else if a.phase = 1 then (if s.quiet10 then s else s.actCancelled true)
  else if a.phase = 2 && a.pausedAt.isSome && !s.quiet10 then (s.beginRollback 255 0 true).checkRolled
  else s

/-- ACT_LIMIT_EXPIRY. -/
def execActLimitExpiry (s : State) : Host.Outcome State Fault Refusal := done (s.byCustodian (fun s => s.actLimitExpiry))

/-- CONF_LIMIT_EXPIRY (R391). -/
def execConfLimitExpiry (s : State) : Host.Outcome State Fault Refusal :=
  done (if s.fpRuns 3 && s.unconfirmed && s.confLimitUp then
    s.beginFallback 2 else s)

/-! ### Delivery (R379 to R381) -/

/-- What becomes of an arriving chunk. -/
inductive ChunkIn where
  | refused | held | taken
  deriving DecidableEq, Repr

/-- The map of held chunks of a slot. -/
def State.heldMap (s : State) (b : Nat) : Nat := tabGet (fun _ => 0) s.fw.held b

/-- Whether a chunk is refused, already held, or taken (R379, R380). -/
def State.chunkVerdict (s : State) (stream chunk : Nat) : ChunkIn :=
  let b := s.inactive
  let st := s.rd (Slot.slotState b)
  let n := s.rdN (Slot.nChunks b)
  if 32767 < chunk then .refused
  else if st = 0 || st = 6 then .taken
  else if st ≠ 1 && st ≠ 2 then .refused
  else if s.rdN (Slot.stream b) ≠ stream || (n ≠ 0 && decide (n ≤ chunk)) then .refused
  else if (s.heldMap b).testBit chunk then .held else .taken

/-- The first chunk of a stream opens the slot (R379, R384, R386); the first one after a reset resumes it. -/
def State.openSlot (s : State) (stream source : Nat) : State :=
  let b := s.inactive
  if s.rd (Slot.slotState b) = 1 then
    (if s.fw.resume then
      ({ s with fw := { s.fw with resume := false } }).recordFw 3 0x0604 stream source (s.rd (Slot.held b)) else s)
  else if s.rd (Slot.slotState b) = 2 then s
  else ((((s.clearSlot b).wr (Slot.slotState b) 1).wr (Slot.stream b) stream).wr Upd.actCancels 0).recordFw 3 0x0604 stream source 0

/-- An arriving chunk is programmed, or answered at once (R379 to R381). -/
def State.chunkIn (s : State) (j : ChunkJob) : State :=
  match s.chunkVerdict j.stream j.chunk with
  | .refused => s.answerChunk j false
  | .held => s.answerChunk j true
  | .taken =>
    let s1 := s.openSlot j.stream j.source
    { s1 with fw := { s1.fw with program := s1.fw.program ++ [{ j with slot := s.inactive }] } }

/-- A BLOCK_WRITE to UPD_CHUNK (R380), a level D access of its transport (R236). -/
def State.updChunk (s0 : State) (x : Xport) (m : DictMsg) : State :=
  if !s0.msgTurn x m then s0 else
  let s := (s0.takeMsg x m.src.toNat m.tag.toNat).fabric 3 (1 + xnum x)
  let a := askerOf x m 0 264
  let data := m.body.drop 6
  match s.msgCheck 4 m with
  | some st => s.respond a 4 st a.count []
  | none =>
    if m.body.length ≠ 270 || leNat (m.body.take 4) ≠ 0 || leNat ((m.body.drop 4).take 2) ≠ 264 then s.respond a 4 .length a.count []
    else if !s.fpRuns 3 then s.respond a 4 .retry a.count []
    else
      let j : ChunkJob := ⟨0, leNat ((data.drop 2).take 2), leNat (data.take 2), 0, data.drop 8, some a⟩
      if leNat ((data.drop 4).take 4) = (crc32c (data.drop 8)).toNat then s.chunkIn j else s.answerChunk j false

/-- UPD_CHUNK_WRITE; over the host target port, ACCESS (R380). -/
def execUpdChunkWrite (x : Xport) (m : DictMsg) (s : State) : Host.Outcome State Fault Refusal :=
  done (if x = .htp then (if s.reqReady then s.htpRespond m.tag.toNat 1 0 else s) else if s.xportOn x then s.updChunk x m else s)

/-- The set bits of a number below n. -/
def popBelow : Nat → Nat → Nat
  | 0, _ => 0
  | n + 1, v => if v = 0 then 0 else v % 2 + popBelow n (v / 2)

/-- What chunk 0 gives a slot (R379, R402): chunks held at or above N_CHUNKS are dropped. -/
def State.takeHeader (s : State) (b : Nat) (h : List Byte) : State :=
  let n := hdrField h 8 4 / 256
  let m := s.heldMap b % 2 ^ n
  let s1 : State := { s with fw := { s.fw with held := tabPut s.fw.held b m, headers := tabPut s.fw.headers b h } }
  let s2 := ((((s1.wr (Slot.nChunks b) n).wr (Slot.held b) (popBelow n m)).wr (Slot.version b) (hdrField h 12 4)).wr (Slot.svn b)
    (hdrField h 16 4)).wr (Slot.dlGen b) (hdrField h 23 1)
  (s2.wr (Slot.settingsFmts b) (hdrField h 24 2 * 65536 + hdrField h 26 2 : Nat)).wr (Slot.handoverFmts b)
    (hdrField h 28 2 * 65536 + hdrField h 30 2 : Nat)

/-- Whether every chunk of a slot is held. -/
def State.allHeld (s : State) (b : Nat) : Bool := s.rd (Slot.nChunks b) ≠ 0 && s.rd (Slot.held b) = s.rd (Slot.nChunks b)

/-- The boot directory mirrors the map every 256 chunks and once every chunk is held (R383). -/
def State.mirrorMap (s : State) (b : Nat) : State :=
  if s.rdN (Slot.held b) % 256 = 0 || s.allHeld b then
    { s with fw := { s.fw with mirror := tabPut s.fw.mirror b (s.rdN (Slot.stream b), s.heldMap b) } }
  else s

/-- A chunk is held (R379, R384, R404); the slot is STAGED when every chunk is. -/
def State.holdChunk (s : State) (b chunk : Nat) (bytes : List Byte) : State :=
  let s1 : State := { s with fw := { s.fw with held := tabPut s.fw.held b (putBit (s.heldMap b) chunk true) } }
  let s2 := ((s1.bump (Slot.held b)).bump Upd.chunksRx).bump UpdMap.gen
  let s3 := (when (chunk = 0) (fun s => s.takeHeader b bytes) s2).mirrorMap b
  if s3.allHeld b && s3.rd (Slot.slotState b) = 1 then
    ((s3.wr (Slot.slotState b) 2).recordFw 3 0x0605 (s3.rd (Slot.stream b)) (s3.rd (Slot.version b)) b).cause 11
  else s3

/-- CHUNK_HELD (R379, R397): the program at the head reads back; the same chunk from another source is answered with it. A program
whose read-back fails is made again. -/
def State.chunkHeld (s : State) (good : Bool) : State :=
  match s.fw.program with
  | [] => s
  | j :: rest =>
    if !s.fpRuns 3 || (s.chest.inhibitAt.isSome && !s.fw.tail) then s
    else if !good then { s with fw := { s.fw with tail := false } }
    else
      let same := rest.filter (fun i => i.slot = j.slot && i.chunk = j.chunk)
      let s1 : State := { s with
        fw := { s.fw with program := rest.filter (fun i => !(i.slot = j.slot && i.chunk = j.chunk)), tail := false } }
      let n := s.rdN (Slot.nChunks j.slot)
      let out := n ≠ 0 && decide (n ≤ j.chunk)
      let s0 := s1.norProgram (slotNor j.slot j.chunk) j.bytes
      let s2 := if out || (s.heldMap j.slot).testBit j.chunk then s0 else s0.holdChunk j.slot j.chunk j.bytes
      forEach (j :: same) (fun i s => s.answerChunk i (!out)) s2

/-- CHUNK_HELD. -/
def execChunkHeld (good : Bool) (s : State) : Host.Outcome State Fault Refusal := done (s.chunkHeld good)

/-! ### The settings store (R393 to R395) -/

/-- Saves go to both regions from the start of an activation until CONFIRM or fall-back (R394). -/
def State.saveCopies (s : State) : Int := if 2 ≤ s.fw.act.phase || s.rd (Slot.slotState (s.rdN Fw.activeSlot)) = 4 then 2 else 1

/-- The regions a save goes to. -/
def State.saveRegions (s : State) : List Nat := if s.saveCopies = 2 then [s.currentRegion, 1 - s.currentRegion] else [s.currentRegion]

/-- SETTINGS_ERR (R393, R396) of a sector: 1 CRC, 2 program, 3 erase. -/
def State.settingsErr (s : State) (r sector kind : Nat) : State :=
  (s.bump Sett.saveErrors).recordLogged 0x060D r (sector % 512 : Nat) kind

/-- Space is made in a region (R393): the oldest sectors are erased, or the erase of one fails. -/
def State.makeSpace (s : State) (r : Nat) (erased : Bool) : State :=
  let v := s.region r
  if !v.low then s
  else if erased then s.setRegion r (v.compact 512) else s.settingsErr r (v.tail / sectorSize) 3

/-- A record is saved (R393, R394). -/
def State.saveRec (s : State) (ty sub idx : Nat) (data : List Byte) (erased : Bool) : State :=
  forEach s.saveRegions (fun r s => (s.programRec r ty sub idx data).makeSpace r erased) s

/-- SETTINGS_ERR for a program, with the sector it meets. -/
def State.saveError (s : State) : State :=
  let r := s.currentRegion
  s.settingsErr r ((s.region r).pos / sectorSize) 2

/-- ROOT_MODE and RING as their saves leave them (R298). -/
def State.saveRoot (s : State) (key : Nat) : State :=
  let old := s.fw.root.getD (dictDefault Node.rootMode = 1, dictDefault Node.ring = 1)
  if key = Node.rootMode then { s with fw := { s.fw with root := some (s.rd Node.rootMode = 1, old.2) } }
  else if key = Node.ring then { s with fw := { s.fw with root := some (old.1, s.rd Node.ring = 1) } } else s

/-- What a save writes of a sub (R227, R394): its value; of a coefficient the committed one, not the staged one. -/
def State.saveValue (s : State) (key : Nat) : Int :=
  if isCoef key then
    let n := key / 256 - 0x4000
    let l := s.loop n
    LoopInt.applied n (if l.commit = 0 then l.coef else l.newCoef) (key % 256 - 0x40)
  else s.rd key

/-- The marks of a save: those made before this HCLK; a write during a save waits for the next one (R397). -/
def State.saveMarks (s : State) : List (Nat × Nat) := s.fw.marks.filter (fun e => decide (e.2 < s.hclk))

/-- Whether a save is due (R394): SAVE_DELAY after the oldest mark, or SAVE_NOW. -/
def State.saveDue (s : State) : Bool :=
  s.saveMarks ≠ [] && (s.fw.saving || s.saveMarks.any (fun e => s.elapsed e.2 (800000 * s.rdN Sett.saveDelay)))

/-- A mark's value is saved. -/
def State.saveMark (s : State) (key : Nat) (erased : Bool) : State :=
  (s.saveRec 1 (key % 256) (key / 256) (leBytes 8 (s.saveValue key % 2 ^ 64).toNat) erased).saveRoot key

/-- SETTINGS_SAVE (R298, R394, R421): the marked values are programmed, and ROOT_MODE or RING among them in the boot directory too; of a save
under way at an inhibit, the one value whose program runs. -/
def State.settingsSave (s : State) (r : SaveOut) : State :=
  let held := s.chest.inhibitAt.isSome
  if !s.fpRuns 3 || !s.saveDue || (held && !s.fw.saveTail) then s
  else if r = .program then ({ s with fw := { s.fw with saveTail := false } }).saveError.fabric 2 3
  else
    let l := if held then s.saveMarks.take 1 else s.saveMarks
    let rest := s.fw.marks.filter (fun e => !l.contains e)
    let s0 := forEach l (fun e s => s.saveMark e.1 (r ≠ .erase)) s
    let s1 := (s0.bump Sett.saves (s.saveCopies * l.length)).wr Sett.pending rest.length
    let s2 : State := { s1 with fw := { s1.fw with marks := rest, saving := s.fw.saving && held, saveTail := false } }
    (if s.rd Sett.saveNow = 1 && !held then s2.cmdDone Sett.saveNow 2 else s2).dirWrite.fabric 2 3

/-- SETTINGS_SAVE. -/
def execSettingsSave (r : SaveOut) (s : State) : Host.Outcome State Fault Refusal := done (s.settingsSave r)

/-- SAVE_NOW 1 (R394, R405). -/
def State.saveNowCmd (s : State) : State :=
  if s.fw.marks = [] then s.cmdDone Sett.saveNow 2 else ({ s with fw := { s.fw with saving := true } }).wr Sett.saveNow 1

/-- SAVE_NOW. -/
def execSaveNow (s : State) : Host.Outcome State Fault Refusal := done (s.hostRow (fun s => s.byCustodian (fun s => s.saveNowCmd)))

/-- PROFILE_SAVE (R394): the profiles whose GEN has changed. -/
def State.profileSave (s : State) : State :=
  let p := s.rdN Sett.profileSave
  if !s.fpRuns 3 || s.chest.inhibitAt.isSome || p = 0 || !s.elapsed s.fw.profAt (800000000 * p) then s
  else
    let l := (List.range 256).filter (fun q => s.rd (Pid.gen q) ≠ tabGet (fun _ => 0) s.fw.profGen q)
    let s1 : State := { s with
      fw := { s.fw with profAt := s.hclk, profGen := l.foldl (fun t q => tabPut t q (s.rd (Pid.gen q))) s.fw.profGen } }
    let s2 := forEach l (fun q s =>
      s.saveRec 2 0 (0x6200 + q) ((List.range 128).flatMap (fun w => leBytes 8 (s.blobWord (0x6200 + q) w))) true) s1
    (s2.bump Sett.saves (s.saveCopies * l.length)).fabric 2 3

/-- PROFILE_SAVE. -/
def execProfileSave (s : State) : Host.Outcome State Fault Refusal := done s.profileSave

/-- COEF_RELOAD (R395): the active region of a rail in a loop hold, once per region until a driver's commit. -/
def State.coefReload (s : State) (n : Nat) (words : List (BitVec 26)) (fromStore : Bool) : State :=
  let r := s.rdN (Loop.region n)
  let m := tabGet (fun _ => 0) s.fw.reloaded n
  if !s.fpRuns 0 || !(s.loop n).hold || m.testBit r then s
  else
    let s1 := forEach (words.take 15).zipIdx (fun e s => s.wr (Loop.coef n (15 * r + e.2)) e.1.toNat) s
    let s2 : State := { s1 with fw := { s1.fw with reloaded := tabPut s1.fw.reloaded n (putBit m r true) } }
    (((s2.showPending n).coefCommitWrite n r 0).recordFw 0 0x060C n r (if fromStore then 0 else 1)).fabric 2 0

/-- COEF_RELOAD. -/
def execCoefReload (n : Fin 8) (words : List (BitVec 26)) (fromStore : Bool) (s : State) : Host.Outcome State Fault Refusal :=
  done (s.coefReload n words fromStore)

end Sys2Proof.Machine
end

