-- ==== Sys2Proof/Machine/Drumline.lean ====
section
/-! DEFINITION. Drumline (spec/10) with the acquisition of BREF (R185 to R187): frames, links, delay and beat, EXPRESS. Instants of
frame edges are in 156.25 ps units, 8 to the HCLK. -/

namespace Sys2Proof.Machine

/-- The ports, and the downstream ones. -/
def portList : List Nat := List.range 4
def downPorts : List Nat := [1, 2, 3]

/-- Whether the node is the root (R298). -/
def State.isRoot (s : State) : Bool := s.rd Node.nodeRole = 0

/-- Whether a port's frames are used (R314): a root uses DL0 only with RING 1. -/
def State.usesPort (s : State) (p : Nat) : Bool := p ≠ 0 || !s.isRoot || s.drum.ring || !s.start.dirRead

/-- The instant of an edge that passed `age` units before this HCLK. -/
def State.edgeAt (s : State) (age : Nat) : Int := 8 * (s.hclk : Int) - age

/-! ### Generations and EXPRESS (R301, R308, R317) -/

/-- The link generation a frame type needs (R302). -/
def typeGen (t : Nat) : Nat := if t ≤ 3 then 0 else if t = 6 || t = 7 then 2 else 1

/-- The generation of a link, 0 while it is not UP. -/
def State.linkGen (s : State) (p : Nat) : Nat := if s.rd (Port.linkState p) = 2 then s.rdN (Port.linkGen p) else 0

/-- Whether a link carries the EXPRESS and GEN frames of a group (R307, R308). -/
def State.carriesGroup (s : State) (p g : Nat) : Bool := decide ((if g < 8 then 1 else 3) ≤ s.linkGen p)

/-- The value last received from a port for a group. -/
def State.exOf (s : State) (p g : Nat) : Nat := tabGet (fun _ => 0) (s.port p).exVal g

/-- A change of a group waits on a port (R317). -/
def State.exPush (s : State) (p g : Nat) : State :=
  let l := (s.port p).exPend
  if l.contains g || s.rd (Port.linkState p) = 0 then s else s.setPort p { s.port p with exPend := l ++ [g] }

/-- RES of a group before this HCLK, where the HCLK has changed it already. -/
def State.resBefore (s : State) (g : Nat) : Option Int :=
  match s.drum.resWas.find? (fun e => e.1 = g) with
  | some e => if e.2.1 = s.hclk then some e.2.2 else none
  | none => none

/-- RES of a group changes (R317): counted, and sent on every downstream port. Changes of one HCLK form one value and are one change
(R329). -/
def State.setRes (s : State) (g : Nat) (v : Nat) : State :=
  let old := s.rd (Grp.gDeficit g)
  if old = v then s
  else
    let s1 := forEach downPorts (fun p s => s.exPush p g) (s.wr (Grp.gDeficit g) v)
    match s.resBefore g with
    | some w => if w = v then s1.wr (Grp.gChanges g) (s1.rd (Grp.gChanges g) - 1) else if w = old then s1.bump (Grp.gChanges g) else s1
    | none => { s1 with drum := { s1.drum with resWas := tabPut s1.drum.resWas g (s.hclk, old) } }.bump (Grp.gChanges g)

/-- UP of a group (R317): the published deficit of a member, and the children in UP. -/
def State.upOf (s : State) (g : Nat) : Nat :=
  downPorts.foldl (fun a p => if s.rd (Port.linkState p) = 2 then max a (s.exOf p g) else a)
    (if s.rd Pace.group = g then s.rdN Pace.ownDeficit else 0)

/-- The node combines a group again (R317): a change of UP goes on DL0, or is the result at the root. -/
def State.recombine (s : State) (g : Nat) : State :=
  let v := s.upOf g
  let s1 := if s.rd (Grp.gUp g) = v then s else when (!s.isRoot) (fun s => s.exPush 0 g) (s.wr (Grp.gUp g) v)
  if s.isRoot then s1.setRes g v else s1

/-- A group's value from a port changes. -/
def State.exChanged (s : State) (p g : Nat) : State := if p = 0 then s.setRes g (s.exOf 0 g) else s.recombine g

/-- CRC-4 of an EXPRESS field over [15:4] (R301). -/
def exCrc (v : Nat) : Nat := (bitsMsb v 4 12).foldl (crcBit 4 3) 0

/-- EXPRESS_RECEIVE (R301, R314, R317): checked and combined before the frame's CRC. -/
def State.expressReceive (s : State) (p ex : Nat) : State :=
  if s.rd (Port.linkState p) = 0 || !s.usesPort p || (p = 0 && s.isRoot) then s
  else
    let q := s.port p
    let s0 := s.setPort p { q with exUndo := none }
    let g := getField ex 11 4
    if exCrc ex ≠ ex % 16 then s0.bump (Port.exChkErr p)
    else if !ex.testBit 15 || !s.carriesGroup p g then s0
    else
      let s1 := s.setPort p { q with
        exVal := tabPut q.exVal g (getField ex 4 7), exUndo := some ⟨g, (q.exVal.find? (fun e => e.1 = g)).map (fun e => e.2),
          (s.drum.resAt.find? (fun e => e.1 = g)).map (fun e => e.2), s.drum.cleared.contains g⟩ }
      let s2 : State := if p = 0 then
          { s1 with drum := { s1.drum with resAt := tabPut s1.drum.resAt g s.hclk, cleared := s1.drum.cleared.filter (fun x => x ≠ g) } }
        else s1
      s2.exChanged p g

/-- EXPRESS_RECEIVE. -/
def execExpressReceive (p : Fin 4) (ex : BitVec 16) (s : State) : Host.Outcome State Fault Refusal := done (s.expressReceive p ex.toNat)

/-- The frame's CRC fails: its EXPRESS value is withdrawn, with what it did to the group's staleness (R301, R317, R322). -/
def State.exRevert (s : State) (p : Nat) : State :=
  let q := s.port p
  match q.exUndo with
  | none => s
  | some u =>
    let t := match u.val with | some v => tabPut q.exVal u.group v | none => tabDel q.exVal u.group
    let d := s.drum
    let back : DrumInt := { d with
      resAt := match u.heard with | some t => tabPut d.resAt u.group t | none => tabDel d.resAt u.group
      cleared := if u.cleared && !d.cleared.contains u.group then d.cleared ++ [u.group] else d.cleared }
    let s1 : State := if p = 0 then { s with drum := back } else s
    ((s1.setPort p { q with exVal := t, exUndo := none }).exChanged p u.group).bump (Port.exReverts p)

/-! ### Frames received (R300 to R304) -/

/-- The fields of a frame. -/
def frameType (f : Nat) : Nat := getField f 60 4
def frameSeq (f : Nat) : Nat := getField f 56 4
def frameBody (f : Nat) : Nat := getField f 8 48

/-- CRC-8 of a frame over [79:8] (R300). -/
def frameCrc (f : Nat) : Nat := crc8 7 0 f 8 72

/-- Whether the SEQ of a frame leaves a gap after the last one (R304). -/
def PortInt.gap (q : PortInt) (f : Nat) : Bool := match q.rxSeq with | some n => decide ((n + 1) % 16 ≠ frameSeq f) | none => false

/-- A valid frame (R304, R305): counted, a gap of SEQ counted, the silence timer restarted. -/
def State.frameValid (s : State) (p f : Nat) : State :=
  let q := s.port p
  let idles := if frameType f = 0 then min 2 (q.idles + 1) else if q.idles = 2 then 2 else 0
  let s1 := (s.setPort p { q with rxSeq := some (frameSeq f), heardAt := s.hclk, idles := idles, exUndo := none }).bump (Port.framesRx p)
  when (q.gap f) (fun s => s.bump (Port.lostFrames p)) s1

/-- A frame is discarded (R304); one whose CRC holds keeps its place in SEQ, and a gap before it counts. -/
def State.discardFrame (s : State) (p f : Nat) (good : Bool) : State :=
  let q := s.port p
  (when (good && q.gap f) (fun s => s.bump (Port.lostFrames p)) s).setPort p
    { q with exUndo := none, idles := if q.idles = 2 then 2 else 0, rxSeq := if good then some (frameSeq f) else q.rxSeq }

/-- A frame arrives (R302, R304): cut short, bad CRC, or a type that is reserved or not carried is discarded and counted; a frame
that is not of the row's kind is no matter of the row. -/
def State.rxFrame (s : State) (p f : Nat) (cut : Bool) (mine : Bool) (act : State → State) : State :=
  let t := frameType f
  if s.rd (Port.linkState p) = 0 || !s.usesPort p then s
  else if cut then (s.discardFrame p f false).bump (Port.cutFrames p)
  else if frameCrc f ≠ f % 256 then ((s.exRevert p).discardFrame p f false).bump (Port.crcErr p)
  else if 10 ≤ t || decide (s.linkGen p < typeGen t) then (s.discardFrame p f true).bump (Port.crcErr p)
  else if !mine then s
  else act (s.frameValid p f)

/-! ### Alignment and BREF (R185 to R187, R312) -/

/-- The average of the phase errors in ps (R312), also where it does not fit what BEAT_ERR shows. -/
def State.errNow (s : State) : Int := let l := s.drum.errs; if l = [] then 0 else divNear 133 (l.foldl (fun a b => a + b) 0) (16 * l.length)

/-- ALIGN_STATE by its conditions (R312). -/
def State.alignOf (s : State) : Int :=
  let e := s.errNow
  if s.isRoot then 5 else if !s.drum.loaded then 0
  else if s.rd Clk.brefState ≠ 2 then 4
  else if e.natAbs ≤ 1000 * s.rdN Node.alignTol then 1
  else if e.natAbs ≤ 1000000000 then 2 else 3

/-- The slew's part of every fmax (R312): while BREF is locked after the load and the error is not 0. -/
def State.setSlew (s : State) : State :=
  let v : Int := if s.drum.loaded && !s.isRoot && s.rd Clk.brefState = 2 && s.errNow ≠ 0 then s.rd Node.slewPpm else 0
  if s.clk.slewPpm = v then s else ({ s with clk := { s.clk with slewPpm := v } }).refreshAll

/-- ALIGN_STATE follows its conditions: each change recorded, a departure from ALIGNED counted, FOREIGN is cause 9. -/
def State.align (s : State) : State :=
  let old := s.rd Node.alignState
  let new := s.alignOf
  let s1 := s.setSlew
  if old = new then s1
  else
    let s2 := (s1.wr Node.alignState new).record (srcDl 0) 0x0506 (old * 256 + new) (s.rd Node.beatErr) (s.rd Node.depth)
    when (decide (new = 3)) (fun s => s.cause 9) (when (decide (old = 1)) (fun s => s.bump Node.alignLosses) s2)

/-- BREF_LOCK (R185, R187): XCLK_PPM is measured against it; the first lock loads nothing. -/
def State.brefLock (s : State) (ppm : Int) : State :=
  if s.isRoot || !s.clk.xclkLive || !(s.port 0).up || s.rd Clk.brefState = 2 then s
  else
    let s1 : State := { s with drum := { s.drum with sel1 := none }, clk := { s.clk with brefLive := true } }
    let s2 := (((s1.wr Clk.refSrc 2).wr Clk.brefState 2).bump Clk.brefLocks).wr Clk.xclkPpm ppm
    ((s2.record (srcDl 0) 0x0307 (s2.rd Clk.brefLocks) ppm 0).cause 9).align

/-- BREF_LOCK. -/
def execBrefLock (xclkPpm : Word32) (s : State) : Host.Outcome State Fault Refusal := done (s.brefLock xclkPpm.toInt)

/-- BREF is lost (R186, R188): holdover on XCLK, or STO where XCLK is lost. -/
def State.brefLost (s : State) (why : Nat) : State :=
  if s.rd Clk.brefState ≠ 2 then s
  else
    let s1 : State := { s with clk := { s.clk with brefLive := false } }
    let s2 := if s.clk.xclkLive then ((s1.wr Clk.refSrc 3).wr Clk.brefState 3).wr Clk.holdoverSince s.beat
      else ((s1.wr Clk.refSrc 0).wr Clk.brefState (if (s.port 0).up then 1 else 0)).setSto true
    (((s2.bump Clk.brefLosses).record (srcDl 0) 0x0308 why 0 0).cause 9).align

/-- BREF_LOSS: 0 DL0_UP fell, 1 no edge, 2 frequency. -/
def execBrefLoss (cause : Fin 3) (s : State) : Host.Outcome State Fault Refusal := done (s.brefLost (cause.val + 1))

/-! ### The sums of the cap collective (R324, R325) -/

/-- Units of 8 W, rounded up, saturating (R302). -/
def unit8 (mw : Int) : Nat := min 0xFFFFF (divCeil mw 8000).toNat

/-- The round number of a round. -/
def CollInt.round (c : CollInt) : Nat := (c.start / c.period) % 256

/-- The instant of a round's grants (R325), S + COLL_PERIOD/2, as a count of HCLK. -/
def CollInt.grantAt (c : CollInt) : Nat := 800 * c.start + 400 * c.period

/-- Replace the collective. -/
def State.setColl (s : State) (c : CollInt) : State := { s with drum := { s.drum with coll := c } }

/-- The children whose values join a round: in UP, at generation 2 or above. -/
def State.collKids (s : State) : List Nat := downPorts.filter (fun p => decide (2 ≤ s.linkGen p))

/-- A child's round values, in units of 8 W. -/
def State.kidD (s : State) (p : Nat) : Nat := match (s.port p).coll with | some v => v.1 | none => 0
def State.kidF (s : State) (p : Nat) : Nat := match (s.port p).coll with | some v => v.2 | none => 0

/-- The children that have not reported for the open round. -/
def State.staleKids (s : State) : List Nat := s.collKids.filter (fun p => (s.port p).collRound ≠ some s.drum.coll.round)

/-- The sums of this node's subtree: in mW, and in units. -/
def State.sumMw (s : State) (own : Int) (kid : Nat → Nat) : Int :=
  s.collKids.foldl (fun a p => a + 8000 * (kid p : Int)) (if s.rd Coll.collEn = 1 then own else 0)
def State.sumUnits (s : State) (own : Int) (kid : Nat → Nat) : Nat :=
  min 0xFFFFF (s.collKids.foldl (fun a p => a + kid p) (if s.rd Coll.collEn = 1 then unit8 own else 0))

/-- SUM_D_MW and SUM_F_MW. -/
def State.showSums (s : State) : State :=
  let c := s.drum.coll
  (s.wr Coll.sumDMw (s.sumMw c.dOwn s.kidD)).wr Coll.sumFMw (s.sumMw c.fOwn s.kidF)

/-- COLL_DOWN goes to the children (R325). -/
def State.collDownPush (s : State) (body : Nat) : State :=
  forEach s.collKids (fun p s => s.setPort p { s.port p with collDown := some body }) s

/-- MODE and FACTOR of a round at the root (R325). -/
def collFactor (cap d f : Int) : Nat × Nat :=
  let fx := fun (num den : Int) => (num * 32768 / den).toNat
  if cap = 2 ^ 64 - 1 then (3, 0)
  else if d ≤ cap then (0, if d = 0 then 0xFFFF else min 0xFFFF (fx cap d))
  else if f ≤ cap then (1, fx (cap - f) (d - f))
  else (2, fx cap f)

/-- The root forms the sums (R325): saturated, no COLL_DOWN and COLL_SAT. -/
def State.formSums (s : State) : State :=
  let c := s.drum.coll
  let s1 := (s.showSums.bump Coll.staleChildren s.staleKids.length)
  let satD := s.sumUnits c.dOwn s.kidD = 0xFFFFF
  let satF := s.sumUnits c.fOwn s.kidF = 0xFFFFF
  if satD || satF then
    (s1.setColl { c with summed := true }).record (srcDl 0) 0x050A c.round (if satD then 1 else 0) (if satF then 1 else 0)
  else
    let m := collFactor (s.rd Coll.podCapMw) (s.sumMw c.dOwn s.kidD) (s.sumMw c.fOwn s.kidF)
    let body := c.round * 2 ^ 40 + m.1 * 2 ^ 38 + m.2 % 2 ^ 16 * 2 ^ 22 + c.period % 2 ^ 22
    (((s1.setColl { c with summed := true, got := if s.fpRuns 2 then some m else none }).wr Coll.lastMode m.1).wr Coll.lastFactor m.2).collDownPush body

/-- A member's COLL_UP (R324). -/
def State.sendCollUp (s : State) : State :=
  let c := s.drum.coll
  let s1 := (s.showSums.bump Coll.staleChildren s.staleKids.length).setColl { c with sent := true }
  let body := c.round * 2 ^ 40 + s.sumUnits c.dOwn s.kidD * 2 ^ 20 + s.sumUnits c.fOwn s.kidF
  if 2 ≤ s.linkGen 0 then s1.setPort 0 { s1.port 0 with collUp := some body } else s1

/-- Once every child has reported, the node answers at once (R324, R325). -/
def State.collReady (s : State) : State :=
  let c := s.drum.coll
  if !c.opened || s.staleKids ≠ [] then s
  else if s.isRoot then (if c.summed then s else s.formSums)
  else if c.sent then s else s.sendCollUp

/-! ### Links (R305 to R307) -/

/-- The generation two sides give a link (R307). -/
def State.negotiate (s : State) (p : Nat) : Int :=
  let g := min (s.rd Node.genOffer) (getField (s.rdN (Port.partnerGen p)) 4 4)
  if max (s.rd Node.genMin) (getField (s.rdN (Port.partnerGen p)) 0 4) ≤ g then g else 0

/-- A port's partner values are cleared. -/
def State.clearPartner (s : State) (p : Nat) : State :=
  (((s.wr (Port.linkGen p) 0).wr (Port.partnerSerial p) 0).wr (Port.partnerDepth p) 255).wr (Port.partnerGen p) 0

/-- LINK_STATE changes. -/
def State.setLink (s : State) (p : Nat) (v : Int) : State := (s.wr (Port.linkState p) v).wr (Port.lastChange p) s.beat

/-- DL_UP_RISE (R305). -/
def State.dlUpRise (s : State) (p : Nat) : State :=
  let s1 := s.setPort p { s.port p with up := true }
  if s.rd (Port.linkState p) ≠ 0 || !s.usesPort p then s1
  else
    let s2 := (s1.setPort p { up := true, heardAt := s.hclk, slotAt := 5 * s.hclk - 256, dreqId := (s.port p).dreqId }).clearPartner p
    when (p = 0 && !s.isRoot && s.rd Clk.brefState = 0) (fun s => s.wr Clk.brefState 1) (s2.setLink p 1)

/-- DL_UP_RISE. -/
def execDlUpRise (p : Fin 4) (s : State) : Host.Outcome State Fault Refusal := done (s.dlUpRise p)

/-- A port goes DOWN (R305, R306): partner values and contributions removed, so that a round which waited for this child alone goes on (R324,
R325); DL0 of a member loses BREF. -/
def State.linkDown (s : State) (p : Nat) : State :=
  let q := s.port p
  let s1 := s.record (srcDl p) 0x0502 p (s.rd (Port.partnerSerial p)) (s.rd (Port.linkGen p))
  let s2 := (((s1.bump (Port.linkDowns p)).setLink p 0).clearPartner p).cause 9
  let keep : PortInt := { up := q.up, dreqId := q.dreqId, exVal := if p = 0 then q.exVal else [], tx := q.dropFwd.tx }
  let s3 := (s2.setPort p keep).wr Upd.fwdPorts (putBit (s.rdN Upd.fwdPorts) p false)
  if p = 0 then
    (if s.isRoot then s3
     else
      let s4 := (s3.wr Node.depth 255).brefLost 1
      when (s4.rd Clk.brefState = 1) (fun s => s.wr Clk.brefState 0) s4)
  else (forEach (q.exVal.map (fun e => e.1)) (fun g s => s.recombine g) s3).collReady

/-- DL_UP_FALL (R305). -/
def execDlUpFall (p : Fin 4) (s : State) : Host.Outcome State Fault Refusal :=
  let s1 := s.setPort p { s.port p with up := false }
  done (if s.rd (Port.linkState p) = 0 then s1 else s1.linkDown p)

/-- LINK_SILENCE_TIMEOUT (R305): no valid frame for 64 slots, 4,096 ns. -/
def execLinkSilenceTimeout (p : Fin 4) (s : State) : Host.Outcome State Fault Refusal :=
  done (if s.rd (Port.linkState p) ≠ 0 && s.elapsed (s.port p).heardAt 3277 then s.linkDown p else s)

/-- TRAINING ends with two consecutive valid IDLE frames and a delay exchange (R305). -/
def State.checkTrained (s : State) (p : Nat) : State :=
  let q := s.port p
  if s.rd (Port.linkState p) = 1 && q.idles = 2 && q.exchanged then
    let s1 := ((s.wr (Port.linkGen p) (s.negotiate p)).setLink p 2).bump (Port.linkUps p)
    (s1.record (srcDl p) 0x0501 p (s1.rd (Port.partnerSerial p)) (s1.rd (Port.linkGen p))).cause 9
  else s

/-- Forwarding begins anew with a partner other than the one a pass was done with (R382). -/
def State.newPartner (s : State) (p serial : Nat) : State :=
  let q := s.port p
  if q.tx.finished.isSome && q.tx.peer ≠ serial then s.setPort p { q with tx := {} } else s

/-- The body of an IDLE frame (R299, R302, R305, R307). -/
def State.idleBody (s : State) (p body : Nat) : State :=
  let serial := getField body 0 24
  let gens := getField body 40 8
  let depth := getField body 32 8
  let oldSerial := s.rd (Port.partnerSerial p)
  let oldGens := s.rdN (Port.partnerGen p)
  let s1 := ((s.wr (Port.partnerSerial p) serial).wr (Port.partnerGen p) gens).wr (Port.partnerDepth p) depth
  let s2 := (if p = 0 && !s.isRoot then s1.wr Node.depth (min 255 (depth + 1) : Nat) else s1).newPartner p serial
  if s.rd (Port.linkState p) ≠ 2 then s2.checkTrained p
  else
    let old := s.rd (Port.linkGen p)
    let new := s2.negotiate p
    let changed := decide (oldSerial ≠ serial)
    let s3 := (s2.wr (Port.linkGen p) new)
    let s4 := when changed (fun s =>
      (s.setPort p { s.port p with tx := {} }).record (srcDl p) 0x0503 p serial oldSerial) s3
    when (decide (getField oldGens 4 4 ≠ getField gens 4 4) || decide (old ≠ new)) (fun s => (s.record (srcDl p) 0x0504 p new old).collReady) s4

/-- IDLE_FRAME (R305). -/
def execIdleFrame (p : Fin 4) (f : BitVec 80) (cut : Bool) (_age : BitVec 12) (s : State) : Host.Outcome State Fault Refusal :=
  done (s.rxFrame p f.toNat cut (frameType f.toNat = 0) (fun s => s.idleBody p (frameBody f.toNat)))

/-! ### Delay (R309) -/

/-- Picoseconds of 156.25 ps units summed over n exchanges, averaged. -/
def avgPs (site : Nat) (sum : Int) (n : Nat) : Int := divOpen site (625 * sum) (4 * n)

/-- A delay exchange is complete (R309): RTT and T_DOWN over the last DLY_AVG ones. -/
def State.exchange (s : State) (p : Nat) (rtt : Int) : State :=
  let q := s.port p
  let n := s.rdN (Port.dlyAvg 0)
  let l := (q.rtts ++ [rtt]).drop (q.rtts.length + 1 - n)
  let avg := avgPs 130 (l.foldl (fun a b => a + b) 0) l.length
  let asym := if p = 0 then s.rd (Port.dlAsym 0) else 0
  ((s.setPort p { q with rtts := l, exchanged := true }).wr (Port.rtt p) avg).wr (Port.tDown p) (divOpen 131 (avg + asym) 2) |>.checkTrained p

/-- DREQ_FRAME (R303, R309): the answer takes the first slot. -/
def execDreqFrame (p : Fin 4) (f : BitVec 80) (cut : Bool) (age : BitVec 12) (s : State) : Host.Outcome State Fault Refusal :=
  done (s.rxFrame p f.toNat cut (frameType f.toNat = 2) (fun s =>
    s.setPort p { s.port p with drsp := some (getField (frameBody f.toNat) 40 8, s.edgeAt age.toNat) }))

/-- DRSP_FRAME (R309): an ID that was retired, or is 4 beats old, is no exchange. -/
def execDrspFrame (p : Fin 4) (f : BitVec 80) (cut : Bool) (age : BitVec 12) (s : State) : Host.Outcome State Fault Refusal :=
  let b := frameBody f.toNat
  let id := getField b 40 8
  done (s.rxFrame p f.toNat cut (frameType f.toNat = 3) (fun s =>
    match (s.port p).dreqs.find? (fun e => e.1 = id && decide (8 * s.hclk < e.2 + 25600)) with
    | some e =>
      let s1 := s.setPort p { s.port p with dreqs := (s.port p).dreqs.filter (fun x => x.1 ≠ id) }
      s1.exchange p (s.edgeAt age.toNat - (e.2 : Int) - (getField b 0 40 : Int))
    | none => s))

/-- DREQ_SEND (R309, R314): every 16 beats, once. -/
def execDreqSend (p : Fin 4) (s : State) : Host.Outcome State Fault Refusal :=
  done (if s.beatHclk % 12800 = 0 && s.rd (Port.linkState p) ≠ 0 && s.usesPort p && (s.port p).dreqAt ≠ some s.hclk then
    s.setPort p { s.port p with dreqDue := true, dreqAt := some s.hclk } else s)

/-- DRSP_TIMEOUT (R309): 4 beats; the frame is counted lost and its ID retired. -/
def execDrspTimeout (p : Fin 4) (id : Byte) (s : State) : Host.Outcome State Fault Refusal :=
  done (match (s.port p).dreqs.find? (fun e => e.1 = id.toNat) with
    | some e =>
      if e.2 + 25600 ≤ 8 * s.hclk then
        (s.setPort p { s.port p with dreqs := (s.port p).dreqs.filter (fun x => x.1 ≠ id.toNat) }).bump (Port.lostFrames p)
      else s
    | none => s)

/-! ### Beat (R311 to R314) -/

/-- BEAT_SEND (R311): every 16 beats, once, on each downstream port. -/
def execBeatSend (s : State) : Host.Outcome State Fault Refusal :=
  done (if s.beatHclk % 12800 = 0 && s.drum.beatAt ≠ some s.hclk then
    forEach downPorts (fun p s => if s.rd (Port.linkState p) = 0 then s else s.setPort p { s.port p with beatDue := true })
      { s with drum := { s.drum with beatAt := some s.hclk } }
    else s)

/-- The stamp of a SEL 0 frame in ticks, its beat taken nearest to a beat time. -/
def stampTicks (body near : Nat) : Int :=
  let low : Int := getField body 10 37
  let hi : Int := (near / 2 ^ 37 : Nat)
  let cand : List Int := [hi * 2 ^ 37 + low, (hi + 1) * 2 ^ 37 + low, (hi - 1) * 2 ^ 37 + low]
  let best : Int := cand.foldl (fun (a b : Int) => if (b - (near : Int)).natAbs < (a - (near : Int)).natAbs then b else a) (hi * 2 ^ 37 + low)
  best * 1024 + getField body 0 10

/-- err of R312 in 1/16 ps: local beat time at the RX_SOF edge less the stamp and T_DOWN. -/
def State.phaseErr (s : State) (body age : Nat) : Int :=
  2500 * (8 * (s.beatHclk : Int) - age) - 15625 * stampTicks body s.beat - 16 * s.rd (Port.tDown 0)

/-- The load of beat time (R311): the SEL 0 stamp with the high bits of the SEL 1 frame before it, carried where the low bits
wrapped between them. -/
def State.loadBeat (s : State) (body age hi at_ : Nat) : State :=
  let low := getField body 10 37
  let carry := if low < (s.hclk - at_) / 800 then 1 else 0
  let ticks : Int := ((hi + carry) * 2 ^ 37 + low : Nat) * 1024 + getField body 0 10
  let t := divNear 132 (15625 * ticks + 16 * s.rd (Port.tDown 0) + 2500 * age) 20000
  let s1 : State := { s with beatHclk := t.toNat % (800 * 2 ^ 64), drum := { s.drum with loaded := true, errs := [] } }
  let s2 := ((s1.wr Node.nodeRole 1).wr Node.loadedAt s1.beat).wr Node.beatErr 0
  (s2.record (srcDl 0) 0x0505 (s1.beat : Int) (s.rd (Port.tDown 0)) (s.port 0).rtts.length).align

/-- A phase error joins the average over the last 16 BEAT frames, which BEAT_ERR shows (R312). -/
def State.takeErr (s : State) (e : Int) : State :=
  let s1 : State := { s with drum := { s.drum with errs := (s.drum.errs ++ [e]).drop (s.drum.errs.length + 1 - 16) } }
  s1.wr Node.beatErr s1.errNow

/-- Whether BREF is lost in this HCLK (R329): the loss wins over a BEAT frame. -/
def State.brefLossComes (s : State) : Bool :=
  s.comes (fun i => match i with | .brefLoss _ => true | .dlUpFall p => p.val = 0 | _ => false)

/-- The body of a BEAT frame on DL0 (R311, R312, R314, R329). -/
def State.beatBody (s : State) (body age : Nat) : State :=
  if s.isRoot then
    (if body.testBit 47 || !s.start.dirRead || !s.drum.ring then s else s.wr Node.ringErr (divNear 217 (s.phaseErr body age) 16))
  else if s.rd Clk.brefState ≠ 2 || s.brefLossComes then s
  else if body.testBit 47 then
    (if s.drum.loaded then s else { s with drum := { s.drum with sel1 := some (getField body 20 27, s.hclk) } })
  else if s.drum.loaded then (s.takeErr (s.phaseErr body age)).align
  else match s.drum.sel1 with
    | some (hi, at_) => if 32 ≤ (s.port 0).rtts.length then s.loadBeat body age hi at_ else s
    | none => s

/-- A frame taken as BEAT. -/
def State.beatFrame (s : State) (p f : Nat) (cut : Bool) (age : Nat) : State :=
  s.rxFrame p f cut (frameType f = 1) (fun s => if p = 0 then s.beatBody (frameBody f) age else s)

/-- BEAT_FRAME (R311, R312). -/
def execBeatFrame (p : Fin 4) (f : BitVec 80) (cut : Bool) (age : BitVec 12) (s : State) : Host.Outcome State Fault Refusal :=
  done (s.beatFrame p f.toNat cut age.toNat)

/-- Whether ALIGN_STATE is FOREIGN, or becomes so by a BEAT frame of this HCLK (R329). -/
def State.foreign (s : State) : Bool :=
  s.rd Node.alignState = 3 || (s.pending.foldl (fun s i => match i with
    | .beatFrame p f cut age => s.beatFrame p f.toNat cut age.toNat
    | _ => s) s).rd Node.alignState = 3

end Sys2Proof.Machine
end

