-- ==== Sys2Proof/Machine/Pace.lean ====
section
/-! DEFINITION. Drumline (spec/10): frames sent, generations of groups, pace and rung 7, the cap collective, bulk transfer. -/

namespace Sys2Proof.Machine

/-! ### Generations of groups (R321) -/

/-- The children that report a group, each with its port. -/
def State.genKids (s : State) (g : Nat) : List (Nat × GenUp) :=
  downPorts.filterMap (fun p =>
    if s.rd (Port.linkState p) = 2 then ((s.port p).gens.find? (fun e => e.1 = g)).map (fun e => (p, e.2)) else none)

/-- Whether the node has heard of a group (R321): a GEN_DOWN or an EXPRESS of it, or a child that reports it. -/
def State.heardOf (s : State) (g : Nat) : Bool :=
  s.genKids g ≠ [] || s.drum.genNodes.any (fun e => e.1 = g) || s.drum.resAt.any (fun e => e.1 = g)
    || downPorts.any (fun p => (s.port p).exVal.any (fun e => e.1 = g))

/-- The combined GEN, MEMBERS and NODES of a group at this node. DESIGN CHOICE, log 126: the own value of a relay that no child reports the
group to is its GEN_OFFER; the rule names none. -/
def State.genOf (s : State) (g : Nat) : GenUp :=
  let kids := s.genKids g
  let mine := s.rd Pace.group = g
  let gens := (if mine || kids = [] then [s.rdN Node.genOffer] else []) ++ kids.map (fun e => min e.2.gen (s.linkGen e.1))
  ⟨match gens with | [] => 0 | x :: r => r.foldl min x,
    (if mine then 1 else 0) + kids.foldl (fun a e => a + e.2.members) 0, 1 + kids.foldl (fun a e => a + e.2.nodes) 0⟩

/-- The groups this node reports: its own and those its children report; a relay with no group, every one it has heard. -/
def State.genGroups (s : State) : List Nat :=
  (List.range 16).filter (fun g => s.rd Pace.group = g || s.genKids g ≠ [] || (decide (15 < s.rd Pace.group) && !s.isRoot && s.heardOf g))

/-- A GEN_DOWN for a group waits on the downstream ports. -/
def State.genDownPush (s : State) (g : Nat) : State :=
  forEach downPorts (fun p s =>
    if s.carriesGroup p g && !(s.port p).genDowns.contains g then s.setPort p { s.port p with genDowns := (s.port p).genDowns ++ [g] } else s) s

/-- A group's generation, policy and members are set (R321); a change of GEN_GROUP is recorded. -/
def State.setGroup (s : State) (g gen policy members nodes round : Nat) : State :=
  let s1 := ((((s.wr (Grp.gGen g) gen).wr (Grp.gPolicy g) policy).wr (Grp.gMembers g) members).wr (Grp.gRound g) round)
  let s2 : State := { s1 with drum := { s1.drum with genNodes := tabPut s1.drum.genNodes g nodes } }
  if s.rd (Grp.gGen g) = gen then s2 else s2.record (srcDl 0) 0x0509 g gen members

/-- The round number of the GEN collective. -/
def State.genRound (s : State) : Nat := (s.beat / 1000000) % 256

/-- GEN_UP_SEND (R321): every 1,000,000 beats. -/
def State.genUpSend (s : State) : State :=
  if s.beatHclk % 800000000 ≠ 0 then s
  else if s.isRoot then
    let l := (List.range 16).filter (fun g => s.genGroups.contains g || s.rd (Grp.gMembers g) ≠ 0)
    forEach l (fun g s =>
      let v := s.genOf g
      (s.setGroup g (if s.genGroups.contains g then v.gen else s.rdN (Grp.gGen g)) (s.rdN (Grp.gPolicySet g)) v.members v.nodes
        s.genRound).genDownPush g) s
  else
    let l := s.genGroups.filter (fun g => s.carriesGroup 0 g && !(s.port 0).genUps.contains g)
    s.setPort 0 { s.port 0 with genUps := (s.port 0).genUps ++ l }

/-- GEN_UP_SEND. -/
def execGenUpSend (s : State) : Host.Outcome State Fault Refusal := done s.genUpSend

/-- GEN_UP_FRAME (R321): from a child. -/
def execGenUpFrame (p : Fin 4) (f : BitVec 80) (cut : Bool) (_age : BitVec 12) (s : State) : Host.Outcome State Fault Refusal :=
  let b := frameBody f.toNat
  done (s.rxFrame p f.toNat cut (frameType f.toNat = 4) (fun s =>
    if p = 0 then s
    else s.setPort p { s.port p with
      gens := tabPut (s.port p).gens (getField b 44 4) ⟨getField b 40 4, getField b 24 14, getField b 8 16⟩ }))

/-- GEN_DOWN_FRAME (R321): from the upstream node, and on to the children. -/
def execGenDownFrame (p : Fin 4) (f : BitVec 80) (cut : Bool) (_age : BitVec 12) (s : State) : Host.Outcome State Fault Refusal :=
  let b := frameBody f.toNat
  let g := getField b 44 4
  done (s.rxFrame p f.toNat cut (frameType f.toNat = 5) (fun s =>
    if p ≠ 0 || s.isRoot then s
    else (s.setGroup g (getField b 40 4) (getField b 38 2 % 2) (getField b 24 14) (getField b 8 16) (getField b 0 8)).genDownPush g))

/-- A write of G_POLICY_SET (R321, R329, R333): at the root; GEN_DOWN at once. -/
def State.policyWrite (s : State) (g v x : Nat) : State :=
  if 1 < v || !s.isRoot then s.reject (Grp.gPolicySet g) x
  else (((s.wr (Grp.gPolicySet g) v).markRws (Grp.gPolicySet g)).wr (Grp.gPolicy g) v).genDownPush g

/-- G_POLICY_SET_WRITE. -/
def execGPolicySetWrite (g : Fin 16) (v : Byte) (s : State) : Host.Outcome State Fault Refusal := done (s.hostRow (fun s => s.policyWrite g v.toNat 0))

/-- A write of GEN_OFFER (R307, R330, R392): clamped; the value written is kept. -/
def State.genOfferWrite (s : State) (v : Nat) : State :=
  let v := clampI 1 3 v
  let img := s.rd Fw.dlGenImg
  (((s.wr Fw.genOfferReq v).wr Node.genOffer (if img = 0 then v else min v img))).markRws Node.genOffer

/-- GEN_OFFER_WRITE. -/
def execGenOfferWrite (v : Byte) (s : State) : Host.Outcome State Fault Refusal := done (s.hostRow (fun s => s.genOfferWrite v.toNat))

/-! ### Frames sent (R303, R317) -/

/-- The body of an IDLE frame (R302). -/
def State.idleWord (s : State) : Nat :=
  let a := s.rd Node.alignState
  s.rdN Node.genOffer * 2 ^ 44 + s.rdN Node.genMin * 2 ^ 40 + (s.rdN Node.depth % 256) * 2 ^ 32
    + ((if a = 1 then 1 else 0) + (if a = 4 then 2 else 0) + (if s.isRoot then 4 else 0)) * 2 ^ 24 + s.rdN Ident.serial % 2 ^ 24

/-- The body of a BEAT frame whose TX_SOF edge is at a fifth of an HCLK (R302, R311): one in 16 has SEL 1. -/
def State.beatWord (s : State) (count : Nat) (edge : Nat) : Nat :=
  let t := (divNear 134 ((5 * (s.beatHclk : Int) + edge - 5 * s.hclk) * 1024) 4000).toNat
  if count % 16 = 0 then 2 ^ 47 + getField (t / 1024) 37 27 * 2 ^ 20 else getField (t / 1024) 0 37 * 2 ^ 10 + t % 1024

/-- The body of a GEN_UP or GEN_DOWN frame (R302). -/
def genWord (g gen policy members nodes round : Nat) : Nat :=
  g * 2 ^ 44 + gen % 16 * 2 ^ 40 + policy % 4 * 2 ^ 38 + members % 2 ^ 14 * 2 ^ 24 + nodes % 2 ^ 16 * 2 ^ 8 + round % 256

/-- TYPE and BODY of a frame as one number. -/
def typed (t body : Nat) : Nat := t * 2 ^ 48 + body

/-- A frame of the port's queues leaves: its TYPE and BODY, and the port without it. -/
structure Sent where
  word : Nat
  port : PortInt
  deriving DecidableEq, Repr

/-- The TX_SOF edge of the slot under way (R303), in fifths of an HCLK: slots follow each other every 256 of them. -/
def State.slotEdge (s : State) (p : Nat) : Nat := let a := (s.port p).slotAt; a + (5 * s.hclk - a) / 256 * 256

/-- A port without the collective's frames that its link does not carry, or that GEN_OFFER below 2 ends (R302, R329). -/
def State.carried (s : State) (p : Nat) : PortInt :=
  let q := s.port p
  let g2 := decide (2 ≤ s.linkGen p)
  { q with
    collUp := if g2 then q.collUp else none
    collDown := if g2 && decide (2 ≤ s.rd Node.genOffer) then q.collDown else none }

/-- The first ready frame of a port in the order of R303. Edges are stamped to 156.25 ps (R309). -/
def State.pickFrame (s : State) (p : Nat) : Sent :=
  let q := s.carried p
  let edge := s.slotEdge p
  let idle : Sent := ⟨typed 0 s.idleWord, { q with sinceIdle := 0 }⟩
  let q := { q with sinceIdle := q.sinceIdle + 1 }
  let g1 := decide (1 ≤ s.linkGen p)
  if 1024 ≤ q.sinceIdle then idle
  else match q.drsp with
  | some (id, rx) => ⟨typed 3 (id * 2 ^ 40 + (divOpen 166 (8 * (edge : Int) - 5 * rx) 5).toNat % 2 ^ 40), { q with drsp := none }⟩
  | none =>
    if q.beatDue then ⟨typed 1 (s.beatWord q.beatCount edge), { q with beatDue := false, beatCount := q.beatCount + 1 }⟩
    else if q.dreqDue then
      ⟨typed 2 (q.dreqId % 256 * 2 ^ 40), { q with
        dreqDue := false
        dreqId := (q.dreqId + 1) % 256
        dreqs := q.dreqs.filter (fun e => e.1 ≠ q.dreqId % 256) ++ [(q.dreqId % 256, (divOpen 167 (8 * edge : Nat) 5).toNat)] }⟩
    else match q.genUps.filter (fun g => s.carriesGroup p g), q.genDowns.filter (fun g => s.carriesGroup p g), q.collUp, q.collDown with
    | g :: _, _, _, _ =>
      let v := s.genOf g
      ⟨typed 4 (genWord g v.gen 0 v.members v.nodes s.genRound), { q with genUps := q.genUps.filter (fun x => x ≠ g) }⟩
    | [], g :: _, _, _ =>
      ⟨typed 5 (genWord g (s.rdN (Grp.gGen g)) (s.rdN (Grp.gPolicy g)) (s.rdN (Grp.gMembers g)) (tabGet (fun _ => 0) s.drum.genNodes g)
        (s.rdN (Grp.gRound g))), { q with genDowns := q.genDowns.filter (fun x => x ≠ g) }⟩
    | [], [], some b, _ => ⟨typed 6 b, { q with collUp := none }⟩
    | [], [], none, some b => ⟨typed 7 b, { q with collDown := none }⟩
    | [], [], none, none =>
      if !g1 then idle
      else match q.bulkCtl, q.bulkData with
        | w :: r, _ => ⟨w, { q with bulkCtl := r }⟩
        | [], e :: r => ⟨e.2, { q with bulkData := r }⟩
        | [], [] => idle

/-- The next group from a place on, in a cycle of 16. -/
def nextGroup (l : List Nat) (at_ : Nat) : Option Nat :=
  ((List.range 16).map (fun i => (at_ + i) % 16)).find? (fun g => l.contains g)

/-- The group whose value a frame of a port carries (R314, R317): the oldest pending change, else the next of the refresh. -/
def State.exGroup (s : State) (p : Nat) : Option Nat :=
  if p = 0 && s.isRoot then none
  else match (s.port p).exPend.find? (fun g => s.carriesGroup p g) with
    | some g => some g
    | none => nextGroup ((List.range 16).filter (fun g => s.rd (Grp.gMembers g) ≠ 0 && s.carriesGroup p g)) (s.port p).exNext

/-- EXPRESS of a value (R301). -/
def exWord (g v : Nat) : Nat :=
  let w := 0x8000 + g * 2 ^ 11 + v % 128 * 2 ^ 4
  w + exCrc w

/-- Whether the END of a chunk follows next: the data frame before it carries its last four bytes (R327). -/
def PortInt.lastData (q : PortInt) : Bool := match q.bulkData with | e :: _ => e.2 / 2 ^ 48 = 9 | [] => false

/-- FRAME_SLOT (R303): a frame every 64 ns, 256 fifths of an HCLK. -/
def State.frameSlot (s : State) (p : Nat) : State :=
  let q := s.port p
  if s.rd (Port.linkState p) = 0 || decide (5 * s.hclk < q.slotAt + 256) then s
  else
    let f := s.pickFrame p
    let ex := s.exGroup p
    let word := match ex with | some g => exWord g (if p = 0 then s.rdN (Grp.gUp g) else s.rdN (Grp.gDeficit g)) | none => 0
    let body := word * 2 ^ 64 + f.word / 2 ^ 48 * 2 ^ 60 + q.txSeq % 16 * 2 ^ 56 + f.word % 2 ^ 48 * 2 ^ 8
    let q1 := { f.port with
      txSeq := (q.txSeq + 1) % 16, lastTx := body + frameCrc body, slotAt := s.slotEdge p,
      exPend := match ex with | some g => q.exPend.filter (fun x => x ≠ g) | none => q.exPend,
      exNext := match ex with | some g => if q.exPend.contains g then q.exNext else (g + 1) % 16 | none => q.exNext }
    let s1 := (s.setPort p q1).bump (Port.framesTx p)
    let s2 := if f.word / 2 ^ 48 = 4 then s1.wr Node.subtreeNodes (getField f.word 8 16) else s1
    when (f.word / 2 ^ 48 = 8) (fun s => s.bump (Port.bulkTx p) (if f.port.lastData then 4 else 6)) s2

/-- FRAME_SLOT. -/
def execFrameSlot (p : Fin 4) (s : State) : Host.Outcome State Fault Refusal := done (s.frameSlot p)

/-! ### Pace (R315 to R320, R322, R323) -/

/-- A member domain at an evaluation: its code without rung 7 and its pace. -/
structure PaceDom where
  cd : Nat
  cx : Int
  e : Rat
  deriving DecidableEq, Repr

/-- The member domains (R315): gated ones count as absent. -/
def State.memberCds (s : State) : List Nat :=
  cdList.filter (fun c => (if c < 32 then s.bit Pace.memberCdLo c else s.bit Pace.memberCdHi (c - 32))
    && s.rd (Cd.cdState c) ≠ 3 && s.rd (Cd.cdState c) ≠ 4)

/-- The pace of a member domain (R316): its cycles over the last full beat are FREQ_MEAS. -/
def State.paceDom (s : State) (c : Nat) : PaceDom :=
  let a := aRatio c
  let cx := (s.setContrib 7 a {}).resolved a
  let ref := if s.rd Pace.paceRef ≠ 0 then s.rd Pace.paceRef else (s.contribR 8 a).demand.getD cx
  let n := s.rdN (Cd.freqMeas c)
  let lost : Rat := if n = 0 then 0 else (s.lostBeat c : Rat) / 4 / n
  let b := (s.ptsOfCd c).foldl (fun m p => min m (tabGet (fun _ => (16 : Int)) s.hub.brush p)) 16
  ⟨c, cx, (cx : Rat) / ref * (1 - lost) * b / 16⟩

/-- The own deficit in 0.5 % (R316). -/
def paceUnit (l : List PaceDom) : Int :=
  let own := l.foldl (fun (m : Rat) d => max m (1 - d.e)) 0
  min 127 (own * 200).ceil

/-- The node's own value over its member domains (R316): 0 below PACE_MIN_DEF. -/
def State.ownUnit (s : State) : Int :=
  let unit := paceUnit (s.memberCds.map (fun c => s.paceDom c))
  if unit < s.rd Pace.paceMinDef then 0 else unit

/-- Whether a value is published (R316): it moves by PACE_HYST, or from or to 0. -/
def State.publishes (s : State) (unit : Int) : Bool :=
  let old := s.rd Pace.ownDeficit
  decide (s.rd Pace.paceHyst ≤ (unit - old).natAbs) || decide (unit = 0) ≠ decide (old = 0)

/-- The published value (R316). -/
def State.publish (s : State) (unit : Int) : State :=
  let s1 := if s.publishes unit then s.wr Pace.ownDeficit unit else s
  if s1.rdN Pace.group < 16 then s1.recombine (s1.rdN Pace.group) else s1

/-- Whether a member is forced to HOLD (R322). -/
def State.forcedHold (s : State) (g : Nat) : Bool :=
  let gen := s.rdN (Grp.gGen g)
  decide (s.rdN Node.genOffer < gen) || (!s.isRoot && decide (s.linkGen 0 < gen)) || s.drum.cleared.contains g
    || (decide (8 ≤ g) && !s.isRoot && decide (s.linkGen 0 < 3))

/-- The target of a domain under HARVEST (R319): the lower ceiling, and the beats of 64 at one more. -/
def State.paceTarget (s : State) (g : Nat) (d : PaceDom) : Option (Int × Nat) :=
  if d.e ≤ 0 then none
  else
    let x : Rat := d.cx * (1 - (s.rd (Grp.gDeficit g) : Rat) / 200) / d.e
    let lo := s.rd (Cd.minCode d.cd)
    if (d.cx : Rat) ≤ x then none
    else if s.rd (Grp.gGen g) = 2 then some (max lo x.ceil, 0)
    else some (max lo x.floor, (64 * (x - x.floor)).ceil.toNat)

/-- The range of rung 7 on a domain. -/
def State.setRung7 (s : State) (c : Nat) (ceil : Option Int) : State :=
  let a := aRatio c
  (s.firmwareNow 7 a (ceil.map (fun v => (s.minCode a, v))) none).reeval a

/-- The scheduled rung 7 actions of a domain are withdrawn. -/
def State.dropRung7 (s : State) (c : Nat) : State :=
  { s with hub := { s.hub with sched := s.hub.sched.filter (fun e => !(e.txn.rung = 7 && e.txn.act = aRatio c)) } }

/-- A scheduled ceiling (R20, R319). -/
def State.schedRung7 (s : State) (c : Nat) (ceil : Int) (beat : Nat) : State :=
  let a := aRatio c
  s.schedule ⟨none, s.hub.epoch, 7, a, ceil, false⟩ beat 0 (some ⟨some (s.minCode a, ceil), none⟩)

/-- The ceilings of a 64-beat period from its start (R319). -/
def State.ditherPeriod (s : State) (c : Nat) (lo : Int) (n start : Nat) : State :=
  if n = 0 then s
  else
    let s1 := s.schedRung7 c (lo + 1) start
    if n < 64 then s1.schedRung7 c lo (start + n) else s1

/-- The ceiling rung 7 imposes on a domain now. -/
def State.ceil7 (s : State) (c : Nat) : Option Int := (s.contrib 7 (aRatio c)).range.map (fun r => r.2)

/-- Replace the dither of a domain, submitted up to a beat. -/
def State.setDither (s : State) (c : Nat) (t : Option (Nat × Nat)) (upTo : Nat) : State :=
  let f := s.drum.fw
  let f1 := match t with
    | some v => { f with dither := tabPut f.dither c v, dithTo := tabPut f.dithTo c upTo }
    | none => { f with dither := tabDel f.dither c, dithTo := tabDel f.dithTo c }
  { s with drum := { s.drum with fw := f1 } }

/-- Whether a domain already follows a target: the target stands, and so does its ceiling (R319, R373). -/
def State.follows7 (s : State) (c : Nat) (lo : Int) (n : Nat) : Bool :=
  s.drum.fw.dither.contains (c, lo.toNat, n) && (s.ceil7 c = some lo || (decide (0 < n) && s.ceil7 c = some (lo + 1)))

/-- A domain follows a target (R319): a new one from now on, in the period in course and the next; without one, no range of rung 7 stays
(R30). -/
def State.followDom (s : State) (c : Nat) (t : Option (Int × Nat)) : State :=
  let base := s.beat - s.beat % 64
  match t with
  | none =>
    if (s.drum.fw.dither.any (fun e => e.1 = c)) || (s.ceil7 c).isSome then ((s.dropRung7 c).setRung7 c none).setDither c none 0 else s
  | some (lo, n) =>
    if s.follows7 c lo n then
      (if tabGet (fun _ => 0) s.drum.fw.dithTo c < base + 128 then
        (s.ditherPeriod c lo n (base + 64)).setDither c (some (lo.toNat, n)) (base + 128) else s)
    else
      let s1 := ((s.dropRung7 c).setRung7 c (some (if s.beat % 64 < n then lo + 1 else lo))).setDither c (some (lo.toNat, n)) (base + 128)
      let s2 := if s.beat % 64 < n && decide (n < 64) then s1.schedRung7 c lo (base + n) else s1
      s2.ditherPeriod c lo n (base + 64)

/-- FOLLOW_BEATS up to now (R320): the whole beats since it was last counted, where rung 7 has bound a domain since then. -/
def State.countFollow (s : State) : State :=
  match s.drum.followAt with
  | some t =>
    let n := (s.hclk - t) / 800
    { (s.bump Pace.followBeats n) with drum := { s.drum with followAt := some (t + 800 * n) } }
  | none => s

/-- FP2 begins or ends to follow (R320, R408): its records, and since when. -/
def State.setFollow (s : State) (g : Nat) (on : Bool) : State :=
  let f := s.drum.fw
  match f.following, on with
  | none, true =>
    let s1 : State := { s with
      drum := { s.drum with followAt := some (s.drum.followAt.getD s.hclk), fw := { f with following := some s.hclk } } }
    (s1.recordDl 0x0507 g (s.rd (Grp.gDeficit g)) (s.rd Pace.ownDeficit)).bump Pace.follows
  | some t, false =>
    ({ s with drum := { s.drum with followAt := none, fw := { f with following := none } } }).recordDl 0x0508 g ((s.hclk - t) / 800 : Nat) 0
  | _, _ => s

/-- What a follower shows and records (R320). -/
def State.followState (s : State) (g : Nat) (forced : Bool) : State :=
  let bound := cdList.filter (fun c => (s.ceil7 c).isSome && s.sourceOf (aRatio c) = 7)
  let f := s.drum.fw
  let s1 := s.wr Pace.paceTarget (match bound with
    | c :: _ => (match f.dither.find? (fun e => e.1 = c) with | some e => (e.2.1 * 256 + e.2.2 : Nat) | none => (0 : Nat))
    | [] => (0 : Nat))
  (s1.countFollow.setFollow g (decide (bound ≠ []))).wr Pace.paceState (if forced then 2 else if bound ≠ [] then 1 else 0)

/-- An evaluation of FP2 (R316, R319, R320, R322). -/
def State.paceEvaluate (s : State) : State :=
  if !s.fpRuns 2 then s
  else
    let l := s.memberCds.map (fun c => s.paceDom c)
    let s1 := s.publish s.ownUnit
    let s2 : State := { s1 with drum := { s1.drum with fw := { s1.drum.fw with evalAt := s.hclk } } }
    let g := s.rdN Pace.group
    let forced := decide (g < 16) && s.forcedHold g
    let harvest := decide (g < 16) && s2.rd (Grp.gPolicy g) = 1 && decide (0 < s2.rd (Grp.gDeficit g)) && !forced
      && decide (2 ≤ s2.rd (Grp.gGen g))
    let s3 := forEach cdList (fun c s =>
      s.followDom c (if harvest then (match l.find? (fun d => d.cd = c) with | some d => s2.paceTarget g d | none => none) else none)) s2
    (s3.followState g forced).fabric 2 2

/-- PACE_EVALUATE. -/
def execPaceEvaluate (slot : Fin 4) (s : State) : Host.Outcome State Fault Refusal :=
  done (if s.beatHclk % 800 = 200 * slot.val then s.paceEvaluate else s)

/-- Since when a member has heard nothing downward for a group (R317): the last EXPRESS, or S2, where it became a member. -/
def State.heardGroup (s : State) (g : Nat) : Nat := tabGet (fun _ => s.start.part1At) s.drum.resAt g

/-- A group is stale (R317): its result is cleared, and the departure counted. -/
def State.staleGroup (s : State) (g : Nat) : State :=
  let s1 : State := { s with drum := { s.drum with cleared := s.drum.cleared ++ [g] } }
  ((s1.setPort 0 { s1.port 0 with exVal := tabDel (s1.port 0).exVal g, exUndo := none }).setRes g 0).bump (Grp.gStale g)

/-- GROUP_STALE (R317): no downward EXPRESS for 100 beats. -/
def execGroupStale (g : Fin 16) (s : State) : Host.Outcome State Fault Refusal :=
  done (if s.isRoot || !s.start.dirRead || s.drum.cleared.contains g.val || !s.elapsed (s.heardGroup g) 80000 then s else s.staleGroup g)

/-- PACE_STALE_EXPIRY (R323): FP2 away for PACE_STALE beats since its last evaluation. -/
def execPaceStaleExpiry (s : State) : Host.Outcome State Fault Refusal :=
  done (if !s.fpRuns 2 && s.rd Pace.ownDeficit ≠ 0 && s.elapsed s.drum.fw.evalAt (800 * s.rdN Pace.paceStale) then
    (let s1 := s.wr Pace.ownDeficit 0
     if s1.rdN Pace.group < 16 then s1.recombine (s1.rdN Pace.group) else s1) else s)

/-! ### Cap collective (R324 to R326) -/

/-- A partition sum of FP1's last budget period. -/
def State.sumPts (s : State) (key : Nat → Nat) : Int := ptList.foldl (fun a p => a + s.rd (key p)) 0

/-- FP2 sets the node's own values (R324). -/
def State.collOwn (s : State) (c : CollInt) : CollInt :=
  if !s.fpRuns 2 then c
  else
    let d := min (min (s.sumPts Part.wantMw + s.rd Budget.pFixed) (s.rd Budget.chipCapMw)) (s.rd Budget.operCapMw)
    { c with dOwn := d, fOwn := min (s.sumPts Part.floorMw + s.rd Budget.pFixed) d }

/-- The period of the rounds: the root's own, a member's as last received (R324). -/
def State.collPeriodNow (s : State) : Option Nat := if s.isRoot then some (s.rdN Coll.collPeriod) else s.drum.coll.learned

/-- COLL_ROUND_START (R324). -/
def execCollRoundStart (s : State) : Host.Outcome State Fault Refusal :=
  done (match s.collPeriodNow with
    | some p =>
      if p ≠ 0 && s.beatHclk % (800 * p) = 0 && !(s.drum.coll.opened && s.drum.coll.start = s.beat) then
        (s.setColl (s.collOwn { s.drum.coll with opened := true, start := s.beat, period := p, sent := false, got := none, summed := false })).collReady
      else s
    | none => s)

/-- COLL_UP_FRAME (R324). -/
def execCollUpFrame (p : Fin 4) (f : BitVec 80) (cut : Bool) (_age : BitVec 12) (s : State) : Host.Outcome State Fault Refusal :=
  let b := frameBody f.toNat
  done (s.rxFrame p f.toNat cut (frameType f.toNat = 6) (fun s =>
    if p = 0 then s
    else (s.setPort p { s.port p with coll := some (getField b 20 20, getField b 0 20), collRound := some (getField b 40 8) }).collReady))

/-- COLL_UP_DEADLINE (R324): S + COLL_PERIOD/8 − 4 × DEPTH beats. -/
def execCollUpDeadline (s : State) : Host.Outcome State Fault Refusal :=
  let c := s.drum.coll
  done (if c.opened && !c.sent && !s.isRoot && decide (800 * (c.start : Int) + 100 * c.period - 3200 * s.rd Node.depth ≤ s.beatHclk) then s.sendCollUp else s)

/-- COLL_DOWN_DEADLINE (R325): S + COLL_PERIOD/8 at the root. -/
def execCollDownDeadline (s : State) : Host.Outcome State Fault Refusal :=
  let c := s.drum.coll
  done (if c.opened && !c.summed && s.isRoot && decide (800 * c.start + 100 * c.period ≤ s.beatHclk) then s.formSums else s)

/-- COLL_DOWN_FRAME (R324, R325): the period is learned, the mode and factor of the open round taken, and passed on. -/
def execCollDownFrame (p : Fin 4) (f : BitVec 80) (cut : Bool) (_age : BitVec 12) (s : State) : Host.Outcome State Fault Refusal :=
  let b := frameBody f.toNat
  let m := (getField b 38 2, getField b 22 16)
  done (s.rxFrame p f.toNat cut (frameType f.toNat = 7) (fun s =>
    if p ≠ 0 || s.isRoot then s
    else
      let c := s.drum.coll
      let c1 := { c with
        learned := some (getField b 0 22)
        got := if c.opened && c.round = getField b 40 8 && s.fpRuns 2 && decide (s.beatHclk ≤ c.grantAt) then some m else c.got }
      (((s.setColl c1).wr Coll.lastMode m.1).wr Coll.lastFactor m.2).collDownPush b))

/-- The grant of a node (R325): rounded down to mW, at least 10,000. -/
def collGrant (c : CollInt) (m : Nat × Nat) : Int :=
  match m.1 with
  | 0 => max 10000 (c.dOwn * m.2 / 32768)
  | 1 => max 10000 ((c.fOwn * 32768 + m.2 * (c.dOwn - c.fOwn)) / 32768)
  | 2 => max 10000 (c.fOwn * m.2 / 32768)
  | _ => 0xFFFFFFFF

/-- A round ends without a grant (R326): FP2 counts it, or finds it when it runs again. -/
def State.missRound (s : State) : State :=
  if s.fpRuns 2 then s.grantMissed (s.drum.away + 1) else { s with drum := { s.drum with away := s.drum.away + 1 } }

/-- GRANT_APPLY (R325, R326, R329): at S + COLL_PERIOD/2. -/
def State.grantApply (s : State) : State :=
  let c := s.drum.coll
  if !c.opened || decide (s.beatHclk < c.grantAt) then s
  else
    let s1 := s.setColl { c with opened := false }
    if s.rd Coll.collEn ≠ 1 then s1
    else match c.got with
      | some m =>
        if s.foreign || s.rd Node.alignState = 0 then s1.missRound
        else
          let s2 := (s1.wr Budget.clusterGrantMw (collGrant c m)).bump Coll.rounds
          ({ s2 with drum := { s2.drum with away := 0, fw := { s2.drum.fw with loss := 0, lost := false } } }).fabric 2 2
      | none => s1.missRound

/-- GRANT_APPLY. -/
def execGrantApply (s : State) : Host.Outcome State Fault Refusal := done s.grantApply

/-! ### Bulk transfer (R327, R381, R382) -/

/-- OP of a BULK_CTL body. -/
def bulkOp (b : Nat) : Nat := getField b 44 4

/-- A frame of a bulk row: BULK_CTL with the row's OP. -/
def isCtl (f op : Nat) : Bool := frameType f = 9 && bulkOp (frameBody f) = op

/-- A chunk of a port, answered there. -/
def portJob (p stream chunk : Nat) (bytes : List Byte) : ChunkJob := ⟨0, chunk, stream, p + 1, bytes, none⟩

/-- BULK_DATA_FRAME (R327): six bytes, the first on [47:40]. -/
def execBulkDataFrame (p : Fin 4) (f : BitVec 80) (cut : Bool) (_age : BitVec 12) (s : State) : Host.Outcome State Fault Refusal :=
  done (s.rxFrame p f.toNat cut (frameType f.toNat = 8) (fun s =>
    match (s.port p).rx with
    | some r =>
      (s.setPort p { s.port p with rx := some { r with bytes := r.bytes ++ (leBytes 6 (frameBody f.toNat)).reverse } }).bump (Port.bulkRx p)
        (min 6 (256 - r.bytes.length))
    | none => s))

/-- BULK_START (R327, R370, R381): an open chunk is discarded; NAK without a running Custodian, ACK for a chunk already held. -/
def State.bulkStart (s : State) (p body : Nat) : State :=
  let stream := getField body 24 16
  let chunk := getField body 0 24
  let s1 := s.setPort p { s.port p with rx := none }
  if !s.fpRuns 3 then s1.answerChunk (portJob p stream chunk []) false
  else if s.chunkVerdict stream chunk = .held then s1.answerChunk (portJob p stream chunk []) true
  else s1.setPort p { s1.port p with rx := some ⟨stream, chunk, []⟩ }

/-- BULK_START. -/
def execBulkStart (p : Fin 4) (f : BitVec 80) (cut : Bool) (_age : BitVec 12) (s : State) : Host.Outcome State Fault Refusal :=
  done (s.rxFrame p f.toNat cut (isCtl f.toNat 1) (fun s => s.bulkStart p (frameBody f.toNat)))

/-- BULK_END (R327, R381): the byte count and CRC-32C decide; a good chunk is programmed. -/
def State.bulkEnd (s : State) (p body : Nat) : State :=
  match (s.port p).rx with
  | none => s
  | some r =>
    let s1 := s.setPort p { s.port p with rx := none }
    let j := portJob p r.stream r.chunk (r.bytes.take 256)
    if s.fpRuns 3 && r.chunk % 4096 = getField body 32 12 && r.bytes.length = 258
        && (crc32c (r.bytes.take 256)).toNat = getField body 0 32 then s1.chunkIn j
    else s1.answerChunk j false

/-- BULK_END. -/
def execBulkEnd (p : Fin 4) (f : BitVec 80) (cut : Bool) (_age : BitVec 12) (s : State) : Host.Outcome State Fault Refusal :=
  done (s.rxFrame p f.toNat cut (isCtl f.toNat 2) (fun s => s.bulkEnd p (frameBody f.toNat)))

/-- The pass of a stream on a port ends (R382): it is done once every chunk was answered ACK, else the next pass begins. -/
def State.checkPass (s : State) (p : Nat) : State :=
  let t := (s.port p).tx
  match s.fwdSlot with
  | some b =>
    if t.stream = s.rdN (Slot.stream b) && decide (s.rdN (Slot.nChunks b) ≤ t.next) && t.flight = [] && t.again = [] then
      (if t.acked % 2 ^ s.rdN (Slot.nChunks b) = 2 ^ s.rdN (Slot.nChunks b) - 1 then
        (s.setPort p { s.port p with tx := { t with finished := some t.stream, peer := s.rdN (Port.partnerSerial p) } }).wr Upd.fwdPorts
          (putBit (s.rdN Upd.fwdPorts) p false)
      else s.setPort p { s.port p with tx := { t with next := 0, acked := 0, lastAck := none, naks := [] } })
    else s
  | none => s

/-- An answer to a chunk: it is no longer in flight, and what is left of it is not sent. -/
def PortInt.answered (q : PortInt) (chunk : Nat) : PortInt :=
  { q with
    bulkData := q.bulkData.filter (fun e => e.1 ≠ chunk)
    tx := { q.tx with flight := q.tx.flight.filter (fun c => c ≠ chunk) } }

/-- BULK_ACK (R381). -/
def State.bulkAck (s : State) (p body : Nat) : State :=
  let q := s.port p
  let chunk := getField body 0 24
  if q.tx.stream ≠ getField body 24 16 || !q.tx.flight.contains chunk then s
  else
    let q1 := q.answered chunk
    (s.setPort p { q1 with tx := { q1.tx with lastAck := some chunk, acked := putBit q1.tx.acked chunk true, naks := tabDel q1.tx.naks chunk } }).checkPass p

/-- BULK_ACK. -/
def execBulkAck (p : Fin 4) (f : BitVec 80) (cut : Bool) (_age : BitVec 12) (s : State) : Host.Outcome State Fault Refusal :=
  done (s.rxFrame p f.toNat cut (isCtl f.toNat 3) (fun s => s.bulkAck p (frameBody f.toNat)))

/-- BULK_NAK (R381): sent again up to 3 times, then the port pauses. -/
def State.bulkNak (s : State) (p body : Nat) : State :=
  let q := s.port p
  let chunk := getField body 0 24
  if q.tx.stream ≠ getField body 24 16 || !q.tx.flight.contains chunk then s
  else
    let q1 := q.answered chunk
    let n := tabGet (fun _ => 0) q.tx.naks chunk + 1
    if n ≤ 3 then s.setPort p { q1 with tx := { q1.tx with naks := tabPut q1.tx.naks chunk n, again := q1.tx.again ++ [chunk] } }
    else s.setPort p { q1 with bulkData := [], tx := { q1.tx with flight := [], again := [], naks := [], paused := some s.hclk } }

/-- BULK_NAK. -/
def execBulkNak (p : Fin 4) (f : BitVec 80) (cut : Bool) (_age : BitVec 12) (s : State) : Host.Outcome State Fault Refusal :=
  done (s.rxFrame p f.toNat cut (isCtl f.toNat 4) (fun s => s.bulkNak p (frameBody f.toNat)))

/-- The frames of a chunk (R327): START, 43 of data, END; each with its chunk, TYPE and BODY. -/
def chunkFrames (stream chunk : Nat) (bytes : List Byte) : List (Nat × Nat) :=
  let data := (List.range 43).map (fun i => typed 8 (leNat (((bytes.drop (6 * i)).take 6 ++ List.replicate 6 0).take 6).reverse))
  ([typed 9 (2 ^ 44 + stream * 2 ^ 24 + chunk)] ++ data
    ++ [typed 9 (2 * 2 ^ 44 + chunk % 4096 * 2 ^ 32 + (crc32c bytes).toNat)]).map (fun w => (chunk, w))

/-- BULK_CHUNK_SEND (R381, R382): the next chunk of the forwarded stream, at most 4 without an answer. -/
def State.bulkChunkSend (s : State) (p : Nat) (bytes : List Byte) : State :=
  match s.fwdSlot with
  | none => s
  | some b =>
    let stream := s.rdN (Slot.stream b)
    let q := s.port p
    let t : BulkTx := if q.tx.stream = stream then q.tx else { stream := stream, finished := q.tx.finished, peer := q.tx.peer }
    if p = 0 || !s.fpRuns 3 || decide (s.linkGen p < 1) || t.paused.isSome || decide (4 ≤ t.flight.length) || t.finished = some stream then s
    else
      let send := fun (chunk : Nat) (t : BulkTx) =>
        (s.setPort p { q with bulkData := q.bulkData ++ chunkFrames stream chunk bytes, tx := { t with flight := t.flight ++ [chunk] } }).wr
          Upd.fwdPorts (putBit (s.rdN Upd.fwdPorts) p true)
      match t.again with
      | c :: r => send c { t with again := r }
      | [] => if t.next < s.rdN (Slot.nChunks b) then send t.next { t with next := t.next + 1 } else s

/-- BULK_CHUNK_SEND. -/
def execBulkChunkSend (p : Fin 4) (bytes : List Byte) (s : State) : Host.Outcome State Fault Refusal :=
  done (s.bulkChunkSend p bytes)

/-- BULK_PAUSE_END (R381): 1,000,000 beats; from the chunk after the last ACK. -/
def execBulkPauseEnd (p : Fin 4) (s : State) : Host.Outcome State Fault Refusal :=
  let t := (s.port p).tx
  done (match t.paused with
    | some b =>
      if s.elapsed b 800000000 then
        (s.setPort p { s.port p with tx := { t with paused := none, next := match t.lastAck with | some c => c + 1 | none => 0 } }).checkPass p
      else s
    | none => s)

end Sys2Proof.Machine
end

