-- ==== Sys2Proof/Machine/Access.lean ====
section
/-! DEFINITION. Range rules of the dictionary's writable subs (R88, R89, and the Effect columns of the entry tables), and what a
write does at once beside storing its value. -/

namespace Sys2Proof.Machine

/-- A value clamped into a range where a code beside the range is valid as it stands (log 60). -/
def clampOr (code lo hi v : Int) : Int := if v = code then code else clampI lo hi v

/-- A value that is stored where a condition holds, else rejected. -/
def keepIf (c : Bool) (v : Int) : Option Int := if c then some v else none

/-- Whether every field of w bits of a value satisfies a test of its place and value. -/
def fieldsAll (w n : Nat) (v : Nat) (p : Nat → Nat → Bool) : Bool := (List.range n).all (fun k => p k (getField v (w * k) w))

/-- Whether a trace is armed or triggered (R234). -/
def State.tracing (s : State) (n : Nat) : Bool := s.rd (Trace.trCtrl n) = 1 || s.rd (Trace.trCtrl n) = 2

/-- The nominal frequency behind OBS_SRC in kHz (R71, R182, R214), none where the source is absent or reserved. -/
def State.obsKhz (s : State) (src : Nat) : Option Nat :=
  let i := src % 256
  match src / 256 with
  | 0 => some 0
  | 1 => some 800000
  | 2 => some 1600000
  | 3 => some 25000
  | 4 => some 156250
  | 5 => if i < 4 then some 156250 else none
  | 6 => if i < 64 then some (1000 * s.rdN (Cd.fTable i)) else none
  | 7 => some 25000
  | _ => none

/-- Whether an observation source and divisor are present and at most 200 MHz (R214). -/
def State.obsOk (s : State) (src div : Nat) : Bool :=
  match s.obsKhz src with | some f => decide (f ≤ 200000 * div) | none => false

/-- A word of a SAMPLE list (R348): 0, or a present sub that hardware serves and that is no BLOB window. -/
def listWordOk (v : Nat) : Bool :=
  let key := v / 256
  v = 0 || (v % 256 = 0 && subPresent (key / 256) (key % 256) && (servedBy (key / 256) (key % 256)).isNone
    && !(isBlob (key / 256) && decide (0x10 ≤ key % 256)))

/-- WIN_SEL by WIN_KIND (8401:0B): SAMPLE 0; EVENTS the units of Z-REF; COMMAND a range of queues. -/
def State.winSelOk (s : State) (w v : Nat) : Bool :=
  match s.rd (Win.winKind w) with
  | 2 => decide (v < 2 ^ 17)
  | 3 => decide (v < 2 ^ 26) && getField v 10 6 = 0 && decide (getField v 0 10 + getField v 16 10 ≤ 512)
  | _ => v = 0

/-- The subs of a telemetry window that take writes only while it is off (R346). -/
def State.winRule (s : State) (w sub : Nat) (v : Int) : Option Int :=
  if s.rd (Win.winEn w) ≠ 0 then none
  else match sub with
    | 0x02 => keepIf (decide (1 ≤ v) && decide (v ≤ 3)) v
    | 0x03 => keepIf (decide (v ≤ 4095)) v
    | 0x05 => some (clampI 1 65536 v)
    | 0x07 => keepIf (decide (v ≤ 1)) v
    | 0x08 => keepIf (decide (v ≤ 3)) v
    | 0x09 => some (clampI 1 1000000 v)
    | 0x0A => some (clampI 1 1000000 v)
    | 0x0B => keepIf (s.winSelOk w v.toNat) v
    | _ => if 0x20 ≤ sub then keepIf (listWordOk v.toNat) v else some v

/-- The rules of 2000+n and 2800+p (R149, R150). -/
def State.railRule (s : State) (n sub : Nat) (v : Int) : Option Int :=
  let off : Bool := s.railState n = 0
  match sub with
  | 0x05 => if v % 10 = 0 then some (clampI (s.rd (Rail.vfloor n)) (s.rd (Rail.vsetMax n)) v) else none
  | 0x06 => if off then some (clampI (s.rd (Rail.vfloor n)) (s.rd (Rail.vsetLimit n)) v) else none
  | 0x08 => if off then some (clampI 0 (s.rd (Rail.vsetMax n)) v) else none
  | 0x0D => some (clampI 100 ((Config.phasesOf n).foldl (fun a p => a + s.rd (Ph.ilimPh p)) 0) v)
  | 0x16 => if !off && decide (s.rd (Rail.phAvail n) < v) then none else some (clampI 1 (Config.phCount n) v)
  | 0x18 => if s.rd (Rail.addHi n) - 10 ≤ v then none else some (clampI 5 80 v)
  | 0x19 => if v ≤ s.rd (Rail.shedLo n) + 10 then none else some (clampI 20 95 v)
  | 0x1B => keepIf (decide (v ≤ 16) || v = 255) v
  | 0x1F => keepIf (v ≠ 0 && v.toNat &&& Config.snsAssigned n = v.toNat) v
  | _ => none

/-- The rules of 4000+n and 4010+n (R240, R241). -/
def State.loopRule (s : State) (n sub : Nat) (v : Int) : Option Int :=
  match sub with
  | 0x0C => keepIf (decide (v ≤ 3) || v = 255) v
  | 0x0E =>
    let t := fun k => getField v.toNat (8 * k) 8
    keepIf (decide (v < 2 ^ 24) && decide (1 ≤ t 0) && decide (t 0 < t 1) && decide (t 1 < t 2) && decide (t 2 ≤ 99)) v
  | 0x10 => some (clampI 1 (Config.phCount n) v)
  | 0x1A => some (clampI 20 (s.rd (Loop.feLimit n)) v)
  | _ => if 0x40 ≤ sub then keepIf (decide (v < 2 ^ 26)) v else none

def State.traceRule (s : State) (n sub : Nat) (v : Int) : Option Int :=
  if s.tracing n then none
  else match sub with
    | 0x05 => keepIf (fieldsAll 8 8 v.toNat (fun _ c => decide (c ≤ 15))) v
    | 0x06 =>
      let c := v.toNat % 256
      keepIf (match v.toNat / 256 with
        | 0 => true
        | 4 => decide (1 ≤ c) && decide (c ≤ 7)
        | k => decide (k ≤ 3) && decide (c ≤ 15)) v
    | 0x07 => some v
    | 0x08 => some (clampI 0 4095 v)
    | 0x09 => keepIf (!v.toNat.testBit n) v
    | _ => none

/-- The rules of 5000+c (R291). -/
def State.channelRule (s : State) (c sub : Nat) (v : Int) : Option Int :=
  let k := s.rd (Ch.chKind c)
  match sub with
  | 0x07 => if (k = 1 && s.factory) || k = 2 || k = 3 then some (clampI 15565 18022 v) else none
  | 0x08 => if k = 4 then some (clampI 2000 5000 v) else none
  | 0x09 => if (1 ≤ k && k ≤ 5) || k = 8 then some (clampI (-160) 160 v) else none
  | 0x0A => some (clampOr 0x7FFF 0 2400 v)
  | _ => none

/-- START_ORDER (R443): each rail at most once, 0xF for none. -/
def startOrderOk (v : Nat) : Bool :=
  let l := (List.range 16).map (fun k => getField v (4 * k) 4)
  l.all (fun r => decide (r < 8) || r = 15) && decide ((l.filter (fun r => r ≠ 15)).eraseDups.length = (l.filter (fun r => r ≠ 15)).length)

/-- The rules of the Effect columns that no common form covers: base index, instance, sub, value, writing transport. -/
def State.specialRule (s : State) (x base i sub : Nat) (v : Int) : Option Int :=
  match base, sub with
  | 0x1200, 0x01 => keepIf (decide (v ≤ 7) && (x = 0 || v.toNat.testBit (x - 1))) v
  | 0x1200, _ => keepIf (v = 0 || (decide (8 ≤ v) && decide (v ≤ 254))) v
  | 0x1210, _ => if s.hub.tags = [] then some (clampI 0 512 v) else none
  | 0x2000, _ => s.railRule i sub v
  | 0x2800, 0x04 => if s.railState (Config.phRail i) = 0 then some (clampI 100 6000 v) else none
  | 0x2800, _ => if s.railState (Config.phRail i) = 0 then some (clampI 100 10000 v) else none
  | 0x3200, _ => keepIf (fieldsAll 8 4 v.toNat (fun _ f => decide (16 ≤ f))) v
  | 0x3208, _ => if v % 10 = 0 then some (clampI 0 200 v) else none
  | 0x3100, 0x07 => keepIf (decide (v ≤ 1) && (v = 0 || Config.pdRetCells i) && s.rd (Pd.pdState i) = 0) v
  | 0x3100, 0x09 => if 16000 < 4 * v + s.rd (Pd.tSettle i) then none else some (clampI 500 4000 v)
  | 0x3100, _ => if 16000 < 4 * s.rd (Pd.stageMin i) + v then none else some (clampI 0 4000 v)
  | 0x3240, _ => keepIf (s.factory || v % 16 ≠ 0) v
  | 0x3301, 0x01 => keepIf (s.obsOk v.toNat (s.rdN Obs.obsDiv)) v
  | 0x3301, _ => keepIf (s.obsOk (s.rdN Obs.obsSrc) (clampI 1 65536 v).toNat) (clampI 1 65536 v)
  | 0x4000, _ => s.loopRule i sub v
  | 0x4010, _ => s.traceRule i sub v
  | 0x5000, _ => s.channelRule i sub v
  | 0x5080, _ => keepIf (decide (v < 128) && s.rd (Ch.chKind v.toNat) = 4) v
  | 0x5090, _ => keepIf (s.rd Gong.gongState = 0 && !s.tripComes && decide (v ≤ 1)) v
  | 0x50A0, 0x01 => if s.rd StageTh.stShut - 160 < v then none else some (clampI 960 2240 v)
  | 0x50A0, _ => if v < s.rd StageTh.stWarn + 160 then none else some (clampI 1280 2400 v)
  | 0x6100, _ => some (if v ≤ 2400000 || v = 0xFFFFFFFF then v else 2400000)
  | 0x6200, _ => keepIf (fieldsAll 8 8 v.toNat (fun g f => f = 255 || (decide (f ≤ 31) && Config.groupRails g ≠ 0xFFFF))) v
  | 0x7000, _ => keepIf (v = 0 || (v = 1 && s.rd Node.rootMode = 1)) v
  | 0x7020, _ => keepIf (decide (v ≤ 15) || v = 255) v
  | 0x8401, _ => s.winRule i sub v
  | 0x9010, _ => some ((v.toNat ||| 0xFF : Nat) : Int)
  | 0x9030, _ => some (clampOr 0 60 604800 v)
  | 0x9035, _ => some (clampOr 0 60 86400 v)
  | 0xA020, 0x03 => some (clampOr 0 10 60000 v)
  | 0xA020, _ => keepIf (decide (v < 16) && v % 4 ≠ 3 && v / 4 ≠ 3) v
  | 0xB030, _ => keepIf (startOrderOk v.toNat) v
  | _, _ => none

/-- What a write of a value stores in a sub, none where it is rejected (R88, R89). -/
def State.ruled (s : State) (x key : Nat) (v : Int) : Option Int :=
  match rowOf key with
  | none => none
  | some (i, r) =>
    match r.wrule with
    | .any => some v
    | .clamp lo hi => some (clampI lo hi v)
    | .within lo hi => keepIf (decide (lo ≤ v) && decide (v ≤ hi)) v
    | .mask m => keepIf (v.toNat &&& m = v.toNat) v
    | .oneOf vs => keepIf (vs.contains v) v
    | .act => none
    | .special => s.specialRule x (key / 256 - i) i (key % 256) v

/-- A cap or role keeps what it read before the writes of this HCLK (R267). -/
def State.noteCap (s : State) (key : Nat) (old : Int) : State :=
  let l := s.budget.capOld
  if l.any (fun e => e.1 = key && e.2.2 = s.hclk) then s
  else { s with budget := { s.budget with capOld := l.filter (fun e => e.1 ≠ key) ++ [(key, old, s.hclk)] } }

/-- What a stored value does at once: base index, instance, sub, the value before. -/
def State.afterWrite (s : State) (base i sub : Nat) (old : Int) : State :=
  match base, sub with
  | 0x6000, 0x01 => s.noteCap Budget.chipCapMw old
  | 0x6000, 0x02 => s.noteCap Budget.role old
  | 0x6000, 0x03 => s.noteCap Budget.operCapMw old
  | 0x6100, 0x04 => s.noteCap (Part.ptCapMw i) old
  | 0x2000, 0x06 => s.reeval (aVset i)
  | 0x2000, 0x08 => s.reeval (aVset i)
  | 0x2000, 0x0D => s.ilimEff i
  | 0x3200, 0x01 => if s.rd Upbeat.ubEn = 0 then s.upbeatOff else forEach cdList (fun c s => s.refreshPrec c) s
  | 0x3240, 0x01 => s.wr (Snare.snTripped i) (s.rdN (Snare.snTripped i) &&& s.rdN (Snare.snMask i) : Nat)
  | 0x5090, 0x05 => if s.rd Gong.gongState = 3 && s.rd Gong.restartMode = 1 then s.gongRestart else s
  | 0x3210, 0x03 => if s.rd (Lane.laneEn i) = 0 then s.laneDisable i else s
  | 0x4000, 0x15 => if s.rd (Loop.feEn i) = 1 then s.setLoop i { s.loop i with feRunning := false } else s
  | 0x4000, _ => if 0x40 ≤ sub then s.showPending i else s
  | 0x7000, 0x0A => if s.start.dirRead then s.align else s
  | 0x7000, 0x0B => s.setSlew
  | 0x7020, 0x01 =>
    let s1 := if old ≤ 15 then s.recombine old.toNat else s
    if s.rd Pace.group ≤ 15 then s1.recombine (s.rdN Pace.group) else s1
  | 0x9010, 0x0A => s.wdtWritten i old
  | 0x9030, 0x09 => s.fwdReview
  | 0xA020, 0x03 => { s with hang := { s.hang with kickAt := s.hclk, missed := false } }
  | 0xA030, 0x05 => s.showDumpLen
  | _, _ => s

/-- A value takes its place in a sub. -/
def State.take (s : State) (key : Nat) (v : Int) : State :=
  match rowOf key with
  | some (i, _) => (s.wr key v).afterWrite (key / 256 - i) i (key % 256) (s.rd key)
  | none => s

/-- A value that has passed its range rule is stored, and marked for the settings store where the sub is RWS (R90); a staged coefficient is
marked by its commit (R227). -/
def State.storeRuled (s : State) (key : Nat) (w : Int) : State :=
  match rowOf key with
  | some (_, r) => let t := s.take key w; if r.acc = .rws && !isCoef key then t.markRws key else t
  | none => s

/-- A write of a plain sub (R89, R90): stored, and marked for the settings store where it is RWS; or rejected. -/
def State.storeSub (s : State) (x key : Nat) (v : Int) : State :=
  match s.ruled x key v with
  | some w => s.storeRuled key w
  | none => s.reject key x

end Sys2Proof.Machine
end

