-- ==== Sys2Proof/Machine/Ring.lean ====
section
/-! DEFINITION. The satellite ring (R15, R16): the keep-alive, a message at a satellite, isolation and a broken lane. -/

namespace Sys2Proof.Machine

/-! ### Ring (R15, R16) -/

/-- A DCU takes what the hub asked of it while it was isolated (R16): the F_TABLE, whose DCO relocks (R189), a soft stop of its rail, and
gate and switch requests and withdrawals. -/
def State.cdRejoin (s : State) (c : Nat) (relock : Bool) : State :=
  let s1 := when relock (fun s => s.wr (Cd.dcoLock c) 0) s
  (when (s.dcu c).softPend (fun s => (s.setDcu c { s.dcu c with softPend := false }).requestForce c 2) s1).gateReleased c

/-- A satellite leaves isolation (R16). The values sent meanwhile reach it as their copies arrive. -/
def State.rejoin (s : State) (sat : Nat) : State :=
  let r := s.sat sat
  let s1 := s.setSat sat { r with isolated := false, ftPend := false }
  if sat < 64 then s1.cdRejoin sat r.ftPend
  else when (s.rail (s.rdN (Pd.pdRail (sat - 64)))).softStop (fun s => s.pdSoftOff (sat - 64)) s1

/-- A satellite hears the hub in this HCLK: one that was isolated leaves isolation (R16). -/
def State.hear (s : State) (sat : Nat) : State :=
  let s1 := s.setSat sat { s.sat sat with lastGood := s.hclk }
  if (s.sat sat).isolated then s1.rejoin sat else s1

/-- The keep-alive of the ring (R16): every satellite with a working lane hears the hub. -/
def State.keepalive (s : State) : State :=
  forEach (s.hub.sats.filter (fun e => !(e.2.broken0 && e.2.broken1))) (fun e s => s.hear e.1)
    { s with hub := { s.hub with keepAt := s.hclk } }

/-- RING_KEEPALIVE (R16): at the earliest 64 HCLK after the one before. -/
def execRingKeepalive (s : State) : Host.Outcome State Fault Refusal :=
  done (if s.elapsed s.hub.keepAt 64 then s.keepalive else s)

/-- Whether a message still has a copy on a lane for a satellite. -/
def RingMsg.waits (m : RingMsg) (lane : Fin 2) (sat : Nat) : Bool := m.sat = sat && (if lane = 0 then m.on0 else m.on1)

/-- Take the copy of a message off a lane. -/
def RingMsg.take (m : RingMsg) (lane : Fin 2) : RingMsg :=
  if lane = 0 then { m with on0 := false, taken := true } else { m with on1 := false, taken := true }

/-- Change the first element that a test picks. -/
def mapFirst {α : Type} (f : α → Bool) (g : α → α) : List α → List α
  | [] => []
  | a :: r => if f a then g a :: r else a :: mapFirst f g r

/-- RING_MESSAGE (R15, R16): the oldest message on a lane for a satellite arrives; a good first copy is taken, a second copy
and a bad one are discarded. -/
def State.ringMessage (s : State) (lane : Fin 2) (sat : Nat) (good : Bool) : State :=
  let first := s.hub.ring.find? (fun m => m.waits lane sat)
  let ring := (mapFirst (fun m => m.waits lane sat)
    (fun m => if good then m.take lane else { m.take lane with taken := m.taken }) s.hub.ring).filter (fun m => m.on0 || m.on1)
  let s1 : State := { s with hub := { s.hub with ring := ring } }
  if !good then s1
  else
    let r := s.sat sat
    let s2 := (s1.setSat sat { r with broken0 := r.broken0 && lane ≠ 0, broken1 := r.broken1 && lane ≠ 1 }).hear sat
    match first with
    | some m => if m.taken then s2 else s2.ringDeliver sat m.item m.value
    | none => s2

/-- RING_MESSAGE. -/
def execRingMessage (lane : Fin 2) (sat : Fin 160) (good : Bool) (s : State) : Host.Outcome State Fault Refusal :=
  done (s.ringMessage lane sat good)

/-- The shelf and first parameter of a ring record (R16, R410). -/
def State.satRecord (s : State) (sat : Nat) : Nat × Nat :=
  if sat < 64 then (srcCd sat, sat) else (srcRail (s.rdN (Pd.pdRail (sat - 64))), 256 + (sat - 64))

/-- SATELLITE_ISOLATED (R16): nothing received for 256 HCLK on either lane. -/
def execSatelliteIsolated (sat : Fin 160) (s : State) : Host.Outcome State Fault Refusal :=
  let r := s.sat sat
  let heard := if r.broken0 && r.broken1 then r.lastGood else max r.lastGood s.hub.keepAt
  done (if !r.isolated && s.elapsed heard 256 then
    (s.setSat sat { r with isolated := true, lastGood := heard }).record (s.satRecord sat).1 0x0102 (s.satRecord sat).2 0 0 else s)

/-- RING_LANE_DOWN (R16). -/
def execRingLaneDown (lane : Fin 2) (sat : Fin 160) (s : State) : Host.Outcome State Fault Refusal :=
  let r := s.sat sat
  done (if (if lane = 0 then r.broken0 else r.broken1) then s
    else (s.setSat sat { r with
      broken0 := r.broken0 || lane = 0, broken1 := r.broken1 || lane = 1, lastGood := max r.lastGood s.hub.keepAt }).record
      (s.satRecord sat).1 0x0101 (s.satRecord sat).2 lane.val 0)

end Sys2Proof.Machine
end

