-- ==== Sys2Proof/Machine/Lost.lean ====
section
/-! DEFINITION. Lost management (R40, R41): the conditions that Zilari can observe, the interval under way, and its end. -/

namespace Sys2Proof.Machine

/-- A function of rungs 1 to 5 that is unavailable for a rail (R40): Gong's sequencer is stopped (rung 1), or a DCU of the rail is in
reset (rung 3). DEDUCED, log 92. -/
def State.rungLost (s : State) (n : Nat) : Bool := !s.hk.running || (!s.start.dcusUp && !(s.cdsOf n).isEmpty)

/-- The value a satellite holds for an item of the ring: a ratio, a power-domain state, a Brush code. -/
def State.satHolds (s : State) (sat item : Nat) : Option Int :=
  if sat < 64 then
    (if item = 0 then some (s.rd (Cd.ratioOut sat))
     else if 1000 ≤ item then some (tabGet (fun _ => 16) (s.dcu sat).duty (item - 1000)) else none)
  else if item = 1 then some (if (s.pd (sat - 64)).want then 1 else 0) else none

/-- The rail that supplies a satellite's domain. -/
def State.satRail (s : State) (sat : Nat) : Nat := if sat < 64 then s.rdN (Cd.cdRail sat) else s.rdN (Pd.pdRail (sat - 64))

/-- An actuator output that is not at the value sent for it, 232 HCLK after it was sent (32 of the ring, R15, and 200 ns of the step, R26, plus
the 40 ns of R18), in a satellite that is not isolated. -/
def State.sentLost (s : State) (n : Nat) : Bool :=
  s.hub.sent.any (fun e =>
    let sat := e.1 / 2048
    s.satRail sat = n && s.elapsed e.2.2 232 && !(s.sat sat).isolated
      && (match s.satHolds sat (e.1 % 2048) with | some v => decide (v ≠ e.2.1) | none => false))

/-- An output of a rail's domains, partitions or power domains that is not at its resolved value (R40): one sent and not taken, or a power
domain resolved ON that is in FAULT. DEDUCED, log 92. -/
def State.outLost (s : State) (n : Nat) : Bool :=
  s.sentLost n || (s.pdsOf n).any (fun d => s.rd (Pd.pdRes d) = 1 && s.rd (Pd.pdState d) = 4 && !(s.sat (satPd d)).isolated)

/-- The first rail in RAMP, REGULATE or SHED whose management is lost now, with the cause of R410: 1 a rung function, 2 an output. -/
def State.lostHere (s : State) : Option (Nat × Nat) :=
  railList.foldr (fun n rest =>
    if s.railState n = 2 || s.regulating n then
      (if s.rungLost n then some (1, n) else if s.outLost n then some (2, n) else rest)
    else rest) none

/-- An interval of lost management is added to the entries of 1102 (R41); YEAR_WINDOW loses it a year of beat time later. -/
def State.addLost (s : State) (start len : Nat) : State :=
  let s1 := ((((s.bump Lost.lostTotal len).bump Lost.lostIntervals).wr Lost.lastStart start).wr Lost.lastLength len).bump Lost.yearWindow len
  { s1 with lostNow := true, hub := { s1.hub with lostLog := s1.hub.lostLog ++ [(s1.beat, len)] } }

/-- Lost management is observed in each HCLK (R40, R41): an interval begins, or ends with its entries and its record. -/
def State.watchLost (s : State) : State :=
  match s.hub.lost, s.lostHere with
  | none, some (cause, n) => { s with hub := { s.hub with lost := some (s.beat, cause, n) } }
  | some (b, cause, n), none =>
    let s1 : State := { s with hub := { s.hub with lost := none } }
    (s1.addLost b (s.beat - b)).record 0 0x0108 (s.beat - b : Nat) (b % 2 ^ 32 : Nat) (cause * 256 + n : Nat)
  | _, _ => s

/-- The beats of a year of beat time (1102:05). -/
def yearBeats : Nat := 31557600000000

/-- The intervals that ended a year ago leave YEAR_WINDOW (1102:05). -/
def State.ageLost (s : State) : State :=
  let old := s.hub.lostLog.filter (fun e => decide (e.1 + yearBeats ≤ s.beat))
  if old.isEmpty then s
  else ({ s with hub := { s.hub with lostLog := s.hub.lostLog.filter (fun e => !decide (e.1 + yearBeats ≤ s.beat)) } }).bump Lost.yearWindow
    (-(old.foldl (fun (a : Nat) (e : Nat × Nat) => a + e.2) 0 : Nat))

end Sys2Proof.Machine
end

