-- ==== Sys2Proof/Machine/Start.lean ====
section
/-! DEFINITION. Bring-up, self-tests, supply inhibit and life cycle (spec/14, R46, R183, R298, R421, R422). -/

namespace Sys2Proof.Machine

/-- Replace the start sequence's state. -/
def State.setStart (s : State) (x : StartInt) : State := { s with start := x }

/-- Microseconds of a span in HCLK. -/
def usOf (site span : Nat) : Int := divOpen site span 800

/-! ### Resets (R46, R447, R456) -/

/-- The fault counts of a phase (R136). -/
def faultCounts (p : Nat) : List Nat := [Ph.ilimHits p, Ph.plausFails p, Ph.otWarnings p, Ph.uvExclusions p]

/-- The fault counts of a retired phase are kept when a reset returns it (R136). -/
def State.keepPhases (s r : State) : State :=
  forEach ((List.range 96).filter (fun p => s.rd (Ph.phState p) = 5)) (fun p r =>
    forEach (faultCounts p) (fun k r => r.wr k (s.rd k)) r) r

/-- What a reset leaves of the signature store (R454, R459): none where a shutdown-time test had not written it yet. -/
def State.storeLeft (s : State) : Option Bool := if s.rd Sd.sdCtrl = 1 || s.start.sdStore then some false else s.start.store

/-- A reset of all of Zilari: what the fuses, the boot directory (R383, R390), the settings regions (R393) and the signature store (R454) hold
stands; a blown transition fuse takes effect, and two of the transitions erase the settings regions (R456); LC_NONCE is drawn anew
(R457). -/
def State.resetAll (s : State) : State :=
  let gone := s.start.lcNext = some 2 || s.start.lcNext = some 4 || (s.start.erased && !s.start.settingsDone)
  let r : State := { State.reset with
    pending := s.pending
    free := s.free
    fw := { State.reset.fw with dirs := s.fw.dirs, regions := if gone then [] else s.fw.regions }
    start := { State.reset.start with store := s.storeLeft, storedTrims := s.start.storedTrims, erased := gone } }
  let lc : Int := match s.start.lcNext with | some v => v | none => s.rd Lc.lcState
  (((((s.keepPhases r).wr Lc.lcState lc).wr Lc.lcFusesLeft (s.rd Lc.lcFusesLeft)).wr KeyLad.revoked (s.rd KeyLad.revoked)).wr LcAuth.lcNonce
    (s.freeVal 140 % 2 ^ 64)).useFree

/-- POWER_ON_RESET (R46). -/
def execPowerOnReset (s : State) : Host.Outcome State Fault Refusal := done s.resetAll

/-- VAON_RESET (R447): the straps stand, and POR_N with its level. -/
def execVaonReset (s : State) : Host.Outcome State Fault Refusal :=
  let r := s.resetAll
  done ((r.setStart { r.start with strapSmb := s.start.strapSmb, porLow := s.start.porLow, vaonAt := some r.hclk }).wr Clk.oscSettle
    (s.rd Clk.oscSettle))

/-- S0 (R443): POR_N is high, the hub runs on STO until it leaves reset. -/
def State.startS0 (s : State) : State :=
  s.setStart { s.start with s0 := true, vaonAt := none, porAt := s.hclk, settleAt := s.hclk }

/-- POR_RELEASE (R45, R443): the straps are sampled; S0 begins, unless the VAON monitor still holds the reset (R447). -/
def State.porRise (s : State) (oscSettle smbAddr : Nat) : State :=
  let s1 := (s.setStart { s.start with porLow := false, strapSmb := smbAddr }).wr Clk.oscSettle oscSettle
  if s1.start.vaonAt.isNone then s1.startS0 else s1

/-- POR_RELEASE. -/
def execPorRelease (oscSettle smbAddr : BitVec 3) (s : State) : Host.Outcome State Fault Refusal :=
  done (if s.start.porLow then s.porRise oscSettle.toNat smbAddr.toNat else s)

/-- VAON_RESET_RELEASE (R447): VAON at or above 0.65 V for 1 ms with POR_N high. -/
def execVaonResetRelease (s : State) : Host.Outcome State Fault Refusal :=
  done (match s.start.vaonAt with
    | some t => if !s.start.porLow && s.elapsed t 800000 then s.startS0 else s
    | none => s)

/-- HUB_RESET_EXIT (R25, R82, R443): beat time starts from 0; the worst latency of the satellite rings, 1 to 32 HCLK, and that of the
phase-controller bus are measured and recorded. -/
def execHubResetExit (s : State) : Host.Outcome State Fault Refusal :=
  done (if !s.start.s0 || s.start.hubUp then s else
    ((({ s with start := { s.start with hubUp := true, hubAt := s.hclk }, beatHclk := 0 }).wr Ident.ringLat (1 + s.freeVal 202 % 32)).wr Ident.phaseCtlLat
      (s.freeVal 203)).useFree)

/-- XSPI_RESET_RELEASE (R443): 10 µs after the hub leaves reset. -/
def execXspiResetRelease (s : State) : Host.Outcome State Fault Refusal :=
  done (if s.start.hubUp && s.start.xspiAt.isNone && decide (8000 ≤ s.beatHclk) then s.setStart { s.start with xspiAt := some s.hclk } else s)

/-! ### The boot directory (R298, R379, R383, R443, R454) -/

/-- A sub takes what the directory gives it, unless a write has reached it before (R298): that value takes effect at the next start. -/
def State.dirValue (s : State) (key : Nat) (v : Bool) : State :=
  if s.fw.marks.any (fun e => e.1 = key) then s else s.wr key (if v then 1 else 0)

/-- The role of the node at S2 (R298, R299); a root with RING 0 ignores DL0 from then on, whose link is DOWN (R314). -/
def State.takeRole (s : State) (root ring : Bool) : State :=
  let s1 := (s.dirValue Node.rootMode root).dirValue Node.ring ring
  if root then
    let s2 := (((({ s1 with drum := { s1.drum with ring := ring } }).wr Node.nodeRole 0).wr Node.depth 0).wr Node.alignState 5).wr Clk.brefState 0
    if ring || s.rd (Port.linkState 0) = 0 then s2
    else ((s2.setPort 0 { up := (s.port 0).up, dreqId := (s.port 0).dreqId }).clearPartner 0).setLink 0 0
  else (((s1.wr Node.nodeRole 2).wr Node.depth 255).wr Node.alignState 0).wr Clk.brefState (if (s.port 0).up then 1 else 0)

/-- A slot as the directory and its first chunk give it (R379, R383): the mirrored chunks of its stream and those re-read since; chunk 0 of a
slot in RECEIVING must be held again. -/
def State.takeSlot (s : State) (b st stream mirror held : Nat) (hdr : List Byte) : State :=
  let map := if st = 1 then putBit (held ||| mirror) 0 false else held ||| mirror
  let s1 := (((s.clearSlot b).wr (Slot.slotState b) st).wr (Slot.stream b) stream).wr (Slot.held b) (popBelow 32768 map)
  let s2 : State := { s1 with
    fw := { s1.fw with held := tabPut s1.fw.held b map, mirror := tabPut s1.fw.mirror b (stream, mirror), resume := s1.fw.resume || st = 1 } }
  if st = 0 then s.clearSlot b |>.wr (Slot.slotState b) 0 else if st = 1 then s2 else s2.takeHeader b hdr

/-- The directory that S2 reads (R298, R383): the newer good copy of those Zilari has written, none where both are bad; what the operand finds
where it has written none. -/
def State.dirFound (s : State) (d : BootDir) : Option DirRec :=
  if s.fw.dirs = [] then
    some {
      stA := d.slotA.val, stB := d.slotB.val, streamA := d.streamA.toNat, streamB := d.streamB.toNat,
      active := if d.slotB = 3 || d.slotB = 4 then 1 else 0, minSvn := d.minSvn.toNat, root := d.root, region := d.region.val,
      fmt0 := d.fmt0.toNat, fmt1 := d.fmt1.toNat }
  else (newestDir s.fw.dirs d.bad.toNat).map (fun e => e.2)

/-- The settings regions as the directory gives them (R391, R393, R405): one current, the other kept while the active image is unconfirmed, else
free. -/
def State.takeRegions (s : State) (r : DirRec) : State :=
  let other : Int := if s.rd (Slot.slotState r.active) = 4 then 2 else 0
  let st := fun (k : Nat) => if k = r.region then 1 else other
  ((((s.wr Sett.reg0State (st 0)).wr Sett.reg1State (st 1)).wr Sett.reg0Fmt r.fmt0).wr Sett.reg1Fmt r.fmt1).showFree

/-- The slots, MIN_SVN and the regions of a directory (R383, R390, R402); CONF_LIMIT runs from here (DESIGN CHOICE, log 131). -/
def State.takeDir (s : State) (r : DirRec) (d : BootDir) : State :=
  let s1 := (s.takeSlot 0 r.stA r.streamA r.mapA d.heldA d.hdrA).takeSlot 1 r.stB r.streamB r.mapB d.heldB d.hdrB
  let s2 := ((s1.wr Fw.activeSlot r.active).wr Fw.fwVersion (s1.rd (Slot.version r.active))).wr Upd.minSvn r.minSvn
  let s3 : State := { s2 with fw := { s2.fw with
    dirs := if s.fw.dirs = [] then [(0, r)] else s.fw.dirs, root := r.root, act := { s2.fw.act with confirmAt := s.hclk } } }
  (s3.wr Fw.dlGenImg (s3.rd (Slot.dlGen r.active))).takeRegions r

/-- BOOT_DIRECTORY_READ (S2): 1 ms after XSPI_RST_N. With no valid copy ROOT_MODE and RING are the Lernos default, and no slot holds an image
(DESIGN CHOICE, log 131). The signature store is as Zilari last left it; where it has not written or consumed it, as the directory finds it
(R454). -/
def State.directoryRead (s : State) (d : BootDir) : State :=
  let ok := match s.start.xspiAt with | some t => s.elapsed t 800000 | none => false
  if !ok || s.start.dirRead then s
  else
    let r := (s.dirFound d).getD {}
    let (root, ring) := r.root.getD (dictDefault Node.rootMode = 1, dictDefault Node.ring = 1)
    let s1 := s.setStart { s.start with dirRead := true, part1At := s.hclk }
    let s2 := (s1.takeRole root (root && ring)).takeDir r d
    let valid := s.start.store.getD d.sdValid
    let s3 := if valid then s2.setStart { s2.start with store := some false } else s2
    ((s3.wr St.stForm (if valid then 1 else 0)).wr Sd.sdStored (if valid || s.start.store.isSome then 2 else 0)).wr St.stState 1

/-- BOOT_DIRECTORY_READ. -/
def execBootDirectoryRead (d : BootDir) (s : State) : Host.Outcome State Fault Refusal := done (s.directoryRead d)

/-! ### Tests of the analogue blocks (R449 to R454, R465) -/

/-- The fields of a check word (R451): [23:8] instance, [7:0] outcome. -/
def checkInst (w : Word32) : Nat := getField w.toNat 8 16
def checkOut (w : Word32) : Nat := getField w.toNat 0 8

/-- The rails a check's failure bears on (R452). -/
def State.checkScope (s : State) (b i : Nat) : Nat :=
  match b with
  | 2 => 2 ^ s.rdN (Cd.cdRail i)
  | 3 => 2 ^ s.rdN (Cd.cdRail i)
  | 4 => 2 ^ s.rdN (Cd.cdRail (i / 4))
  | 5 => 2 ^ Config.phRail i
  | _ => 0xFF

/-- The scope of a block's result: empty where its signature is the expected one. -/
def State.blockScope (s : State) (b : Nat) (ws : List Word32) : Nat :=
  let bad := ws.filter (fun w => checkOut w ≠ 0)
  if sigOf ws = Config.bExpect b then 0
  else if bad = [] then 0xFF else bad.foldl (fun m w => m ||| s.checkScope b (checkInst w)) 0

/-- The entries of a block's result (R462). -/
def State.showBlock (s : State) (b : Nat) (ws : List Word32) (short : Bool) (us : Int) : State :=
  let bad := ((ws.filter (fun w => checkOut w ≠ 0)).map checkInst).eraseDups
  (((((s.wr (Blk.bSig b) (sigOf ws).toNat).wr (Blk.bTested b) ((ws.map checkInst).eraseDups).length).wr (Blk.bFails b) bad.length).wr
    (Blk.bFirst b) (bad.headD 0xFFFF)).wr (Blk.bTrim b) (if short then 1 else 0)).wr (Blk.bTime b) us

/-- A DCO relocked at code 64 is sent the code of its domain again (R450). -/
def State.codeAgain (s : State) (c : Nat) : State :=
  if (s.dcu c).target = 64 then s else (s.wr (Cd.ratioOut c) 64).sendNow (satCd c) 0 (s.dcu c).target

/-- The instances of a block that a test touched are re-initialised (R450): their counters return to 0, their DCOs relock. -/
def State.reinitInsts (s : State) (b : Nat) (on : Nat → Bool) : State :=
  let zero := fun (keys : List Nat) (s : State) => forEach keys (fun k s => s.wr k 0) s
  match b with
  | 2 => forEach (cdList.filter on) (fun c s => (zero [Cd.switches c, Cd.swLostCyc c, Cd.dcoLock c] s).codeAgain c) s
  | 3 => forEach (cdList.filter on) (fun c s => zero [Snare.snEdges c, Snare.snLostq c] s) s
  | 4 => forEach (cdList.filter (fun c => (List.range 4).any (fun k => on (4 * c + k)))) (fun c s => zero [Snare.snEdges c, Snare.snLostq c] s) s
  | 5 => forEach ((List.range 96).filter on) (fun p s =>
      zero [Ph.firings p, Ph.ilimHits p, Ph.plausFails p, Ph.tlmDiscards p, Ph.tlmMissed p, Rail.ilimHits (Config.phRail p)] s) s
  | _ => s

/-- A block is re-initialised after its test (R450). -/
def State.reinitBlock (s : State) (b : Nat) : State := s.reinitInsts b (fun _ => true)

/-- Instances of a block after a test that is not the start's: the Snare counters are never cleared after it (R156). -/
def State.reinitAfter (s : State) (b : Nat) (on : Nat → Bool) : State := if b = 3 ∨ b = 4 then s else s.reinitInsts b on

/-- The instances of a block in Z-REF (R449). -/
def blockInsts (b : Nat) : Nat := match b with | 0 => 1 | 1 => 48 | 2 => 64 | 3 => 64 | 4 => 256 | 5 => 96 | _ => 0

/-- Whether a block has trims: the converter, the front ends and the modulators (R450). -/
def hasTrims (b : Nat) : Bool := b = 0 || b = 1 || b = 5

/-- The trim of an instance as its test settles it (R449, R450): the short form confirms the stored one; the full form searches it, and what it
finds, like a stored trim that Zilari has not written, is a free value (log 134). -/
def State.settleTrim (s : State) (b i : Nat) (short : Bool) : State :=
  let k := b * 65536 + i
  let v := match (if short then s.start.storedTrims.find? (fun e => e.1 = k) else none) with
    | some e => e.2
    | none => s.freeVal 222
  (s.setStart { s.start with trims := tabPut s.start.trims k v }).useFree

/-- The trims of the instances that a test touched. -/
def State.settleTrims (s : State) (b : Nat) (on : Nat → Bool) (short : Bool) : State :=
  if hasTrims b then forEach ((List.range (blockInsts b)).filter on) (fun i s => s.settleTrim b i short) s else s

/-- The signature and the scope that the native test gives a block (R451, R452): until its retry both stand. -/
def State.setScope (s : State) (b scope sig : Nat) : State :=
  let l := tabPut s.start.scopes b scope
  s.setStart { s.start with scopes := l, failScope := l.foldl (fun m e => m ||| e.2) 0, sigs := tabPut s.start.sigs b sig }

/-- One block of the native test: its entries, its trims, ST_FAILED and ST_FIRST_FAIL, the scope of its failure. How the time of a part divides
among its blocks is open. -/
def State.nativeBlock (s : State) (b : Nat) (ws : List Word32) : State :=
  let scope := s.blockScope b ws
  let short := s.rd St.stForm = 1 && s.rd St.stState = 1
  let s0 := ((s.showBlock b ws short (s.freeVal 214 % 2 ^ 32)).useFree.reinitBlock b).settleTrims b (fun _ => true) short
  let s1 := s0.setScope b scope (sigOf ws).toNat
  if scope = 0 then s1
  else
    let s2 := s1.wr St.stFailed (putBit (s1.rdN St.stFailed) b true)
    match ws.find? (fun w => checkOut w ≠ 0) with
    | some w => if s2.rd St.stFirstFail = 0 then s2.wr St.stFirstFail w.toNat else s2
    | none => s2

/-- The blocks of a part that run: all, or in a retry those that failed (R453); all again where no block failed and only ST_SIG differed
(log 136). -/
def State.runBlocks (s : State) (l : List (Nat × List Word32)) : State :=
  let failed := s.rdN St.stFailed
  let again := l.filter (fun e => failed.testBit e.1)
  let run := if s.rd St.stState = 4 && !again.isEmpty then again else l
  let s1 := s.wr St.stFailed (run.foldl (fun m e => putBit m e.1 false) failed : Nat)
  forEach run (fun e s => s.nativeBlock e.1 e.2) s1

/-- The processors boot one at a time after S6 (R443); not in BLANK (R455). -/
def State.bootFirst (s : State) : State := if s.rd Lc.lcState = 0 then s else s.nextBoot

/-- Whether the Custodian, the Steward and the Budget run. -/
def State.bootsDone (s : State) : Bool := [3, 0, 1].all (fun k => s.rd (Fp.fpState k) = 2)

/-- The native test is complete (R445, R451, R453): ST_SIG from the blocks' signatures, compared with ST_EXPECT; ST_RESULT, cause 13; the
start goes on or is held. -/
def State.testDone (s : State) : State :=
  let retry := s.rd St.stState = 4
  let sig := sigOf ((List.range 6).map (fun b => BitVec.ofNat 32 (tabGet (fun _ => 0) s.start.sigs b)))
  let pass := s.rd St.stFailed = 0 && sig.toNat = s.rdN St.stExpect
  let us := usOf 142 (s.hclk - s.start.part1At)
  let s1 := (((s.wr St.stSig sig.toNat).wr St.stTime us).wr St.stState (if pass then 2 else 3)).record 0 0x0904 (s.rd St.stFailed) sig.toNat us
  let s2 := s1.cause 13
  if s.rd Lc.lcState = 0 then s2.startFail 7 0
  else if pass then
    let s3 := ((s2.setStart { s2.start with failScope := 0, scopes := [] }).wr Start.failCause 0).wr Start.failDetail 0
    let s4 := s3.record 0 0x0901 (s3.rd Lc.lcState) (s3.rd St.stForm) (s3.rd Clk.oscTries)
    if s4.bootsDone && s4.start.settingsDone then s4.enterSupply
    else when (s4.fpMask 0 = 15) (fun s => s.bootFirst) (s4.wr Start.startState 1)
  else
    let b := ((List.range 6).find? (fun b => s.bit St.stFailed b)).getD 0
    when (!retry) (fun s => s.bootFirst) (when (!retry || s.rd Start.startState = 0) (fun s => s.startFail 2 b) s2)

/-- A part is complete; the test is once both are. -/
def State.partDone (s : State) : State := if s.start.part1Done && s.start.part2Done then s.testDone else s

/-- Whether a part of the native test may complete. -/
def State.testing (s : State) : Bool := s.start.dirRead && (s.rd St.stState = 1 || s.rd St.stState = 4)

/-- SELFTEST_PART1_DONE (R449): on a pass the sequencer starts and Gong is armed (S4). -/
def State.part1 (s : State) (conv diode : List Word32) : State :=
  if !s.testing || s.start.part1Done then s
  else
    let s1 := s.runBlocks [(0, conv), (1, diode)]
    let good := !s1.bit St.stFailed 0 && !s1.bit St.stFailed 1
    let at_ := if s1.hk.running || !good then s1.hk.startAt else s1.slotFrom s1.hclk
    let s2 : State := { s1 with
      hk := { s1.hk with running := good || s1.hk.running, startAt := at_ }, start := { s1.start with part1Done := true } }
    s2.driveDcos.partDone

/-- SELFTEST_PART1_DONE. -/
def execSelftestPart1Done (conv diode : List Word32) (s : State) : Host.Outcome State Fault Refusal := done (s.part1 conv diode)

/-- LOST_MGMT of a reset with a rail on (R41, R448): up to the end of S6, added to the restored entries. -/
def State.lastRun (s : State) (r : LastRun) : State :=
  let at_ := fun (i : Nat) => ((r.lost.getD i 0).toNat : Int)
  let s0 := ((((s.wr Lost.lostTotal (at_ 0)).wr Lost.lostIntervals (at_ 1)).wr Lost.lastStart (at_ 2)).wr Lost.lastLength
    (at_ 3)).wr Lost.yearWindow (at_ 4)
  let s1 : State := { s0 with hub := { s0.hub with lostLog := [(s0.beat, (at_ 4).toNat)] } }
  if !r.runBeginNewer then s1
  else
    let n := divCeil (s.hclk - s.start.hubAt : Nat) 800
    (s1.addLost 0 n.toNat).record 0 0x0108 n (r.lastBeat.toNat % 2 ^ 32 : Nat) (3 * 256 + 0xFF)

/-- SELFTEST_PART2_DONE (R448, R451): after S5 and part 1. -/
def State.part2 (s : State) (l : List (Nat × List Word32)) (run : LastRun) : State :=
  if !s.testing || !s.start.part1Done || !s.start.dcusUp || s.start.part2Done then s
  else
    let s0 := if s.rd St.stState = 1 then s.lastRun run else s
    let s1 := s0.runBlocks l
    (s1.setStart { s1.start with part2Done := true }).partDone

/-- SELFTEST_PART2_DONE. -/
def execSelftestPart2Done (dco stretch snare modSense : List Word32) (run : LastRun) (s : State) : Host.Outcome State Fault Refusal :=
  done (s.part2 [(2, dco), (3, stretch), (4, snare), (5, modSense)] run)

/-- Whether the failed blocks may run again (R453, R461): after a failure, 3 times, with every rail in their scope OFF. -/
def State.retryOk (s : State) : Bool :=
  s.rd St.stState = 3 && decide (s.start.retries < 3) && !railList.any (fun n => s.start.failScope.testBit n && s.railState n ≠ 0)

/-- ST_RETRY (R453, R461): the failed blocks again, or every block where none failed (log 136); their scopes keep their rails off until they
have run (R452). -/
def State.stRetry (s : State) (x : Nat) : State :=
  let f := s.rdN St.stFailed
  if !s.retryOk then s.reject St.stRetry x
  else
    let p1 := f = 0 || f.testBit 0 || f.testBit 1
    let p2 := f = 0 || f / 4 ≠ 0
    ((s.setStart { s.start with
      retries := s.start.retries + 1, part1Done := !p1, part2Done := !p2 }).wr St.stRetry (s.start.retries + 1)).wr St.stState 4 |>.driveDcos

/-- ST_RETRY. -/
def execStRetry (s : State) : Host.Outcome State Fault Refusal := done (s.hostRow (fun s => s.stRetry 0))

/-- SD_CTRL 1 (R454, R460). -/
def State.sdCtrlRun (s : State) (x : Nat) : State := if s.allOff && s.rd Sd.sdCtrl ≠ 1 then s.sdStart else s.reject Sd.sdCtrl x

/-- SD_CTRL_RUN. -/
def execSdCtrlRun (s : State) : Host.Outcome State Fault Refusal := done (s.hostRow (fun s => s.sdCtrlRun 0))

/-- The bytes of the signature store (R454): the settled trims, the signature, SERIAL and CONFIG_HASH with a CRC-32C;
the form and the place in the first 1 MB of the NOR are the model's choice (DESIGN CHOICE, log 129). -/
def State.storeBytes (s : State) : List Byte :=
  let b := s.start.trims.flatMap (fun e => leBytes 4 (e.2 % 2 ^ 32).toNat) ++ leBytes 4 (s.rdN Sd.sdSig) ++ leBytes 8 (s.rdN Ident.serial)
    ++ leBytes 8 (s.rdN Ident.configHash)
  b ++ leBytes 4 (crc32c b).toNat

/-- The signature store is written (R75, R454). -/
def State.storeWritten (s : State) : State :=
  ((s.setStart { s.start with sdStore := false, store := some true, storedTrims := s.start.trims }).wr Sd.sdStored 1).norProgram 0xFF000 s.storeBytes

/-- SD_TEST_DONE (R454): a pass is written to the signature store, after an inhibit where one stands. -/
def State.sdDone (s : State) (checks : List (List Word32)) : State :=
  if s.rd Sd.sdCtrl ≠ 1 then s
  else
    let l := checks.zipIdx.map (fun e => (e.2, e.1))
    let us := usOf 143 (s.hclk - s.start.sdAt)
    let bad := l.foldl (fun m e => if sigOf e.2 = Config.bExpect e.1 then m else putBit m e.1 true) 0
    let sig := sigOf (l.map (fun e => sigOf e.2))
    let s1 := forEach l (fun e s => (s.showBlock e.1 e.2 false (s.freeVal 214 % 2 ^ 32)).useFree.reinitAfter e.1 (fun _ => true)
      |>.settleTrims e.1 (fun _ => true) false) s
    let s2 := (((s1.wr Sd.sdFailed bad).wr Sd.sdSig sig.toNat).wr Sd.sdBeat s.beat).wr Sd.sdTime us
    let s3 := ((s2.cmdDone Sd.sdCtrl (if bad = 0 then 2 else 3)).record 0 0x0905 bad sig.toNat us).cause 13
    if bad ≠ 0 then s3
    else if s.chest.inhibitAt.isSome then s3.setStart { s3.start with sdStore := true }
    else s3.storeWritten

/-- SD_TEST_DONE. -/
def execSdTestDone (checks : List (List Word32)) (s : State) : Host.Outcome State Fault Refusal := done (s.sdDone checks)

/-- AE_CTRL (R465). -/
def State.aeCtrl (s : State) (v x : Nat) : State :=
  let b := getField v 16 8
  let i := getField v 0 16
  let insts := if i = 0xFFFF then List.range (blockInsts b) else [i]
  let scope := insts.foldl (fun m j => m ||| s.checkScope b j) 0
  if getField v 24 8 ≠ 0 || decide (5 < b) || (i ≠ 0xFFFF && decide (blockInsts b ≤ i)) || s.start.aeRun.isSome
      || railList.any (fun n => scope.testBit n && s.railState n ≠ 0) then (s.reject Ae.aeCtrl x).wr Ae.aeCtrl 3
  else ((s.setStart { s.start with aeRun := some (b, s.rdN Ae.aeRepeat, s.hclk), aeInst := i }).wr Ae.aeCtrl 1).driveDcos

/-- AE_CTRL_RUN: ACCESS outside MANUFACTURE and RETURNED. -/
def execAeCtrlRun (v : Word32) (s : State) : Host.Outcome State Fault Refusal := done (s.hostRow (fun s => if s.engineOpen then s.aeCtrl v.toNat 0 else s))

/-- AE_RUN_DONE (R465): AE_REPEAT runs end the command. -/
def State.aeDone (s : State) (checks : List Word32) : State :=
  match s.start.aeRun with
  | none => s
  | some (b, n, at_) =>
    let on := fun (j : Nat) => s.start.aeInst = 0xFFFF || s.start.aeInst = j
    let s1 := (((s.showBlock b checks false (usOf 144 (s.hclk - at_))).reinitAfter b on).settleTrims b on false).bump Ae.aeRuns
    if n ≤ 1 then (s1.setStart { s1.start with aeRun := none }).cmdDone Ae.aeCtrl 2
    else s1.setStart { s1.start with aeRun := some (b, n - 1, s.hclk) }

/-- AE_RUN_DONE. -/
def execAeRunDone (checks : List Word32) (s : State) : Host.Outcome State Fault Refusal := done (s.aeDone checks)

/-! ### Clocks of the start (R45, R183, R216) -/

/-- OSC_SETTLE_ELAPSED (R45, R183): 0.25 ms × 2^code. -/
def execOscSettleElapsed (s : State) : Host.Outcome State Fault Refusal :=
  done (if s.start.s0 && !s.start.counting && !s.start.dcusUp && decide (s.rd Clk.oscTries < 8)
      && s.elapsed s.start.settleAt (200000 * 2 ^ s.rdN Clk.oscSettle) then
    s.setStart { s.start with counting := true, settleAt := s.hclk } else s)

/-- XCLK_COUNT_DONE (R183, R444): 124 to 132 edges over 4,096 HCLK; eight tries. -/
def State.xclkCount (s : State) (count : Nat) : State :=
  if !s.start.counting || !s.elapsed s.start.settleAt 4096 then s
  else
    let s1 := (s.setStart { s.start with counting := false, settleAt := s.hclk }).bump Clk.oscTries
    if 124 ≤ count && count ≤ 132 then
      ({ s1 with start := { s1.start with dcusUp := true }, clk := { s1.clk with xclkLive := true, xclkOk := true } }).wr Clk.refSrc 1
    else if s1.rd Clk.oscTries < 8 then s1
    else (s1.record 0 0x030A (s1.rd Clk.oscTries) count 0).startFail 1 0

/-- XCLK_COUNT_DONE. -/
def execXclkCountDone (count : BitVec 16) (s : State) : Host.Outcome State Fault Refusal := done (s.xclkCount count.toNat)

/-! ### Settings, supply and rails (R443 to R446) -/

/-- A value of the settings store is applied (R393, R443): an RWS sub takes it; an F_TABLE starts a
relock (R189), HB_PERIOD its timer (R423); the derates only rise (R248); the coefficients reach the applied copy. -/
def State.applySaved (s : State) (key : Nat) (v : Nat) : State :=
  match rowOf key with
  | some (_, d) =>
    if d.acc = .rws then
      let s0 := s.take key (reduceTo d.ty v)
      let s1 := if (List.range 64).any (fun c => key = Cd.fTable c) then s0.relock (key / 256 - 0x3000) else s0
      let n := key / 256 - 0x4000
      if key = Hang.hbPeriod then { s1 with hang := { s1.hang with kickAt := s1.hclk, missed := false } }
      else if 0x4000 ≤ key / 256 && key / 256 < 0x4008 && 0x40 ≤ key % 256 then
        s1.setLoop n { s1.loop n with coef := tabPut (s1.loop n).coef (key % 256 - 0x40) (s1.rd key) } else s1
    else if (List.range 8).any (fun k => key = OpTab.ageDerate k) then
      s.wr key ((List.range 8).foldl (fun w j => putField w (8 * j) 8 (max (getField (s.rdN key) (8 * j) 8) (getField v (8 * j) 8))) 0 : Nat)
    else s
  | none => s

/-- The current region as the start finds it (R393): as Zilari last left it; where it has not written it, the records read, TYPE 1, then 3, then
2, and how much of it is written is open. -/
def State.findRegion (s : State) (r : StoreRead) : Region :=
  if s.start.erased then {}
  else match s.fw.regions.find? (fun e => e.1 = s.currentRegion) with
    | some e => e.2
    | none =>
      let v0 : Region := { pos := sectorSize * (s.freeVal 212 % 384).toNat }
      let v1 := r.vals.foldl (fun v e => v.put 1 (e.1.toNat % 256) (e.1.toNat / 256) (leBytes 8 e.2.toNat)) v0
      let v2 := r.gone.foldl (fun v k => v.put 3 (k.toNat % 256) (k.toNat / 256) []) v1
      r.blobs.foldl (fun v e => v.put 2 0 e.1.toNat e.2) v2

/-- The current region is read (R393): a bad sector is recorded and skipped, so that the previous record of each of its entries stands. -/
def State.loadRegion (s : State) (r : StoreRead) : State :=
  let c := s.currentRegion
  let v := s.findRegion r
  let hit := r.bad.filter (fun k => v.recs.any (fun e => e.at_ / sectorSize % 512 = k.toNat))
  let good := v.recs.filter (fun e => !hit.any (fun k => e.at_ / sectorSize % 512 = k.toNat))
  forEach hit (fun k s => s.settingsErr c k.toNat 1) ((s.setRegion c { v with recs := good }).useFree)

/-- The RWS subs that hold another value than the default and that the store does not save (R443): ROOT_MODE and RING are saved in the
directory (R298). -/
def State.unsaved (s : State) (v : Region) : List Nat :=
  (s.dict.map (fun e => e.1)).filter (fun key =>
    accOf (key / 256) (key % 256) = .rws && !(match v.find (key / 256) (key % 256) with | some e => e.ty = 1 | none => false)
      && !(s.fw.root.isSome && (key = Node.rootMode || key = Node.ring)))

/-- The settings store is applied (R393, R443): each saved value and profile, and the TABLES default of each entry not saved. -/
def State.applyStore (s : State) : State :=
  let v := s.region s.currentRegion
  let s1 := forEach (s.unsaved v) (fun key s => s.applySaved key (dictDefault key % 2 ^ 64).toNat) s
  forEach v.live (fun e s =>
    if e.ty = 1 then s.applySaved (e.idx * 256 + e.sub) (leNat e.data)
    else if e.ty = 2 && decide (0x6200 ≤ e.idx) && decide (e.idx < 0x6300) then
      forEach (List.range 128) (fun w s => s.setBlobWord e.idx w (leNat ((e.data.drop (8 * w)).take 8))) s
    else s) s1

/-- GEN_OFFER as saved is what is asked for; it reads no higher than the generation of the image that the Drumline runs (R392). -/
def State.offerSaved (s : State) : State :=
  let s1 := s.wr Fw.genOfferReq (s.rd Node.genOffer)
  if s.fpRuns 2 then s1.wr Node.genOffer (min (s.rd Node.genOffer) (s.rd Fw.dlGenImg)) else s1

/-- START_SETTINGS_APPLY (S8): once the Custodian, the Steward and the Budget run; a derate that has fallen due is made (R248), and FMAX_EFF is
written anew. -/
def State.settingsApply (s : State) (r : StoreRead) : State :=
  let held := s.rd Start.startState = 6 && s.rd Start.failCause = 2
  if s.start.settingsDone || !s.bootsDone || !(s.rd Start.startState = 1 || held) then s
  else
    let s1 := (s.loadRegion r).applyStore.offerSaved
    let s2 := forEach cdList (fun c s => s.wr (Cd.minCode c) (divCeil 3200 (s.rd (Cd.fTable c)))) s1
    let s3 := (if s2.ageDue then s2.ageAll r.slow else s2).fmaxRewrite
    let s4 := (s3.setStart { s3.start with settingsDone := true }).refreshAll
    if held then s4 else s4.enterSupply

/-- START_SETTINGS_APPLY. -/
def execStartSettingsApply (r : StoreRead) (s : State) : Host.Outcome State Fault Refusal := done (s.settingsApply r)

/-- Whether S9 and S10 run for the rails outside a failed test's scope (R452). -/
def State.partialStart (s : State) : Bool :=
  s.rd Start.startState = 6 && s.rd Start.failCause = 2 && s.rd St.stPartial = 1 && s.start.settingsDone && s.start.failScope ≠ 0xFF

/-- IBC_START (S9, R148). -/
def execIbcStart (ack : Bool) (s : State) : Host.Outcome State Fault Refusal :=
  done (if (s.rd Start.startState = 2 || s.partialStart) && !s.inhibitHere && s.start.ibcAt.isNone then
    (if s.start.gongRestart && s.ibc.on then s else s.ibcOperation true ack).setStart { s.start with ibcAt := some s.hclk } else s)

/-- VBUS has stood at or above BUS_UV for 1 ms (R443); of a Gong restart, which leaves the converter on, it is above (R445). -/
def State.busStood (s : State) : Bool := match s.ibc.busOkAt with | some t => s.start.gongRestart || s.elapsed t 800000 | none => false

/-- IBC_READY (R443, R445): RAILS. -/
def execIbcReady (s : State) : Host.Outcome State Fault Refusal :=
  let s1 := s.setStart { s.start with busOk := true }
  done (if s.start.ibcAt.isNone || s.start.busOk || !s.busStood then s
    else if s.rd Start.startState = 2 then s1.wr Start.startState 3
    else if s.rd Start.startState = 7 && s.start.pausedFrom = 2 then s1.setStart { s1.start with pausedFrom := 3 }
    else if s.partialStart then s1 else s)

/-- IBC_WAIT_TIMEOUT (R444): S9 is in progress, a pause or not. -/
def execIbcWaitTimeout (s : State) : Host.Outcome State Fault Refusal :=
  done (match s.start.ibcAt with
    | some t =>
      if (s.rd Start.startState = 2 || (s.rd Start.startState = 7 && s.start.pausedFrom = 2)) && s.elapsed t (800000 * s.rdN Start.ibcWait) then
        s.startFail 4 0 else s
    | none => s)

/-- START_NEXT_RAIL (S10): the next rail of the order that is OFF, START_GAP after the one before it reached REGULATE or SHED. -/
def State.nextRail (s : State) : State :=
  let l := s.startRails.filter (fun n => !s.partialStart || !s.start.failScope.testBit n)
  let before := l.takeWhile (fun n => s.regulating n)
  if !(s.rd Start.startState = 3 || (s.partialStart && s.start.busOk)) || s.inhibitHere || s.rung1 then s
  else match l.drop before.length with
    | [] => s
    | n :: _ =>
      let gap := match before.getLast? with
        | some p => s.elapsed (s.rail p).upAt (800 * s.rdN Start.startGap)
        | none => true
      if s.railState n = 0 && gap then s.railOn n 0 else s

/-- START_NEXT_RAIL. -/
def execStartNextRail (s : State) : Host.Outcome State Fault Refusal := done s.nextRail

/-- CD_RST_N rises (R445): START_DONE; Gong leaves RESTARTING. -/
def State.release (s : State) : State :=
  let us := usOf 145 (s.hclk - s.start.porAt)
  let s1 := ((s.setStart { s.start with released := true, gongRestart := false, readyAt := none }).wr Start.startState 5).wr Start.tRelease us
  let s2 := if s.rd Gong.gongState = 4 then s1.wr Gong.gongState 0 else s1
  s2.record 0 0x0902 us (railMask (fun n => s.startRails.contains n)) (s.rd Start.pausedUs)

/-- START_RELEASE (R443, R445): RELEASE_DELAY after S11 begins. -/
def execStartRelease (s : State) : Host.Outcome State Fault Refusal :=
  done (match s.start.readyAt with
    | some t =>
      if s.rd Start.startState = 4 && s.rd Start.startAuto = 1 && s.elapsed t (800 * s.rdN Start.releaseDelay) then s.release else s
    | none => s)

/-- START_CTRL is rejected: it reads 2. -/
def State.rejectStart (s : State) (x : Nat) : State := (s.reject Start.startCtrl x).wr Start.startCtrl 2

/-- START_CTRL 1 (R445, R463): RELEASE in READY, with the Chest scan complete. -/
def State.startRelease (s : State) (x : Nat) : State :=
  if s.rd Start.startState = 4 && s.start.readyAt.isSome then s.release.cmdDone Start.startCtrl 1 else s.rejectStart x

/-- START_CTRL_RELEASE. -/
def execStartCtrlRelease (s : State) : Host.Outcome State Fault Refusal := done (s.hostRow (fun s => s.startRelease 0))

/-- S7 again (R443, R444): the next processor that has not booted; S9 where S8 is done. -/
def State.retryBoot (s : State) : State :=
  if s.start.settingsDone then s.enterSupply else (s.wr Start.startState 1).bootOn

/-- Whether ST_RETRY runs the failed blocks in this HCLK: it wins over START_CTRL RETRY, whose step it is (R459). -/
def State.retryHere (s : State) : Bool :=
  s.rd St.stState = 4 || (s.retryOk && s.comes (fun i => match i with | .stRetry => true | _ => false))

/-- START_CTRL 2 (R444, R445): RETRY in HELD repeats the failed step, once the cause has been removed; SUPPLY and RAILS are PAUSED while an
inhibit stands (R446, R459). -/
def State.startRetry (s : State) (x : Nat) : State :=
  let go := fun (st : Int) (s : State) =>
    when s.chest.inhibitAt.isSome (fun s => s.pauseStart)
      ((((s.wr Start.startState st).wr Start.failCause 0).wr Start.failDetail 0).cmdDone Start.startCtrl 1)
  if s.rd Start.startState ≠ 6 then s.rejectStart x
  else match s.rd Start.failCause with
    | 1 => go 0 ((s.setStart { s.start with settleAt := s.hclk, counting := false }).wr Clk.oscTries 0)
    | 2 => if s.retryHere then go 0 s else if s.retryOk then go 0 (s.stRetry x) else s.rejectStart x
    | 3 => if [3, 0, 1].any (fun k => s.rd (Fp.fpState k) = 5) then s.rejectStart x else (go 1 s).retryBoot
    | 4 => go 2 (s.setStart { s.start with ibcAt := none })
    | 5 => if s.startRails.any (fun n => s.railState n = 5) then s.rejectStart x else go 3 s
    | 6 =>
      let s1 := when (s.start.heldFrom = 2) (fun s => s.setStart { s.start with ibcAt := none }) (s.wr Start.pausedUs 0)
      go s.start.heldFrom s1
    | _ => s.rejectStart x

/-- START_CTRL_RETRY. -/
def execStartCtrlRetry (s : State) : Host.Outcome State Fault Refusal := done (s.hostRow (fun s => s.startRetry 0))

/-- BROWNOUT_TIMEOUT (R444, R446). -/
def execBrownoutTimeout (s : State) : Host.Outcome State Fault Refusal :=
  done (if s.rd Start.startState = 7 && decide (1000 * s.rd Start.brownoutLimit < s.rd Start.pausedUs + s.pauseUs) then s.startFail 6 0 else s)

/-! ### The write inhibit (R421, R422) -/

/-- NVM_INHIBIT_BEGIN (R421, R445). -/
def State.inhibitBegin (s : State) : State :=
  if s.chest.inhibitAt.isSome then s
  else
    let s1 : State := { s with
      chest := { s.chest with inhibitAt := some s.hclk, inhibitStamp := s.stamp, tail := s.chest.scanned && s.chest.queue ≠ [] }
      ibc := { s.ibc with vinMin := if s.ibc.vin.length < 4 then none else some s.vinSum }
      fw := { s.fw with tail := s.fw.program ≠ [], saveTail := s.fpRuns 3 && s.saveDue } }
    (((s1.showChest.wr Chest.inhibitSince s.beat).bump Chest.inhibits).cause 12).pauseStart

/-- NVM_INHIBIT_BEGIN. -/
def execNvmInhibitBegin (s : State) : Host.Outcome State Fault Refusal := done s.inhibitBegin

/-- A pause ends with its inhibit (R445, R446, R458): BROWNOUT_PAUSE; pauses over the limit fail the start. -/
def State.pauseEnd (s : State) (minVaon : Nat) : State :=
  if s.rd Start.startState ≠ 7 then s
  else
    let us := s.pauseUs
    let s1 := s.record 0 0x090A (7 + s.start.pausedFrom : Nat) minVaon us
    if 1000 * s.rd Start.brownoutLimit < s.rd Start.pausedUs + us then s1.startFail 6 0
    else (s1.bump Start.pausedUs us).wr Start.startState s.start.pausedFrom

/-- Whether VIN_SENSE has been at or above 0.860 V for 2 ms (R78, R422). -/
def State.vinOk (s : State) : Bool :=
  !s.ibc.vinLow && (match s.ibc.vinUnder with | some t => s.elapsed t 1600000 | none => true)

/-- The lowest VIN of an inhibit (R422): the lowest mean that the monitor compared, through the nominal divider; where the monitor holds no
four samples, the one the command carries. -/
def State.dipVin (s : State) (minVin : Nat) : Int := match s.ibc.vinMin with | some v => divOpen 149 (v * 50) 64 | none => minVin

/-- NVM_INHIBIT_END (R422): 2 ms at least, VIN_SENSE among the supplies that are back; NVM_DIP carries the beat time of the inhibit's
start. -/
def State.inhibitEnd (s : State) (minVaon minVin : Nat) : State :=
  match s.chest.inhibitAt with
  | none => s
  | some t =>
    if !s.elapsed t 1600000 || !s.vinOk then s
    else
      let us := usOf 148 (s.hclk - t)
      let s1 : State := { s with chest := { s.chest with inhibitAt := none, tail := false }, fw := { s.fw with tail := false, saveTail := false } }
      let s2 := (((s1.wr Chest.lastDipVaon minVaon).wr Chest.lastDipVin (s.dipVin minVin)).wr Chest.lastDipUs us).wr Chest.inhibitSince 0
      let s3 := ((s2.recordAt s.chest.inhibitStamp false 0 0x0801 minVaon (s.dipVin minVin) us).showChest.cause 12).pauseEnd minVaon
      if s3.start.sdStore then s3.storeWritten else s3

/-- NVM_INHIBIT_END. -/
def execNvmInhibitEnd (minVaon : BitVec 16) (minVin : Word32) (s : State) : Host.Outcome State Fault Refusal :=
  done (s.inhibitEnd minVaon.toNat minVin.toNat)

/-! ### Life cycle (R455 to R457) -/

/-- Whether a transition is listed (R456). -/
def lcListed (from_ to_ : Nat) : Bool := [(0, 1), (1, 2), (2, 3), (2, 4), (3, 4)].contains (from_, to_)

/-- The committed content of B040, 512 bytes. -/
def State.authBytes (s : State) : List Byte := (List.range 64).flatMap (fun w => leBytes 8 (s.blobWord 0xB040 w))

/-- The reason a request is refused for, 0 where it is accepted (R456, R457): 1 not permitted, 2 signature, 3 serial, 4 nonce,
5 keys absent. -/
def State.lcReason (s : State) (v : Nat) : Nat :=
  let b := s.authBytes
  let key := hdrField b 24 1
  let pub := (b.drop 128).take 96
  let zero := fun (l : List Byte) => l.all (fun x => x = 0)
  if !lcListed (s.rdN Lc.lcState) v || s.rd Lc.lcFusesLeft = 0 then 1
  else if v = 1 then (if s.rdN KeyLad.keyStatus % 4 = 3 then 0 else 5)
  else if hdrField b 0 1 ≠ v then 1
  else if hdrField b 8 8 ≠ s.rdN Ident.serial then 3
  else if hdrField b 16 8 ≠ s.rdN LcAuth.lcNonce then 4
  else if !zero ((b.drop 1).take 7) || !zero ((b.drop 25).take 7) || !zero (b.drop 416) || decide (31 < key) || s.bit KeyLad.revoked key
      || !rootSigns ((b.drop 320).take 96) pub ((b.drop 224).take 96) key || !Config.ecdsaVerify pub (b.take 24) ((b.drop 32).take 96) then 2
  else 0

/-- A refusal (R458): LC_REFUSED, LC_REFUSE, LC_REQUEST reads 3. -/
def State.lcRefused (s : State) (v why : Nat) : State := ((s.wr LcAuth.lcRefuse why).wr Lc.lcRequest 3).record 0 0x0909 v why 0

/-- LC_REQUEST (R456, R457): LC_NONCE is drawn anew after each. -/
def State.lcRequestWrite (s : State) (v x : Nat) : State :=
  let why := if s.start.lcPending.isSome || s.start.lcNext.isSome then max 1 (s.lcReason v) else s.lcReason v
  let s1 := (s.wr LcAuth.lcNonce (s.freeVal 140 % 2 ^ 64)).useFree
  if why ≠ 0 then (s1.reject Lc.lcRequest x).lcRefused v why
  else (s1.setStart { s1.start with lcPending := some v }).wr Lc.lcRequest 1

/-- LC_REQUEST. -/
def execLcRequest (v : Byte) (s : State) : Host.Outcome State Fault Refusal := done (s.hostRow (fun s => s.lcRequestWrite v.toNat 0))

/-- LC_FUSE_BLOW (R456): once no inhibit stands; the new state takes effect at the next POR_N. -/
def execLcFuseBlow (good : Bool) (s : State) : Host.Outcome State Fault Refusal :=
  done (match s.start.lcPending with
    | none => s
    | some v =>
      if s.chest.inhibitAt.isSome then s
      else
        let s1 := s.setStart { s.start with lcPending := none }
        if !good then s1.lcRefused v 6
        else
          let s2 := (s1.setStart { s1.start with lcNext := some v }).bump Lc.lcFusesLeft (-1)
          (s2.cmdDone Lc.lcRequest 2).record 0 0x0908 (s.rd Lc.lcState) v (s2.rd Lc.lcFusesLeft))

end Sys2Proof.Machine
end

