-- ==== Sys2Proof/Machine/Content.lean ====
section
/-! DEFINITION. What the BLOBs of the dictionary show (R93 to R95): their content, the cursors and the staged words of each
transport, and a commit with its checks. -/

namespace Sys2Proof.Machine

/-- The bits of a signed value in w bytes. -/
def signedBits (w : Nat) (v : Int) : Nat := (v % 2 ^ (8 * w)).toNat

/-- A value in an unsigned field of w bits; open where it does not fit (log 8). -/
def fieldBits (key w : Nat) (v : Int) : Nat :=
  if 0 ≤ v ∧ v < 2 ^ w then v.toNat else (Config.unrepresentable key v % 2 ^ w).toNat

/-- The live word of a partition's estimate (R294): HOT, F, PW of the last interval in 10 mW, flags. -/
def State.hotWord (s : State) (p : Nat) : Nat :=
  let a := s.ktAnchor p
  let pw := divOpen 152 (tabGet (fun _ => 0) s.hk.pw p * 50000000) (2 ^ 24)
  let flags := (if s.hk.openLoop.contains a then 1 else 0) + (if s.rd (Part.thermCeilMw p) ≠ 0xFFFFFFFF then 2 else 0)
    + (if s.hk.missLast.contains a then 4 else 0)
  signedBits 2 (divOpen 150 (s.hot p) 256) + signedBits 2 (divOpen 151 (tabGet (fun _ => 0) s.hk.f p) 256) * 2 ^ 16
    + fieldBits (Kettle.window p) 16 pw * 2 ^ 32 + flags * 2 ^ 48

/-- The live word of a diode's state (R294): S, RESID, MISS. -/
def State.diodeWord (s : State) (d : Nat) : Nat :=
  signedBits 2 (divOpen 153 (s.ktS d) 256) + signedBits 2 (divOpen 154 (tabGet (fun _ => 0) s.hk.resid d) 256) * 2 ^ 16
    + fieldBits (Kettle.window d) 32 (tabGet (fun _ => 0) s.hk.miss d) * 2 ^ 32

/-- A word of 5080 (R294): parameters, zeros, the live part. -/
def State.kettleWord (s : State) (w : Nat) : Nat :=
  if w < 288 then s.blobWord 0x5080 w
  else if w < 512 then 0
  else if w < 640 then s.hotWord (w - 512) else if w < 672 then s.diodeWord (w - 640) else 0

/-- A word of a phase ID's profiles (R271): while the count is 0, D reads PT_DEFAULT_MW. -/
def State.profileWord (s : State) (q p : Nat) : Nat := s.learnD q p + (s.blobWord (0x6200 + q) p / 2 ^ 32) * 2 ^ 32

/-- A word of a trace (R235): two channels of a sample. -/
def State.traceWord (s : State) (n w : Nat) : Nat :=
  if s.rd (Trace.length n) = 0 then 0
  else
    let c := fun k => signedBits 4 (((s.loop n).traceFrozen.getD (w / 4) []).getD (2 * (w % 4) + k) 0)
    c 0 + c 1 * 2 ^ 32

/-- A word of a shelf (R411). -/
def State.shelfWord (s : State) (u w : Nat) : Nat :=
  match tabGet (fun _ => none) (s.shelf.slots.map (fun e => (e.1, some e.2))) (u * 64 + w / 4) with
  | some r => leNat ((r.bytes.drop (8 * (w % 4))).take 8)
  | none => 0

/-- A word of a processor's log (R375): two to the record, 0 where none has been written. -/
def State.logWord (s : State) (k w : Nat) : Nat :=
  match (s.fp k).log.find? (fun e => e.1 = w / 2) with
  | none => 0
  | some (_, e) =>
    if w % 2 = 0 then e.beat + (e.cls * 2 ^ 10 + e.tick) * 2 ^ 48 else e.point + e.a0 * 2 ^ 16 + e.a1 * 2 ^ 32

/-- A word of the applied content of a BLOB, as a transport sees it (R93, R404, R420). -/
def State.content (s : State) (x idx w : Nat) : Nat :=
  let cur := tabGet (fun _ => 0) s.host.cursors (x * 65536 + idx) / 8
  if idx = 0x5080 then s.kettleWord w
  else if idx = 0x6010 || idx = 0xB040 then s.blobWord idx w
  else if idx = 0x9034 then s.heldMap s.inactive / 2 ^ (64 * w) % 2 ^ 64
  else if idx = 0xA011 then leNat (((tabGet (fun _ => []) s.chest.windows x).drop (8 * (w - cur))).take 8)
  else if idx = 0xA031 then leNat (((tabGet (fun _ => []) s.chest.windows (4 + x)).drop (8 * (w - cur))).take 8)
  else if idx < 0x4018 then s.traceWord (idx - 0x4010) w
  else if idx < 0x6300 then s.profileWord (idx - 0x6200) w
  else if idx < 0x9024 then s.logWord (idx - 0x9020) w
  else s.shelfWord (idx - 0xA080) w

/-- The present length of a BLOB. -/
def State.blobLen (s : State) (idx : Nat) : Nat := s.rdN (idx * 256 + 1)

/-- The key of a staged word. -/
def stageKey (x idx w : Nat) : Nat := (x * 65536 + idx) * 65536 + w

/-- A word of a BLOB as a transport reads it (R93, R95): staged, else applied; 0 past LENGTH. The windows that fetches fill hold the zeros of
their own LENGTH, and show them until the next fetch ends (R420). -/
def State.blobRead (s : State) (x idx w : Nat) : Nat :=
  if idx ≠ 0xA011 && idx ≠ 0xA031 && decide (s.blobLen idx ≤ 8 * w) then 0
  else match s.host.staged.find? (fun e => e.1 = stageKey x idx w) with
    | some e => e.2
    | none => s.content x idx w

/-- Bytes of a BLOB from an offset (R100). -/
def State.blobBytes (s : State) (x idx off len : Nat) : List Byte :=
  let w0 := off / 8
  let words := (List.range (len / 8 + 2)).flatMap (fun k => leBytes 8 (s.blobRead x idx (w0 + k)))
  (words.drop (off % 8)).take len

/-- Words and bytes of 5080 that no write reaches (R294). -/
def kettleLive (idx w : Nat) : Bool := idx = 0x5080 && decide (512 ≤ w)

/-- A word goes to the staging copy of a transport (R95). -/
def State.stageWord (s : State) (x idx w v : Nat) : State :=
  let k := x * 65536 + idx
  { s with
    host := { s.host with
      staged := tabPut s.host.staged (stageKey x idx w) v
      staging := if s.host.staging.contains k then s.host.staging else s.host.staging ++ [k] } }

/-- A transport's staging copy of a BLOB is discarded. -/
def State.unstage (s : State) (x idx : Nat) : State :=
  let k := x * 65536 + idx
  { s with
    host := { s.host with
      staged := s.host.staged.filter (fun e => e.1 / 65536 ≠ k), staging := s.host.staging.filter (fun e => e ≠ k) } }

/-- A write to the window of a writable BLOB (R95); the live part of 5080 takes none (R294). -/
def State.windowWrite (s : State) (x idx sub v : Nat) : State :=
  let w := tabGet (fun _ => 0) s.host.cursors (x * 65536 + idx) / 8 + (sub - 0x10)
  if kettleLive idx w then s.reject (idx * 256 + sub) x
  else if s.blobLen idx ≤ 8 * w then s else s.stageWord x idx w v

/-- CURSOR moves the window of a transport (R93); a BLOB in the NOR starts a fetch (R420, R441). -/
def State.cursorWrite (s : State) (x idx v : Nat) : State :=
  if v % 8 ≠ 0 || decide (s.blobLen idx < v) then s.reject (idx * 256 + 2) x
  else
    let s1 : State := { s with host := { s.host with cursors := tabPut s.host.cursors (x * 65536 + idx) v } }
    if idx = 0xA011 then s1.startFetch false x else if idx = 0xA031 then s1.startFetch true x else s1

/-! ### The checks of a commit (R245, R269, R271, R294) -/

/-- The points of a group in a mode that a copy holds valid, from point 0. -/
def pointsOf (f : Nat → Nat) (g m : Nat) : List Nat := ((List.range 32).map (fun k => f ((g * 4 + m) * 32 + k))).filter (fun w => w.testBit 63)

/-- Whether values never decrease along a list. -/
def risingBy (f : Nat → Nat) : List Nat → Bool
  | [] => true
  | [_] => true
  | a :: b :: r => decide (f a ≤ f b) && risingBy f (b :: r)

/-- Whether a set-point of a point is a multiple of 10 within its rail's range; a group of one rail takes 0 for rail B. -/
def State.pointVolt (s : State) (rail v : Nat) : Bool :=
  if rail = 0xFF then v = 0 else v % 10 = 0 && decide (s.rdN (Rail.vfloor rail) ≤ v) && decide (v ≤ s.rdN (Rail.vsetMax rail))

/-- The checks of a present group's points (R245); the reserved fields are those of every record. -/
def State.groupOk (s : State) (f : Nat → Nat) (g : Nat) : Bool :=
  let r := Config.groupRails g
  let ms := (List.range 4).map (fun m => pointsOf f g m)
  let count := (ms.headD []).length
  decide (1 ≤ count) && ms.all (fun l => decide (l.length = count))
    && (List.range 4).all (fun m => (List.range count).all (fun k => (f ((g * 4 + m) * 32 + k)).testBit 63))
    && (List.range 128).all (fun k => getField (f (g * 128 + k)) 56 7 = 0 && getField (f (g * 128 + k)) 32 16 = 0)
    && ms.all (fun l => l.all (fun w => decide (getField w 48 8 ≤ 64)
      && s.pointVolt (r % 256) (getField w 0 16) && s.pointVolt (r / 256) (getField w 16 16))
      && risingBy (fun w => getField w 0 16) l && risingBy (fun w => getField w 16 16) l
      && risingBy (fun w => if getField w 48 8 = 0 then 65 else getField w 48 8) l)

/-- The checks of a Kettle parameter record (R294). -/
def State.kettleOk (s : State) (f : Nat → Nat) : Bool :=
  let between := fun (lo hi v : Nat) => decide (lo ≤ v) && decide (v ≤ hi)
  ptList.all (fun p =>
    let a := f (2 * p)
    let b := f (2 * p + 1)
    decide (getField a 0 8 < 32) && s.rd (Ch.chKind (getField a 0 8)) = 1 && getField a 8 8 = 0 && between 1 10000 (getField a 16 16)
      && between 20000 10000000 (getField a 32 32) && between 640 1920 (getField b 0 16) && b / 65536 = 0)
  && (List.range 32).all (fun d =>
    let a := f (256 + d)
    between 1 10000 (getField a 0 16) && between 1000 10000000 (getField a 16 32) && a / 2 ^ 48 = 0)
  && (List.range 224).all (fun k => f (288 + k) = 0)

/-- Whether a copy of a BLOB may be applied (R245, R269, R271, R294); f: its words. -/
def State.commitOk (s : State) (idx : Nat) (f : Nat → Nat) : Bool :=
  if idx = 0x6010 then
    (List.range 8).all (fun g => Config.groupRails g = 0xFFFF || s.groupOk f g)
      && (List.range 2048).all (fun k => fieldsAll 16 4 (f (1024 + k)) (fun _ v => decide (v ≤ 4000)))
  else if idx = 0x5080 then s.kettleOk f
  else if idx = 0xB040 then true
  else ptList.all (fun p => decide (getField (f p) 0 32 ≤ 200000) && f p / 2 ^ 48 = 0)

/-- COMMIT (R93, R95): applied in one HCLK where the value equals GEN and the content passes; a mismatch discards the staging
copy, failing content keeps it. -/
def State.commit (s : State) (x idx : Nat) (v : Int) : State :=
  if v ≠ s.rd (idx * 256 + 3) then (s.unstage x idx).reject (idx * 256 + 4) x
  else if !s.isStaged x idx then s.cause 1
  else
    let words := s.host.staged.filter (fun e => e.1 / 65536 = x * 65536 + idx)
    let f := fun w => match words.find? (fun e => e.1 % 65536 = w) with | some e => e.2 | none => s.blobWord idx w
    if !s.commitOk idx f then s.reject (idx * 256 + 4) x
    else (((forEach words (fun e s => s.setBlobWord idx (e.1 % 65536) e.2) s).unstage x idx).bump (idx * 256 + 3)).cause 1

end Sys2Proof.Machine
end

