-- ==== Sys2Proof/Machine/Host.lean ====
section
/-! DEFINITION. The host side (R46 to R52, R83 to R98, R106 to R112): the host target port and the Preus 2 legacy map, commands of
the dictionary, interrupts, submissions, SOFT_RST, JTAG. -/

namespace Sys2Proof.Machine

/-! ### A write of a CMD sub, and of a sub whose write is a row of its own -/

/-- IRQ_CLEAR (R111). -/
def State.irqClearWrite (s : State) (v x : Nat) : State :=
  if 2 ^ 14 ≤ v then s.reject Irq.irqClear x
  else s.wr Irq.irqStatus (s.rdN Irq.irqStatus ^^^ (s.rdN Irq.irqStatus &&& v) : Nat)

/-- IRQ_FORCE (R111). -/
def State.irqForceWrite (s : State) (v x : Nat) : State :=
  if 2 ^ 14 ≤ v then s.reject Irq.irqForce x else s.wr Irq.irqStatus (s.rdN Irq.irqStatus ||| v : Nat)

/-- RAIL_CTRL and the other commands of a rail (R149, R150). -/
def State.railCommand (s : State) (n sub : Nat) (v : Int) (x : Nat) : State :=
  match sub with
  | 0x02 =>
    if v = 1 then s.railOn n x else if v = 2 then s.railOff n x else if v = 3 then s.railOffNow n x
    else if v = 4 then s.railClear n x else s.rejectRail n x
  | 0x03 => s.vsetDemandWrite n v x
  | 0x24 => if v = 1 then s.retireClear n x else s.reject (Rail.retireClear n) x
  | _ =>
    let ack := decide (s.freeVal 144 % 2 = 1)
    if v = 1 then (s.ibcOperation true ack).useFree else if v = 2 then (s.ibcOff ack x).useFree else s.reject Ibc.ibcCtrl x

/-- The commands of a clock domain (R216). -/
def State.cdCommand (s : State) (c sub : Nat) (v : Int) (x : Nat) : State :=
  match sub with
  | 0x02 => s.ratioDemandWrite c v x
  | 0x04 => s.fTableWrite c v x
  | 0x09 => (s.srcSelWrite c v.toNat (decide (s.freeVal 145 % 2 = 1)) x).useFree
  | _ => if v = 1 then s.gateRequest c else if v = 2 then s.gateWithdraw c else s.reject (Cd.gateCtrl c) x

/-- UPD_CTRL (R401). -/
def State.updCommand (s : State) (v : Int) (x : Nat) : State :=
  if v = 1 then s.updActivate x else if v = 2 then s.updConfirm x else if v = 3 then s.updAbort x
  else if v = 4 then s.updCancel x else if v = 5 then s.updFallback x else s.rejectUpd x

/-- STOP_CTRL (R439). -/
def State.stopCommand (s : State) (v : Int) (x : Nat) : State :=
  if v = 1 then s.stopDump x 1 else if v = 2 then s.stopDump x 2 else if v = 3 then s.stopReleaseCmd x
  else if v = 4 then s.stopAbort x else s.rejectStop x

/-- TR_CTRL (R241). -/
def State.traceCommand (s : State) (n : Nat) (v : Int) (x : Nat) : State :=
  if v = 1 then (s.trArm n).cause 1 else if v = 2 then (s.trForce n).cause 1 else if v = 3 then (s.trStop n).cause 1
  else s.reject (Trace.trCtrl n) x

/-- A write whose sub acts: first index of its entry, instance, sub, value, writing transport. BLOB subs come first: CURSOR,
COMMIT and the window (R93). -/
def State.commandWrite (s : State) (x base i sub : Nat) (v : Int) : State :=
  let idx := base + i
  if isBlob idx && 0x10 ≤ sub then s.windowWrite x idx sub v.toNat
  else if isBlob idx && sub = 2 then s.cursorWrite x idx v.toNat
  else if blobWritable idx && sub = 4 then s.commit x idx v
  else match base with
    | 0x1300 => s.lcRequestWrite v.toNat x
    | 0x2000 => s.railCommand i sub v x
    | 0x2800 => if v = 1 then s.phRetire i x else s.reject (Ph.phCtrl i) x
    | 0x3000 => s.cdCommand i sub v x
    | 0x3100 =>
      if sub = 2 then s.pdDemandWrite i v x
      else if v = 1 then s.pdClear i x else (s.reject (Pd.pdCtrl i) x).wr (Pd.pdCtrl i) 2
    | 0x3240 => if v = 1 then s.snSnap i else s.reject (Snare.snSnap i) x
    | 0x4000 => s.coefCommitDriver i v.toNat x
    | 0x4010 => s.traceCommand i v x
    | 0x5090 => if v = 1 then s.gongRailsOffCmd x else if v = 2 then s.gongRestartCmd x else s.rejectGong x
    | 0x6200 => if v = 1 then s.pidClear i else s.reject (Pid.pidClear i) x
    | 0x7000 => s.genOfferWrite v.toNat
    | 0x7030 => s.policyWrite i v.toNat x
    | 0x8400 => if v = 1 then s.eSnapCmd x else s.reject EnTel.eSnap x
    | 0x8401 => s.winEnWriteX i v x
    | 0x9010 => if v = 1 then s.fpCtrl i x else (s.reject (Fp.fpCtrl i) x).wr (Fp.fpCtrl i) 3
    | 0x9030 => s.updCommand v x
    | 0x9035 => if v = 1 then s.saveNowCmd else s.reject Sett.saveNow x
    | 0xA011 => s.startCseqWrite x v.toNat
    | 0xA020 => if sub = 2 then s.stopCommand v x else s.hbKickWrite v.toNat x
    | 0xA030 => s.dumpClearWrite v.toNat x
    | 0xB000 => if v = 1 then s.sdCtrlRun x else s.reject Sd.sdCtrl x
    | 0xB010 => if v = 1 then s.stRetry x else s.reject St.stRetry x
    | 0xB030 => if v = 1 then s.startRelease x else if v = 2 then s.startRetry x else s.rejectStart x
    | 0xB050 => s.aeCtrl v.toNat x
    | _ => s

/-! ### Submissions (R106 to R110) -/

/-- The instances of a kind of actuator (R107). -/
def kindCount (kind : Nat) : Nat := match kind with | 0 => 8 | 1 => 64 | _ => 96

/-- The code a submission is discarded with (R108), none where it is accepted. -/
def State.discardCode (s : State) (mctp : Bool) (a : WordA) : Option Nat :=
  if a.low ≠ 0 then some 5
  else if 2 < a.kind then some 3
  else if kindCount a.kind ≤ a.inst then some 4
  else if decide (a.tag < s.rdN Act.tagSplit) = mctp then some 2
  else if s.hub.tags.contains a.tag then some 1 else none

/-- A discard is counted (R108). -/
def State.discard (s : State) (code : Nat) : State := (s.bump Act.subDiscards).wr Act.lastDiscard code

/-- An accepted submission takes its tag and goes to the scheduler or the resolver (R106, R109). -/
def State.accept (s : State) (mctp : Bool) (a : WordA) (beat : Nat) : State :=
  let s1 : State := { s with hub := { s.hub with tags := s.hub.tags ++ [a.tag] } }
  let t : Txn := ⟨some a.tag, s.hub.epoch, 8, actOf a.kind a.inst, (a.value : Int), !mctp⟩
  if a.sched then s1.schedule t beat a.tick none else s1.carryOut t false s.beat s.tick

/-- A submission of words A and B. -/
def State.submit (s : State) (mctp : Bool) (a b : Word64) : State :=
  match s.discardCode mctp (wordA a) with
  | some code => s.discard code
  | none => s.accept mctp (wordA a) b.toNat

/-- A write of SUBMIT_A (R107). -/
def State.submitAWrite (s : State) (v : Word64) : State := { s with hub := { s.hub with stagedA := some v } }

/-- A write of SUBMIT_B (R107, R108). -/
def State.submitBWrite (s : State) (v : Word64) : State :=
  match s.hub.stagedA with
  | none => s.discard 6
  | some a => { s with hub := { s.hub with stagedA := none } }.submit false a v

/-- The oldest record leaves a ring and its tag is free (R106, R109). -/
def State.popRing (s : State) (ring : Nat) : State :=
  let h := s.hub
  let free := fun (r : Word64) => h.tags.filter (fun t => t ≠ r.toNat / 2 ^ 55)
  if ring = 0 then
    match h.ringH with | [] => s | r :: rest => { s with hub := { h with ringH := rest, tags := free r } }
  else match h.ringM with | [] => s | r :: rest => { s with hub := { h with ringM := rest, tags := free r } }

/-! ### Accesses (R49, R50, R85 to R92) -/

/-- A write that nothing stops (R89, R90): v is the slot. -/
def State.subWrite (s : State) (x idx sub v : Nat) : State :=
  match rowOf (idx * 256 + sub) with
  | none => s
  | some (i, r) =>
    let w := reduceTo r.ty v
    match r.wrule with
    | .act => s.commandWrite x (idx - i) i sub w
    | _ =>
      if idx = 0x1100 && sub = 3 then s.irqClearWrite w.toNat x
      else if idx = 0x1100 && sub = 4 then s.irqForceWrite w.toNat x
      else s.storeSub x (idx * 256 + sub) w

/-- The slot of a sub as a transport reads it (R86, R90, R93): a word of its BLOB's window, else the sub's own. -/
def State.slotRead (s : State) (x idx sub : Nat) : Nat :=
  if isBlob idx && 0x10 ≤ sub then s.blobRead x idx (tabGet (fun _ => 0) s.host.cursors (x * 65536 + idx) / 8 + (sub - 0x10))
  else s.slotLive x idx sub

/-- What a read does (R90, R109): an RC sub is cleared in the same HCLK, a ring loses its oldest record. -/
def State.readEffect (s : State) (idx sub : Nat) : State :=
  if idx = 0x1220 && sub = 1 then s.popRing 0
  else if idx = 0x1221 && sub = 1 then s.popRing 1
  else if accOf idx sub = .rc then s.wr (idx * 256 + sub) 0
  else s

/-! ### The writes of an MCTP message (R100 to R102) -/

/-- One sub of a WRITE carried out alone (R102): what stops it, else the state after it and whether it was rejected. -/
def State.tryWrite (s : State) (x : Nat) (m : DictMsg) (k : Nat) : State × Option Status :=
  let idx := m.idx.toNat
  let sub := m.sub.toNat + k
  match s.writeStatus idx sub (msgStrobe m k) with
  | some st => (s, if st = .ok then none else some st)
  | none =>
    if idx = 0x1210 && (sub = 1 || sub = 2) || idx = 0x9033 then (s, some .access)
    else
      let t := ({ s with host := { s.host with rejected := false } }).subWrite x idx sub (msgSlot m k)
      (t, if t.host.rejected then
        some (if blobWritable idx && sub = 4 && reduceTo (.u 4) (msgSlot m k) ≠ s.rd (idx * 256 + 3) then .gen else .range) else none)

/-- The first sub of a WRITE that fails, checked alone, with its place. -/
def State.writeFail (s : State) (x : Nat) (m : DictMsg) : Option (Nat × Status) :=
  (List.range m.count.toNat).findSome? (fun k => ((s.tryWrite x m k).2).map (fun st => (k, st)))

/-- Whether a message to be carried out now is checked first and passes (R101, R103, R104). -/
def State.msgGoes (s : State) (x : Xport) (m : DictMsg) (op : Nat) : Bool :=
  s.xportOn x && s.msgTurn x m && ((s.takeMsg x m.src.toNat m.tag.toNat).msgCheck op m).isNone

/-- Whether a WRITE that is carried out writes a sub (R102). -/
def State.msgWrites (s : State) (x : Xport) (m : DictMsg) (key : Nat) : Bool :=
  (s.writeFail (xnum x) m).isNone
    && (List.range m.count.toNat).any (fun k => m.idx.toNat * 256 + m.sub.toNat + k = key && msgStrobe m k ≠ 0)

/-! ### Host target port (R48 to R50, R83, R84) -/

/-- The code of HTP_RSP_ERR (R50): the statuses of an access. -/
def htpErr (st : Status) : Nat := match st with | .access => 1 | .decode => 2 | .retry => 3 | _ => 0

/-- Whether a sub holds a setting that both views write (R11): RW, RWS, and the demands and table frequencies. -/
def isSetting (key : Nat) : Bool :=
  accOf (key / 256) (key % 256) = .rw || accOf (key / 256) (key % 256) = .rws || railList.any (fun n => key = Rail.vsetDemand n)
    || cdList.any (fun c => key = Cd.ratioDemand c || key = Cd.fTable c)

/-- Whether a dictionary write to a sub waits that completes in this HCLK (R11): over the host target port, or by an MCTP WRITE whose turn
comes in it. -/
def State.dictComes (s : State) (key : Nat) : Bool :=
  s.comes (fun i => match i with
    | .dictWrite a _ strb _ =>
      s.reqReady && dictAddr a.toNat = some (key / 256, key % 256) && (s.writeStatus (key / 256) (key % 256) strb.toNat).isNone
    | .vsetDemandWrite n _ => s.hostUp && key = Rail.vsetDemand n
    | .ratioDemandWrite c _ => s.hostUp && key = Cd.ratioDemand c
    | .fTableWrite c _ => s.hostUp && key = Cd.fTable c
    | _ => false)
  || s.msgsComing.any (fun e => s.msgWrites e.1 e.2 key)

/-- Whether a legacy write to a sub collides with a dictionary write to it of the same HCLK (R11). -/
def State.collides (s : State) (key : Nat) : Bool := isSetting key && (s.writtenNow.contains key || s.dictComes key)

/-- A write to the dictionary range (R49, R50; 9033 answers ACCESS, R380); one that an MCTP write of its HCLK had carried out first only answers (R92). -/
def State.dictPut (s : State) (idx sub data strb tag : Nat) : State :=
  if idx = 0x9033 then s.htpRespond tag 1 0
  else match s.writeStatus idx sub strb with
  | some st => s.htpRespond tag (htpErr st) 0
  | none =>
    if idx = 0x1210 && sub = 1 then (s.submitAWrite (BitVec.ofNat 64 data)).htpRespond tag 0 0
    else if idx = 0x1210 && sub = 2 then (s.submitBWrite (BitVec.ofNat 64 data)).htpRespond tag 0 0
    else if s.earlyNow.contains (idx * 256 + sub) then s.htpRespond tag 0 0
    else ((s.subWrite 0 idx sub data).noteWrite (idx * 256 + sub)).htpRespond tag 0 0

/-- The value that a host write of any row brings to a sub (R92), none where it brings it none. -/
def State.hostValue (s : State) (idx sub : Nat) (c : Instr) : Option Nat :=
  let key := idx * 256 + sub
  match c with
  | .dictWrite a d strb _ =>
    if s.reqReady && dictAddr a.toNat = some (idx, sub) && (s.writeStatus idx sub strb.toNat).isNone then some d.toNat else none
  | .vsetDemandWrite n v => if s.hostUp && key = Rail.vsetDemand n then some v.toNat else none
  | .ratioDemandWrite c v => if s.hostUp && key = Cd.ratioDemand c then some v.toNat else none
  | .pdDemandWrite d v => if s.hostUp && key = Pd.pdDemand d then some v.toNat else none
  | .fTableWrite c v => if s.hostUp && key = Cd.fTable c then some v.toNat else none
  | _ => none

/-- A host write to a sub that waits is carried out ahead of an MCTP write to it of the same HCLK (R92). -/
def State.hostFirst (s : State) (idx sub : Nat) (c : Instr) : State :=
  match s.hostValue idx sub c with
  | some d =>
    if s.earlyNow.contains (idx * 256 + sub) then s
    else ((s.subWrite 0 idx sub d).noteWrite (idx * 256 + sub)).noteEarly (idx * 256 + sub)
  | none => s

/-- A legacy write to a sub that nothing stops (R11, R97). -/
def State.legacyTake (s : State) (idx sub data tag : Nat) (lo hi : Bool) : State :=
  let key := idx * 256 + sub
  if !lo && decide (tyBytes (tyOf key) ≤ 4) then s.htpRespond tag 0 0
  else if accOf idx sub = .ro || accOf idx sub = .rc then s.htpRespond tag 1 0
  else if s.collides key then (s.bump Legacy.legacyCollisions).htpRespond tag 0 0
  else (s.subWrite 0 idx sub (halfMerge (s.slotWord key) data lo hi)).htpRespond tag 0 0

/-- A write to the legacy map (R83, R96, R97). R96 has every write at C000 to C7FF complete OK and be counted, R97 has other strobe
patterns than 0F, F0 and FF answer ACCESS: DESIGN CHOICE (log 109), at C000 to C7FF R96 holds, and a write with no strobe counts
nothing. -/
def State.legacyPut (s : State) (a data strb tag : Nat) : State :=
  if s.rd Legacy.legacyEn ≠ 1 || a % 8 ≠ 0 then s.htpRespond tag 2 0
  else if legacyUnimpl a then (if strb = 0 then s else s.bump Legacy.legacyUnimpl).htpRespond tag 0 0
  else match legacyAddr a with
    | none => s.htpRespond tag 2 0
    | some (idx, sub) =>
      if strb = 0 then s.htpRespond tag 0 0
      else match legacyHalves strb with
        | none => s.htpRespond tag 1 0
        | some (lo, hi) => s.legacyTake idx sub data tag lo hi

/-- A write request of the host target port, a level D access of the hub fabric (R236); none is accepted while HTP_REQ_READY is low
(R46, R47, R49, R83). -/
def State.htpWrite (s : State) (a data strb tag : Nat) : State :=
  if !s.reqReady then s
  else if a < 0x10000 then (s.fabric 3 0).legacyPut a data strb tag
  else match dictAddr a with
    | some (idx, sub) => (s.fabric 3 0).dictPut idx sub data strb tag
    | none => s.htpRespond tag 2 0

/-- Whether a sub is held by a DCU (R344): its reads go over the satellite ring, not through the hub fabric. -/
def dcuHeld (idx : Nat) : Bool := decide (0x8000 ≤ idx) && decide (idx ≤ 0x82FF)

/-- A read of a dictionary sub (R50, R90; 9033 answers ACCESS, R380), a level D access of the fabric unless a DCU holds the sub, whose
response comes within 96 HCLK (R344). -/
def State.dictGet (s : State) (idx sub tag : Nat) : State :=
  let s1 := if dcuHeld idx then s else s.fabric 3 0
  let most := if dcuHeld idx then 96 else 206
  if idx = 0x9033 then s1.htpRespond tag 1 0
  else match s.readStatus idx sub with
  | some st => s1.htpRespond tag (htpErr st) 0
  | none => (s1.readEffect idx sub).htpRespondIn most tag 0 (s.slotRead 0 idx sub)

/-- A read through the legacy map (R96, R97): causes above bit 7 read zero in the block of 1100; a half wholly above the value
reads zero. -/
def State.legacyGet (s : State) (a tag : Nat) : State :=
  if s.rd Legacy.legacyEn ≠ 1 || a % 8 ≠ 0 then s.htpRespond tag 2 0
  else if legacyUnimpl a then (s.bump Legacy.legacyUnimpl).htpRespond tag 0 0
  else match legacyAddr a with
    | none => s.htpRespond tag 2 0
    | some (idx, sub) =>
      match s.readStatus idx sub with
      | some st => s.htpRespond tag (htpErr st) 0
      | none =>
        let v := s.slotRead 0 idx sub
        (s.readEffect idx sub).htpRespond tag 0
          (if idx = 0x1100 then v % 256 else if tyBytes (tyOf (idx * 256 + sub)) ≤ 4 then v % 2 ^ 32 else v)

/-- A read request of the host target port. -/
def State.htpRead (s : State) (a tag : Nat) : State :=
  if !s.reqReady then s
  else if a < 0x10000 then (s.fabric 3 0).legacyGet a tag
  else match dictAddr a with
    | some (idx, sub) => s.dictGet idx sub tag
    | none => s.htpRespond tag 2 0

/-- Whether an address serves production test now (R112). -/
def State.vendorAddr (s : State) (a : Nat) : Bool :=
  s.reqReady && (match dictAddr a with | some (idx, _) => s.vendorOpen idx | none => false)

/-- DICT_WRITE (R89): a write request of the host target port. -/
def execDictWrite (addr : BitVec 40) (data : Word64) (strb : BitVec 8) (tag : BitVec 4) (s : State) : Host.Outcome State Fault Refusal :=
  if s.vendorAddr addr.toNat && strb ≠ 0 then .refused .vendorReserved
  else done (s.htpWrite addr.toNat data.toNat strb.toNat tag.toNat)

/-- LEGACY_WRITE (R97): a write request of the host target port whose address lies in the legacy map. -/
def execLegacyWrite (addr : BitVec 40) (data : Word64) (strb : BitVec 8) (tag : BitVec 4) (s : State) :
    Host.Outcome State Fault Refusal :=
  done (if 0x10000 ≤ addr.toNat then s else s.htpWrite addr.toNat data.toNat strb.toNat tag.toNat)

/-- READ_CLEAR (R90): a read request of the host target port. -/
def execReadClear (addr : BitVec 40) (tag : BitVec 4) (s : State) : Host.Outcome State Fault Refusal :=
  if s.vendorAddr addr.toNat then .refused .vendorReserved else done (s.htpRead addr.toNat tag.toNat)

/-- CQ_POP over the host target port (R109). -/
def execCqPop (ring : Fin 2) (tag : BitVec 4) (s : State) : Host.Outcome State Fault Refusal :=
  done (if !s.reqReady then s else ((s.popRing ring).fabric 3 0).htpRespond tag.toNat 0 (s.ringHead ring))

/-- SUBMIT_A. -/
def execSubmitA (v : Word64) (s : State) : Host.Outcome State Fault Refusal :=
  done (s.hostRow (fun s => s.submitAWrite v))
/-- SUBMIT_B. -/
def execSubmitB (v : Word64) (s : State) : Host.Outcome State Fault Refusal :=
  done (s.hostRow (fun s => s.submitBWrite v))

/-- IRQ_CLEAR. -/
def execIrqClear (v : BitVec 16) (s : State) : Host.Outcome State Fault Refusal :=
  done (s.hostRow (fun s => s.irqClearWrite v.toNat 0))
/-- IRQ_FORCE. -/
def execIrqForce (v : BitVec 16) (s : State) : Host.Outcome State Fault Refusal :=
  done (s.hostRow (fun s => s.irqForceWrite v.toNat 0))

/-! ### Block windows (R93 to R95) -/

/-- A write to a sub of a BLOB over a transport that answers, where nothing stops it. -/
def State.blobPut (s : State) (x : Xport) (idx sub v : Nat) : State :=
  s.overPort x (fun s => if isBlob idx && (s.writeStatus idx sub 0xFF).isNone then s.subWrite (xnum x) idx sub v else s)

/-- BLOB_CURSOR_WRITE. -/
def execBlobCursorWrite (x : Xport) (idx : BitVec 16) (v : Word32) (s : State) : Host.Outcome State Fault Refusal :=
  done (s.blobPut x idx.toNat 2 v.toNat)
/-- BLOB_WINDOW_WRITE: subs 10 to FF. -/
def execBlobWindowWrite (x : Xport) (idx : BitVec 16) (sub : Byte) (v : Word64) (s : State) : Host.Outcome State Fault Refusal :=
  done (if sub.toNat < 0x10 then s else s.blobPut x idx.toNat sub.toNat v.toNat)
/-- BLOB_COMMIT. -/
def execBlobCommit (x : Xport) (idx : BitVec 16) (v : Word32) (s : State) : Host.Outcome State Fault Refusal :=
  done (if blobWritable idx.toNat then s.blobPut x idx.toNat 4 v.toNat else s)

/-! ### SOFT_RST and JTAG (R47, R76, R110, R358) -/

/-- SOFT_RST rises. -/
def State.softResetRise (s : State) : State :=
  let h := s.hub
  let hostTag := fun (t : Nat) => decide (t < s.rdN Act.tagSplit)
  let s1 : State := { s with
    host := { s.host with
      softRst := true, rsp := none, outstanding := [], staged := s.host.staged.filter (fun e => 65536 ≤ e.1 / 65536),
      staging := s.host.staging.filter (fun e => 65536 ≤ e) }
    hub := { h with
      stagedA := none, ringH := [], tags := h.tags.filter (fun t => !hostTag t), epoch := h.epoch + 1,
      sched := h.sched.filter (fun e => !(e.txn.tag.isSome && e.txn.host && decide (s.now1024 < instant1024 e.beat e.tick))) } }
  let s2 := forEach winList (fun w s => (s.setWin w {}).wr (Win.winEn w) 0) (s1.wr Irq.irqEnable 0)
  let s3 : State := { s2 with tel := { s2.tel with port := [], cmdItems := [] } }
  (s3.setOut []).record 0 0x0105 0 0 0

/-- SOFT_RESET. -/
def execSoftReset (s : State) : Host.Outcome State Fault Refusal := done (if s.host.softRst then s else s.softResetRise)

/-- SOFT_RESET_RELEASE. -/
def execSoftResetRelease (s : State) : Host.Outcome State Fault Refusal :=
  done { s with host := { s.host with softRst := false } }

/-- The JTAG instruction that acts (R76): in PROVISIONED and DEPLOYED only BYPASS and IDCODE do. -/
def State.jtagActs (s : State) (ir : JtagIr) : JtagIr :=
  match ir with
  | .other n => if s.rd Lc.lcState = 2 || s.rd Lc.lcState = 3 then .bypass else .other n
  | _ => ir

/-- JTAG_INSTRUCTION (R76): IDCODE gives 0x32C5_1A6F. -/
def execJtagInstruction (ir : JtagIr) (s : State) : Host.Outcome State Fault Refusal :=
  done { s with host := { s.host with jtag := s.jtagActs ir, tdo := if s.jtagActs ir = .idcode then some 0x32C51A6F else none } }

end Sys2Proof.Machine
end

