-- ==== Sys2Proof/Machine/Dump.lean ====
section
/-! DEFINITION. The bytes of a dump (R430 to R434): the header, the hub cut image, the stop stamps, the shelves, logs, handover areas,
traces and core images, and the sectors that hold them. -/

namespace Sys2Proof.Machine

/-! ### The hub cut image (R432) -/

/-- The shadow bank as a state, to be read as the hub is. -/
def Shadow.view (h : Shadow) : State :=
  { dict := h.dict
    hclk := h.hclk
    beatHclk := h.beatHclk
    hub := h.hub
    loops := h.loops
    upbeat := h.upbeat
    phs := h.phs
    energy := h.energy
    host := h.host
    chest := h.chest }

/-- An entry of the image. -/
structure CutEntry where
  idx : Nat
  sub : Nat
  kind : Nat
  aux : Nat
  value : Nat
  deriving DecidableEq, Repr

/-- The two words of an entry. -/
def CutEntry.words (e : CutEntry) : List Nat :=
  [e.idx % 2 ^ 16 + (e.sub % 2 ^ 8) * 2 ^ 16 + e.kind * 2 ^ 24 + (e.aux % 2 ^ 32) * 2 ^ 32, e.value % 2 ^ 64]

/-- The subs of an index that hub hardware serves, BLOB windows excepted. -/
def hubSubs (idx : Nat) : List Nat :=
  (List.range 256).filter (fun sub =>
    (sub = 0 || (rowOf (idx * 256 + sub)).isSome) && (servedBy idx sub).isNone && !(isBlob idx && decide (0x10 ≤ sub)))

/-- The indices that exist. -/
def hubIndices : List Nat :=
  (dictGroups.flatMap (fun g => List.range' g.1 g.2.1)).filter (fun idx => (groupOf idx).isSome)

/-- KIND 0: the slots of the dictionary, RC subs as they stand. -/
def State.cutSlots (v : State) : List CutEntry :=
  hubIndices.flatMap (fun idx => (hubSubs idx).map (fun sub => ⟨idx, sub, 0, 0, v.slotRead Config.dumpView.val idx sub⟩))

/-- Every actuator, its number rising (R410). -/
def actuatorList : List Nat :=
  railList.map aVset ++ cdList.map aRatio ++ pdList.map aPd ++ ptList.map aBrush ++ railList.map aPhase

/-- A range and a demand in the fields of KIND 1; one that is absent is open there. -/
def Contrib.word (c : Contrib) (a : Nat) : Nat :=
  (match c.range with
    | some r => (r.1 % 2 ^ 16).toNat + (r.2 % 2 ^ 16).toNat * 2 ^ 16
    | none => Config.dumpOpen 1 a % 2 ^ 32)
  + (match c.demand with | some d => (d % 2 ^ 16).toNat | none => Config.dumpOpen 2 a % 2 ^ 16) * 2 ^ 32

/-- KIND 1: the contributions that rungs make (log 106). -/
def State.cutRungs (v : State) : List CutEntry :=
  actuatorList.flatMap (fun a => (List.range' 1 8).flatMap (fun r =>
    let c := v.contrib r a
    if c = {} then [] else [⟨a, r, 1, (if c.range.isSome then 1 else 0) + (if c.demand.isSome then 2 else 0), c.word a⟩]))

/-- The source code of an actuator (R37): of a ratio that the interlock binds it is 0xE (R193). -/
def State.cutSource (v : State) (a : Nat) : Nat :=
  if (cdList.map aRatio).contains a && decide (v.vfNow (a % 4096) < v.resolved a) then 0xE else (v.sourceOf a).toNat

/-- KIND 2: the resolved values with their sources. -/
def State.cutResolved (v : State) : List CutEntry :=
  actuatorList.map (fun a => ⟨a, 0, 2, v.cutSource a, (v.resolved a % 2 ^ 64).toNat⟩)

/-- The words A and B of a pending scheduled action (R107). -/
def Sched.words (e : Sched) : List Nat :=
  [e.txn.tag.getD 0x1FF * 2 ^ 55 + 2 ^ 54 + (e.txn.act / 4096) * 2 ^ 50 + (e.txn.act % 4096) * 2 ^ 42
    + (e.txn.value % 2 ^ 16).toNat * 2 ^ 26 + e.tick * 2 ^ 16, e.beat]

/-- KIND 3: the pending scheduled actions; the slot of one is its place among them (log 106). -/
def State.cutSched (v : State) : List CutEntry :=
  v.hub.sched.zipIdx.flatMap (fun p =>
    p.1.words.zipIdx.map (fun w => (⟨p.2, w.2, 3, p.1.txn.tag.getD 0x1FF + p.1.txn.rung * 2 ^ 9, w.1⟩ : CutEntry)))

/-- A mantissa and an exponent as a BFL slot (R86). -/
def bflWord (m e : Int) : Nat := (e % 64).toNat * 2 ^ 20 + (m % 2 ^ 20).toNat

/-- A value in 2^-20 units as a BFL slot, with the smallest exponent that holds it (log 106). -/
def bflFine (v : Int) : Nat :=
  match (List.range 52).find? (fun k => fits20 (divAway v (2 ^ k))) with
  | some k => bflWord (divAway v (2 ^ k)) ((k : Int) - 20)
  | none => bflWord (sat20 v) 31

/-- The four states of a stage. -/
def Stage.words (g : Stage) : List Nat := [g.x1, g.x2, g.y1, g.y2].map (fun m => bflWord m g.es)

/-- The loop state of a rail: how SUB 14 packs the region and the current band is open. -/
def State.loopWords (v : State) (n : Nat) : List Nat :=
  let l := v.loop n
  l.st1.words ++ l.st2.words ++ l.st3.words
    ++ [bflFine l.d, bflFine l.corr, Config.dumpOpen 14 (v.rdN (Loop.region n) * 4 + l.band), v.rdN (Loop.feTimer n)]

/-- KIND 4. -/
def State.cutLoops (v : State) : List CutEntry :=
  railList.flatMap (fun n => (v.loopWords n).zipIdx.map (fun w => (⟨n, w.2, 4, 0, w.1⟩ : CutEntry)))

/-- KIND 5: the pulses of a rail; the number of one is its place among them (log 106). `reset`: the HCLK at which the hub left reset. -/
def State.cutPulses (v : State) (reset : Nat) : List CutEntry :=
  railList.flatMap (fun n => ((v.upbeat.pulses.filter (fun p => p.rail = n)).zipIdx.map (fun e => (
    ⟨n, e.2, 5, e.1.q, (e.1.ton % 2 ^ 16).toNat + (divOpen 168 (e.1.start8 - 8 * reset) 4 % 2 ^ 48).toNat * 2 ^ 16⟩ : CutEntry))))

/-- KIND 6. -/
def State.cutPhases (v : State) : List CutEntry :=
  (List.range 96).map (fun p =>
    ⟨p, 0, 6, v.rdN (Ph.phState p), (v.rd (Ph.trim p) % 2 ^ 16).toNat + (v.rd (Ph.plausFails p) % 2 ^ 16).toNat * 2 ^ 16⟩)

/-- The words of the image up to its end; zeros follow. -/
def State.cutImage (s : State) : List Nat :=
  let v := s.hang.shadow.view
  (v.cutSlots ++ v.cutRungs ++ v.cutResolved ++ v.cutSched ++ v.cutLoops ++ v.cutPulses s.start.hubAt ++ v.cutPhases
    ++ [(⟨0, 0, 0xFF, 0, 0⟩ : CutEntry)]).flatMap CutEntry.words

/-! ### The other sections (R430, R431, R433) -/

/-- KIND of the dump (R430): 2 where the domains are stopped. -/
def State.dumpKind (s : State) : Nat := if s.hang.action = 2 then 2 else 1

/-- The sections of Z-REF: OFFSET, LENGTH, FROZEN of KIND 2, FROZEN of KIND 1, ENCRYPTED. -/
def dumpSections : List (Nat × Nat × Nat × Nat × Nat) :=
  [(0x1000, 524288, 1, 1, 0), (0x81000, 2048, 1, 1, 0), (0x81800, 165888, 0, 0, 0), (0xAA000, 16384, 1, 0, 0), (0xAE000, 131072, 1, 0, 0),
    (0xCE000, 1048576, 1, 1, 0), (0x1CE000, 1048576, 1, 0, 1)]

/-- An entry of SECTIONS. -/
def State.sectionEntry (s : State) (e : Nat × Nat × Nat × Nat × Nat) : List Byte :=
  leBytes 4 e.1 ++ leBytes 4 e.2.1 ++ leBytes 1 (if s.dumpKind = 2 then e.2.2.1 else e.2.2.2.1) ++ leBytes 1 e.2.2.2.2 ++ leBytes 6 0

/-- The header before its CRC (R430). -/
def State.dumpHeaderBody (s : State) : List Byte :=
  let h := penBytes 0x5A444D50 ++ leBytes 2 1 ++ leBytes 1 s.dumpKind ++ leBytes 1 s.hang.cause ++ leBytes 4 s.hang.dumpId ++ leBytes 4 0
    ++ leBytes 8 s.hang.cutAt ++ leBytes 8 s.hang.cutHclk ++ leBytes 8 (s.rdN Ident.configHash) ++ leBytes 4 (s.rdN Fw.fwVersion)
    ++ leBytes 2 (s.rdN Ident.blockVersion) ++ leBytes 2 0 ++ leBytes 8 (s.rdN Ident.serial) ++ leBytes 8 0
    ++ dumpSections.flatMap s.sectionEntry ++ leBytes 16 0
    ++ (List.range 128).flatMap (fun u => leBytes 4 (tabGet (fun _ => 0) s.hang.heads u))
  h ++ List.replicate (4092 - h.length) 0

/-- The 4,096 bytes of the header. -/
def State.dumpHeader (s : State) : List Byte := s.dumpHeaderBody ++ leBytes 4 (crc32c s.dumpHeaderBody).toNat

/-- STATE of a stop stamp (R433). -/
def State.stampState (s : State) (c : Nat) : Nat :=
  let v := s.hang.shadow.view
  let g := if s.hang.gated.contains c then 64 else 0
  v.rdN (Cd.cdState c) % 8 + (v.rdN (Cd.srcNow c) % 4) * 8 + (if s.dumpKind = 2 then 32 + g else 0)

/-- EDGE_COUNT of a stamp (R425, R433): the edges counted up to the cut, and those since. -/
def State.stampEdges (s : State) (c since : Nat) : Nat := (tabGet (fun _ => 0) s.hang.counts c + since) % 2 ^ 64

/-- The time of the last edge by the DCU's copy of beat time, in 1/1000 HCLK. -/
def State.stampTime (s : State) (x : StopStamp) : Int := (800000 * s.hang.cutAt + x.off.toInt) % (800000 * 2 ^ 64)

/-- The bytes of a stop stamp before its CRC (R433). Without a stamp of its DCU the count of a domain without output edges is the one of the
cut; the rest is open. -/
def State.stampBody (s : State) (c : Nat) : List Byte :=
  let v := s.hang.shadow.view
  let from_ := match s.hang.stamps.find? (fun x => x.cd.val = c) with
    | some x =>
      let t := (s.stampTime x).toNat
      (leBytes 8 (s.stampEdges c x.since.toNat) ++ leBytes 8 (t / 800000) ++ leBytes 2 (t % 800000 * 1024 / 800000) ++ leBytes 1 x.hold.toNat,
        if x.stretched then 1 else 0)
    | none => ((if s.hang.gated.contains c then leBytes 8 (s.stampEdges c 0) else leBytes 8 (Config.dumpOpen 9 c))
        ++ leBytes 11 (Config.dumpOpen 3 c), Config.dumpOpen 4 c % 2)
  from_.1 ++ leBytes 1 (s.stampState c) ++ leBytes 1 (v.rdN (Cd.ratioOut c)) ++ leBytes 1 from_.2 ++ leBytes 2 0
    ++ leBytes 4 (v.rdN (Snare.snLostq c))

/-- The 32 bytes of a stop stamp. -/
def State.stampBytes (s : State) (c : Nat) : List Byte := s.stampBody c ++ leBytes 4 (crc32c (s.stampBody c)).toNat

/-- Byte i of what the manual leaves open of a section. -/
def openByte (site i : Nat) : Byte := BitVec.ofNat 8 (Config.dumpOpen site i)

/-- A half of a handover area (R372): the header over an open body of an open length. `at_`: its place among the halves. -/
def Area.bytes (a : Area) (k at_ : Nat) : List Byte :=
  let n := Config.dumpOpen 5 at_ % 16321
  let body := (List.range 16320).map (fun i => openByte 6 (at_ * 16384 + i))
  let h := penBytes 0x5A484F56 ++ leBytes 2 a.fmt ++ leBytes 1 a.kind ++ leBytes 1 k ++ leBytes 4 a.seq ++ leBytes 8 a.beat
    ++ leBytes 4 n ++ leBytes 1 a.src ++ leBytes 1 a.dst ++ leBytes 6 0
  h ++ leBytes 4 (crc32c (h ++ body.take n)).toNat ++ leBytes 28 0 ++ body

/-- The bytes of a half: zeros before its first record; open where its record is invalid (R372, R374). -/
def State.halfBytes (s : State) (k h : Nat) : List Byte :=
  match (s.fp k).half h with
  | some a => a.bytes k (2 * k + h)
  | none => if (s.fp k).areaSeq = 0 then List.replicate 16384 0 else (List.range 16384).map (fun i => openByte 7 ((2 * k + h) * 16384 + i))

/-- A word of a list of bytes. -/
def byteWord (l : List Byte) (o : Nat) : Nat := byteField l o 8

/-- The unit of a place in the section of the shelves. -/
def shelfAt (i : Nat) : Nat := ((List.range 128).filter shelfUnit).getD i 0

/-- The word of the stream at a byte offset (R431), given the header and the image. -/
def State.dumpWord (s : State) (hdr img : List Nat) (o : Nat) : Nat :=
  if o < 0x1000 then hdr.getD (o / 8) 0
  else if o < 0x81000 then img.getD ((o - 0x1000) / 8) 0
  else if o < 0x81800 then byteWord (s.stampBytes ((o - 0x81000) / 32)) (o % 32)
  else if o < 0xAA000 then s.shelfWord (shelfAt ((o - 0x81800) / 2048)) ((o - 0x81800) % 2048 / 8)
  else if o < 0xAE000 then s.logWord ((o - 0xAA000) / 4096) ((o - 0xAA000) % 4096 / 8)
  else if o < 0xCE000 then byteWord (s.halfBytes ((o - 0xAE000) / 32768) ((o - 0xAE000) % 32768 / 16384)) ((o - 0xAE000) % 16384)
  else if o < 0x1CE000 then s.traceWord ((o - 0xCE000) / 131072) ((o - 0xCE000) % 131072 / 8)
  else leNat ((List.range 8).map (fun i => openByte 8 (o - 0x1CE000 + i)))

/-- The payload of sector k (R434): 4,032 bytes of the stream from 4,032k onward, fewer in the last. -/
def State.dumpPayload (s : State) (k : Nat) : List Byte :=
  let o := 4032 * k
  let hdr := if o < 0x1000 then bytesWords 512 s.dumpHeader else []
  let img := if o < 0x81000 && decide (0x1000 < o + 4032) then s.cutImage else []
  ((List.range 504).flatMap (fun i => leBytes 8 (s.dumpWord hdr img (o + 8 * i)))).take (s.rdN Dump.dumpLen - o)

/-- Bytes 0 to 15 of the header of sector k with its payload (R434); its other bytes but the MARKER are 0xFF. -/
def State.dumpSectorHead (s : State) (k : Nat) (payload : List Byte) : List Byte :=
  penBytes 0x5A444D53 ++ leBytes 4 s.hang.dumpId ++ leBytes 2 k ++ leBytes 2 payload.length ++ leBytes 4 (crc32c payload).toNat

/-- The programs of sector k in their order, each an offset and its bytes (R75, R434): the payload in pages of 256 bytes, header bytes 0 to 15,
the MARKER. -/
def State.dumpPrograms (s : State) (k : Nat) (payload : List Byte) : List (Nat × List Byte) :=
  ((List.range 16).map (fun i =>
    if i = 0 then (64, payload.take 192) else (256 * i, (payload.drop (256 * i - 64)).take 256))).filter (fun e => e.2 ≠ [])
  ++ [(0, s.dumpSectorHead k payload), (60, leBytes 4 0x3C3CC3C3)]

/-! ### DUMP_SECTOR_DONE (R417, R421, R431, R434) -/

/-- Where the trace section of a dump begins and ends (R431). -/
def traceSection (at_ : Nat) : Bool := decide (0xCE000 ≤ at_ + 4031) && decide (at_ < 0x1CE000)

/-- The NOR address of a sector of the dump area in use (R414, R429). -/
def State.dumpNor (s : State) (k : Nat) : Nat := 0x02C00000 + 0x01000000 * s.hang.area + 4096 * k

/-- Whether the next program of a dump waits: for the end of an inhibit (R421), for a record of the Chest, which comes between two pages (R417,
R435), or for the traces (R431). -/
def State.sectorWaits (s : State) (k : Nat) : Bool :=
  s.chest.inhibitAt.isSome || s.chest.step ≠ 0 || (s.hang.yields && s.chest.queue ≠ [])
    || (traceSection (4032 * k) && railList.any (fun n => s.rd (Trace.trCtrl n) = 1 || s.rd (Trace.trCtrl n) = 2))

/-- The payload of the sector under way: it stands from its first program on. -/
def State.sectorPayload (s : State) : List Byte := if s.hang.payload = [] then s.dumpPayload s.hang.sectors else s.hang.payload

/-- The programs of the sector under way that are still to come, the present one first. -/
def State.programsLeft (s : State) : List (Nat × List Byte) := (s.dumpPrograms s.hang.sectors s.sectorPayload).drop s.hang.page

/-- The NOR address of the dump's present program. -/
def State.dumpAddr (s : State) : Nat :=
  s.dumpNor s.hang.sectors + (match s.programsLeft with | e :: _ => e.1 | [] => 0)

/-- A program of a dump completes: a record that waits for the Chest goes before the next one (R417). -/
def State.dumpProgram (s : State) (e : Nat × List Byte) : State :=
  let s1 := s.norProgram (s.dumpNor s.hang.sectors + e.1) e.2
  { s1 with
    chest := { s1.chest with failed := false }
    hang := { s1.hang with page := s1.hang.page + 1, running := false, yields := decide (s1.chest.queue ≠ []) } }

/-- The next program of a dump begins; a page takes 0.8 ms at most (R368), a free time (log 133). -/
def State.dumpStart (s : State) : State :=
  let h := { s.hang with
    running := true, payload := s.sectorPayload, pageEnd := s.hclk + 1 + ((s.freeVal 221) % 640000).toNat }
  ({ s with hang := h }).useFree

/-- The dump's programs as time passes (R417, R434): the pages and the header of a sector; its MARKER is DUMP_SECTOR_DONE's. -/
def State.dumpTick (s : State) : State :=
  if s.rd Hang.hangState ≠ 3 then s
  else if !s.hang.running then (if s.sectorWaits s.hang.sectors then s else s.dumpStart)
  else match s.programsLeft with
    | e :: _ :: _ => if s.hang.pageEnd ≤ s.hclk then (s.dumpProgram e).showChest else s
    | _ => s

/-- A sector's MARKER is committed: its payload stands in the NOR. -/
def State.putSector (s : State) (p : List Byte) : State :=
  let k := s.hang.sectors
  { s with hang := { s.hang with sectors := k + 1, data := tabPut s.hang.data (s.hang.area * 1024 + k) p, page := 0, payload := [] } }

/-- Whether the program under way is the sector's MARKER, which finishes under an inhibit as well (R421). -/
def State.markerRuns (s : State) : Bool := s.hang.running && decide (s.programsLeft.length ≤ 1)

/-- DUMP_SECTOR_DONE (R434): the programs of the sector up to its MARKER are complete; where one fails, NOR_ERROR names its address. -/
def State.dumpSector (s : State) (good : Bool) : State :=
  if s.rd Hang.hangState ≠ 3 || (s.sectorWaits s.hang.sectors && !s.markerRuns) then s
  else if !good then (s.norError 1 s.dumpAddr).dumpFail 1
  else
    let len := s.rdN Dump.dumpLen
    let bytes := min (4032 * (s.hang.sectors + 1)) len
    let s1 := forEach s.programsLeft (fun e s => s.dumpProgram e) { s with hang := { s.hang with payload := s.sectorPayload } }
    let s2 := (((s1.putSector s.sectorPayload).wr Dump.progress bytes).setLen s.hang.area bytes).showChest
    if bytes < len then s2
    else ((s2.setArea s.hang.area 2).record 0 0x0807 s.hang.dumpId s.hang.area len).dumpEnd

/-- DUMP_SECTOR_DONE. -/
def execDumpSectorDone (good : Bool) (s : State) : Host.Outcome State Fault Refusal := done (s.dumpSector good)

end Sys2Proof.Machine
end

