-- ==== Sys2Proof/Machine/Mctp.lean ====
section
/-! DEFINITION. The MCTP binding (R74, R99 to R105): packets and reassembly, control messages, dictionary messages, NOTIFY. -/

namespace Sys2Proof.Machine

/-! ### Packets (R56, R99, R103) -/

/-- Whether a packet is for this endpoint: its EID, or the null or the broadcast EID. -/
def State.forUs (s : State) (pk : Packet) : Bool :=
  pk.tagOwner && ((pk.dst.toNat : Int) = s.rd Xport.mctpEid || pk.dst = 0 || pk.dst = 0xFF)

/-- A message that could not be reassembled, or is too long, is counted. -/
def State.dropMsg (s : State) (x : Xport) (src tag : Nat) : State :=
  ({ s with host := { s.host with asm := s.host.asm.filter (fun a => !(a.x = x && a.src = src && a.tag = tag)) } }).bump Xport.msgDiscards

/-- The header fields of a dictionary message, from its bytes after the type byte: opcode, COUNT, INDEX, SUB. -/
def msgAsker (x : Xport) (src tag : Nat) (b : List Byte) : Asker :=
  ⟨x, src, tag, leNat ((b.drop 7).take 1), leNat ((b.drop 8).take 2), leNat ((b.drop 10).take 1), 0, 0⟩

/-- A complete message (R99, R103): a dictionary request or a control request waits to be carried out; with 64 in flight a dictionary
request is answered BUSY at once. A request with another opcode is answered where its PEN or VER is wrong (R101), else not (log 80).
Other messages are not answered. -/
def State.messageIn (s : State) (x : Xport) (src tag : Nat) (b : List Byte) : State :=
  let body := b.drop 1
  let op := leNat ((body.drop 5).take 1)
  let cmd := leNat ((body.drop 1).take 1)
  if b.head? = some 0x7F then
    let a := msgAsker x src tag body
    if decide (body.length < 12) || decide (128 ≤ op) then s
    else if 64 ≤ s.inFlight then s.respond a op .busy a.count []
    else if op = 0 || 6 < op then
      if body.take 4 ≠ penBytes Config.ianaPen.toNat then s.respond a op .pen a.count []
      else if leNat ((body.drop 4).take 1) ≠ 1 then s.respond a op .version a.count [] else s
    else { s with host := { s.host with inbox := s.host.inbox ++ [⟨x, src, tag, false, body⟩] } }
  else if b.head? = some 0 && (cmd = 1 || cmd = 2 || cmd = 4 || cmd = 5) then
    { s with host := { s.host with inbox := s.host.inbox ++ [⟨x, src, tag, true, body⟩] } }
  else s

/-- A packet joins its message (R99). -/
def State.assemble (s : State) (x : Xport) (pk : Packet) : State :=
  let src := pk.src.toNat
  let tag := pk.tag.toNat
  let mine := fun (a : Assembly) => a.x = x && a.src = src && a.tag = tag
  let s1 := if pk.som && s.host.asm.any mine then s.dropMsg x src tag else s
  let old : Option Assembly := if pk.som then some ⟨x, src, tag, pk.seq.toNat, []⟩ else s1.host.asm.find? mine
  match old with
  | none => s1
  | some a =>
    let bytes := a.bytes ++ pk.payload
    if a.seq ≠ pk.seq.toNat || decide (4096 < bytes.length) then s1.dropMsg x src tag
    else
      let s2 : State := { s1 with host := { s1.host with asm := s1.host.asm.filter (fun a => !mine a) } }
      if pk.eom then s2.messageIn x src tag bytes
      else { s2 with host := { s2.host with asm := s2.host.asm ++ [⟨x, src, tag, (pk.seq.toNat + 1) % 4, bytes⟩] } }

/-- A packet over a transport that answers: the PEC on SMBus, EOM and the length of a mailbox message, then its message. -/
def State.packetIn (s : State) (x : Xport) (pk : Packet) : State :=
  if x = .smbus && !pk.pecGood then s.bump Xport.pecErrors
  else if x = .mailbox && (!pk.mbxEom || decide (packetMax x < pk.payload.length)) then s.bump Xport.mbxDiscards
  else if !s.forUs pk then s
  else
    let s1 : State := { s with host := { s.host with heard := s.host.heard.filter (fun e => e.1 ≠ pk.src.toNat) ++ [(pk.src.toNat, x)] } }
    if packetMax x < pk.payload.length then s1.dropMsg x pk.src.toNat pk.tag.toNat else s1.assemble x pk

/-- MCTP_PACKET_RECEIVE. -/
def execMctpPacketReceive (x : Xport) (pk : Packet) (s : State) : Host.Outcome State Fault Refusal :=
  done (if s.xportOn x then s.packetIn x pk else s)

/-! ### Control messages (R99; their layout is DSP0236's, log 62) -/

/-- The instance ID of the control message that waits; open where none waits. -/
def State.ctrlInst (s : State) (x : Xport) (src tag : Nat) : Byte :=
  match s.host.inbox.find? (fun m => m.x = x && m.src = src && m.tag = tag && m.ctrl) with
  | some m => (m.bytes.headD 0) &&& 0x1F
  | none => (Config.freeByte 1 s.free 0) &&& 0x1F

/-- A control response: instance ID, command, and its data from the completion code on. -/
def State.ctrlRespond (s : State) (x : Xport) (src tag : Nat) (cmd : Byte) (data : List Byte) : State :=
  let s1 := s.takeMsg x src tag
  (s1.sendMsg ⟨x, src, tag, true, s.ctrlInst x src tag :: cmd :: data⟩ false).useFree

/-- Set Endpoint ID: MCTP_EID takes 8 to 254; another value is answered with ERROR_INVALID_DATA. -/
def State.setEid (s : State) (x : Xport) (src tag : Nat) (eid : Byte) : State :=
  if 8 ≤ eid.toNat ∧ eid.toNat ≤ 254 then
    (s.wr Xport.mctpEid eid.toNat).ctrlRespond x src tag 1 [0, 0, eid, 0]
  else s.ctrlRespond x src tag 1 [2]

/-- SET_ENDPOINT_ID. -/
def execSetEndpointId (x : Xport) (src : Byte) (tag : BitVec 3) (eid : Byte) (s : State) : Host.Outcome State Fault Refusal :=
  done (if s.xportOn x then s.setEid x src.toNat tag.toNat eid else s)

/-- GET_ENDPOINT_ID: completion code, EID, endpoint type, medium-specific information. -/
def execGetEndpointId (x : Xport) (src : Byte) (tag : BitVec 3) (s : State) : Host.Outcome State Fault Refusal :=
  done (if s.xportOn x then s.ctrlRespond x src.toNat tag.toNat 2 [0, BitVec.ofNat 8 (s.rdN Xport.mctpEid), 0, 0] else s)

/-- GET_MCTP_VERSION_SUPPORT: one version entry, whose value the manual does not give. -/
def execGetMctpVersionSupport (x : Xport) (src : Byte) (tag : BitVec 3) (s : State) : Host.Outcome State Fault Refusal :=
  done (if s.xportOn x then
    s.ctrlRespond x src.toNat tag.toNat 4 ([0, 1] ++ (List.range 4).map (fun i => Config.freeByte 2 s.free i)) else s)

/-- GET_MESSAGE_TYPE_SUPPORT: message type 0x7F. -/
def execGetMessageTypeSupport (x : Xport) (src : Byte) (tag : BitVec 3) (s : State) : Host.Outcome State Fault Refusal :=
  done (if s.xportOn x then s.ctrlRespond x src.toNat tag.toNat 5 [0, 1, 0x7F] else s)

/-! ### READ and WRITE (R100 to R102) -/

/-- A dictionary message leaves those that wait, a level D access of its transport (R103, R236), but a READ of subs that a DCU holds
(R344). -/
def State.taken (s : State) (x : Xport) (m : DictMsg) (op : Nat) : State :=
  let t := s.takeMsg x m.src.toNat m.tag.toNat
  if op = 1 && dcuHeld m.idx.toNat then t else t.fabric 3 (1 + xnum x)

/-- What every dictionary message does first: once its turn has come it is taken, and checked (R101, R103, R104). -/
def State.withMsg (s : State) (x : Xport) (m : DictMsg) (op : Nat) (f : State → Asker → State) : State :=
  if !s.xportOn x || !s.msgTurn x m then s
  else
    let s1 := s.taken x m op
    let a := askerOf x m 0 0
    match s1.msgCheck op m with
    | some st => s1.respond a op st a.count []
    | none => f s1 a

/-- READ (R100): every slot of one HCLK, then what the reads clear; the first failing status where a sub fails. -/
def State.readMsg (s : State) (m : DictMsg) (a : Asker) : State :=
  let idx := m.idx.toNat
  if !lengthOk m 0 then s.respond a 1 .length a.count []
  else match (msgSubs m).findSome? (fun sub => s.readStatus idx sub) with
    | some st => s.respond a 1 st a.count []
    | none =>
      (forEach (msgSubs m) (fun sub s => s.readEffect idx sub) s).respond a 1 .ok a.count
        ((msgSubs m).flatMap (fun sub => leBytes 8 (s.slotRead (xnum a.x) idx sub)))

/-- The sub takes effect (R92, R102): a plain one with the value that its check on the state `t` before the message gave. -/
def State.applyWrite (s t : State) (x : Nat) (m : DictMsg) (k : Nat) : State :=
  let key := m.idx.toNat * 256 + m.sub.toNat + k
  if msgStrobe m k = 0 then s
  else (match t.ruled x key (reduceTo (tyOf key) (msgSlot m k)) with
    | some w => s.storeRuled key w
    | none => (s.tryWrite x m k).1).noteWrite key

/-- The host writes of this HCLK to the subs of a WRITE come first (R92). -/
def State.hostWrites (s : State) (m : DictMsg) : State :=
  forEach (msgSubs m) (fun sub s => forEach s.pending (fun c s => s.hostFirst m.idx.toNat sub c) s) s

/-- WRITE (R102): every sub is checked first; nothing is written where one fails, but that failing write is counted (R89). -/
def State.writeMsg (s : State) (m : DictMsg) (a : Asker) : State :=
  let x := xnum a.x
  let t := s.hostWrites m
  if !lengthOk m (9 * m.count.toNat) then s.respond a 2 .length a.count []
  else match t.writeFail x m with
    | some (k, st) => (t.tryWrite x m k).1.respond a 2 st k []
    | none => (forEach (List.range m.count.toNat) (fun k s => s.applyWrite t x m k) t).respond a 2 .ok a.count []

/-- Whether a message reads or writes an index that serves production test now (R112). -/
def State.vendorMsg (s : State) (x : Xport) (m : DictMsg) (op : Nat) : Bool :=
  s.msgGoes x m op && s.vendorOpen m.idx.toNat

/-- MCTP_READ. -/
def execMctpRead (x : Xport) (m : DictMsg) (s : State) : Host.Outcome State Fault Refusal :=
  if s.vendorMsg x m 1 && lengthOk m 0 then .refused .vendorReserved else done (s.withMsg x m 1 (fun s a => s.readMsg m a))

/-- MCTP_WRITE. -/
def execMctpWrite (x : Xport) (m : DictMsg) (s : State) : Host.Outcome State Fault Refusal :=
  if s.vendorMsg x m 2 && lengthOk m (9 * m.count.toNat) then .refused .vendorReserved
  else done (s.withMsg x m 2 (fun s a => s.writeMsg m a))

/-! ### BLOBs (R95, R100, R380, R420, R434) -/

/-- What stops a block access: an index that is no BLOB, one that the life-cycle state denies, a processor that does not run. -/
def State.blockStatus (s : State) (idx : Nat) : Option Status :=
  if s.denied idx then some .access
  else if !(isBlob idx && subPresent idx 1) then (if idx = 0x9033 then some .access else some .decode)
  else s.accessStatus idx 1

/-- BLOCK_READ: a BLOB in the NOR is answered when its fetch completes. -/
def State.blockReadMsg (s : State) (m : DictMsg) (a : Asker) : State :=
  let idx := m.idx.toNat
  let off := leNat (m.body.take 4)
  let len := leNat (m.body.drop 4)
  if m.body.length ≠ 6 || len = 0 || decide (2048 < len) then s.respond a 3 .length a.count []
  else match s.blockStatus idx with
    | some st => s.respond a 3 st a.count []
    | none =>
      let b : Asker := { a with off := off, len := len }
      if idx = 0xA011 then { s with chest := { s.chest with askers := s.chest.askers ++ [b] } }
      else if idx = 0xA031 then { s with chest := { s.chest with dumpAskers := s.chest.dumpAskers ++ [b] } }
      else s.useFree.respond a 3 .ok a.count (s.blobBytes (xnum a.x) idx off len)

/-- A word with bytes of a list laid over it: the list begins at byte `off` of the BLOB. -/
def overlay (old w off : Nat) (data : List Byte) : Nat :=
  leNat ((List.range 8).map (fun i =>
    let p := 8 * w + i
    if off ≤ p ∧ p < off + data.length then data.getD (p - off) 0 else BitVec.ofNat 8 (old / 256 ^ i)))

/-- The words a run of bytes touches. -/
def wordsOf (off len : Nat) : List Nat := if len = 0 then [] else List.range' (off / 8) ((off + len - 1) / 8 - off / 8 + 1)

/-- BLOCK_WRITE (R95, R380): staged; bytes past LENGTH are dropped, the live part of 5080 takes none (R294). -/
def State.blockWriteMsg (s : State) (m : DictMsg) (a : Asker) : State :=
  let idx := m.idx.toNat
  let x := xnum a.x
  let off := leNat (m.body.take 4)
  let len := leNat ((m.body.drop 4).take 2)
  let data := m.body.drop 6
  let ws := wordsOf off len
  if decide (m.body.length < 6) || data.length ≠ len then s.respond a 4 .length a.count []
  else match s.blockStatus idx with
    | some st => s.respond a 4 st a.count []
    | none =>
      if !blobWritable idx then s.respond a 4 .access a.count []
      else if ws.any (kettleLive idx) then (s.reject (idx * 256 + 0x10) x).respond a 4 .range a.count []
      else (forEach (ws.filter (fun w => decide (8 * w < s.blobLen idx)))
        (fun w s => s.stageWord x idx w (overlay (s.blobRead x idx w) w off data)) s).respond a 4 .ok a.count []

/-- MCTP_BLOCK_READ. -/
def execMctpBlockRead (x : Xport) (m : DictMsg) (s : State) : Host.Outcome State Fault Refusal :=
  if s.vendorMsg x m 3 then .refused .vendorReserved else done (s.withMsg x m 3 (fun s a => s.blockReadMsg m a))

/-- MCTP_BLOCK_WRITE: UPD_CHUNK is applied on receipt (R380). -/
def execMctpBlockWrite (x : Xport) (m : DictMsg) (s : State) : Host.Outcome State Fault Refusal :=
  if s.vendorMsg x m 4 then .refused .vendorReserved
  else done (if m.idx = 0x9033 then (if s.xportOn x then s.updChunk x m else s) else s.withMsg x m 4 (fun s a => s.blockWriteMsg m a))

/-! ### Submissions and ring M (R106 to R109) -/

/-- ACT_SUBMIT: words A and B; a discard answers RANGE. -/
def State.actSubmitMsg (s : State) (m : DictMsg) (a : Asker) : State :=
  let w := fun (k : Nat) => BitVec.ofNat 64 (leNat ((m.body.drop (8 * k)).take 8))
  if m.body.length ≠ 16 then s.respond a 5 .length a.count []
  else (s.submit true (w 0) (w 1)).respond a 5 (if (s.discardCode true (wordA (w 0))).isSome then .range else .ok) a.count []

/-- MCTP_ACT_SUBMIT. -/
def execMctpActSubmit (x : Xport) (m : DictMsg) (s : State) : Host.Outcome State Fault Refusal :=
  done (s.withMsg x m 5 (fun s a => s.actSubmitMsg m a))

/-- CQ_POP: up to COUNT records of ring M leave it. -/
def State.cqPopMsg (s : State) (m : DictMsg) (a : Asker) : State :=
  let n := min m.count.toNat s.hub.ringM.length
  if m.count.toNat = 0 || decide (32 < m.count.toNat) || m.body ≠ [] then s.respond a 6 .length a.count []
  else (forEach (List.range n) (fun _ s => s.popRing 1) s).respond a 6 .ok n
    ((s.hub.ringM.take n).flatMap (fun r => leBytes 8 r.toNat))

/-- MCTP_CQ_POP. -/
def execMctpCqPop (x : Xport) (m : DictMsg) (s : State) : Host.Outcome State Fault Refusal :=
  done (s.withMsg x m 6 (fun s a => s.cqPopMsg m a))

/-! ### NOTIFY, SMB_ALERT_N and the in-band interrupt (R74, R105) -/

/-- The transport of the notified endpoint: where it was last heard, of those that answer; open where it was heard on none. -/
def State.notifyXport (s : State) : Xport :=
  match s.host.heard.find? (fun e => (e.1 : Int) = s.rd Xport.notifyEid && s.xportOn e.2) with
  | some e => e.2
  | none => match s.freeVal 146 % 3 with | 0 => .i3c | 1 => .smbus | _ => .mailbox

/-- The alarm bits that may be notified now: at most once per 10 ms for the same bit. The manual does not say how often the NOTIFY of
ring M's CQ_THRESH is sent: DESIGN CHOICE (log 97), the model gives it the limit of a bit, as bit 16. -/
def State.notifyNow (s : State) : List Nat :=
  s.notify.filter (fun b => match s.host.notifyAt.find? (fun e => e.1 = b) with | some e => s.elapsed e.2 8000000 | none => true)

/-- NOTIFY (R100, R105): the slots of 1101:01 and 1110:01; the header's COUNT, INDEX and SUB and the message tag are open. -/
def State.notifyOut (s : State) : State :=
  let x : Sys2Proof.Xport := s.notifyXport
  let f := fun (i : Nat) => (Config.freeByte 3 s.free i).toNat
  let now := s.notifyNow
  let s1 : State := { s with
    smbAlert := s.smbAlert || decide (x = Sys2Proof.Xport.smbus)
    notify := s.notify.filter (fun b => !now.contains b)
    host := { s.host with
      ibi := decide (x = Sys2Proof.Xport.i3c)
      notifyAt := now.foldl (fun t b => tabPut t b s.hclk) s.host.notifyAt } }
  (s1.sendMsg ⟨x, s.rdN Xport.notifyEid, f 0 % 8, false,
    dictBytes 7 0 (f 1) (f 2 + 256 * f 3) (f 4) (leBytes 8 (s.slotWord Alarm.alarmActive) ++ leBytes 8 (s.slotWord Ladder.ladderLevel))⟩
    true).useFree

/-- NOTIFY_SEND: not with NOTIFY_EID 0, nor where nothing is to be notified, nor over a transport that is disabled. -/
def execNotifySend (s : State) : Host.Outcome State Fault Refusal :=
  done (if s.rd Xport.notifyEid = 0 || s.notifyNow.isEmpty || !s.xportOn s.notifyXport then s else s.notifyOut)

/-- SMB_ALERT_RESPONSE (R74): the address 0x58 + SMB_ADDR; SMB_ALERT_N is released. -/
def execSmbAlertResponse (s : State) : Host.Outcome State Fault Refusal :=
  done (if s.smbAlert && s.xportOn Sys2Proof.Xport.smbus then
    { s with smbAlert := false, host := { s.host with alertRsp := some (0x58 + s.start.strapSmb) } } else s)

/-- DYNAMIC_ADDRESS_ASSIGNMENT (R74). -/
def execDynamicAddressAssignment (a : BitVec 7) (s : State) : Host.Outcome State Fault Refusal :=
  done (if s.xportOn Sys2Proof.Xport.i3c then s.wr Xport.i3cDynAddr a.toNat else s)

end Sys2Proof.Machine
end

