-- ==== Sys2Proof/Machine/Dispatch.lean ====
section
/-! DEFINITION. The meaning of every command: one arm per constructor of Instr, each a direct call. -/

namespace Sys2Proof.Machine

/-- A command's effect on everything but the queue. -/
def exec (i : Instr) (s : State) : Host.Outcome State Fault Refusal :=
  match i with
  | .powerOnReset => Sys2Proof.Machine.execPowerOnReset s
  | .porRelease oscSettle smbAddr => Sys2Proof.Machine.execPorRelease oscSettle smbAddr s
  | .hubResetExit => Sys2Proof.Machine.execHubResetExit s
  | .xspiResetRelease => Sys2Proof.Machine.execXspiResetRelease s
  | .bootDirectoryRead d => Sys2Proof.Machine.execBootDirectoryRead d s
  | .selftestPart1Done conv diode => Sys2Proof.Machine.execSelftestPart1Done conv diode s
  | .oscSettleElapsed => Sys2Proof.Machine.execOscSettleElapsed s
  | .xclkCountDone count => Sys2Proof.Machine.execXclkCountDone count s
  | .selftestPart2Done dco stretch snare modSense run => Sys2Proof.Machine.execSelftestPart2Done dco stretch snare modSense run s
  | .startSettingsApply r => Sys2Proof.Machine.execStartSettingsApply r s
  | .ibcStart ack => Sys2Proof.Machine.execIbcStart ack s
  | .ibcReady => Sys2Proof.Machine.execIbcReady s
  | .ibcWaitTimeout => Sys2Proof.Machine.execIbcWaitTimeout s
  | .startNextRail => Sys2Proof.Machine.execStartNextRail s
  | .startRelease => Sys2Proof.Machine.execStartRelease s
  | .startCtrlRelease => Sys2Proof.Machine.execStartCtrlRelease s
  | .startCtrlRetry => Sys2Proof.Machine.execStartCtrlRetry s
  | .brownoutTimeout => Sys2Proof.Machine.execBrownoutTimeout s
  | .stRetry => Sys2Proof.Machine.execStRetry s
  | .sdCtrlRun => Sys2Proof.Machine.execSdCtrlRun s
  | .sdTestDone checks => Sys2Proof.Machine.execSdTestDone checks s
  | .aeCtrlRun v => Sys2Proof.Machine.execAeCtrlRun v s
  | .aeRunDone checks => Sys2Proof.Machine.execAeRunDone checks s
  | .lcRequest v => Sys2Proof.Machine.execLcRequest v s
  | .lcFuseBlow good => Sys2Proof.Machine.execLcFuseBlow good s
  | .vaonReset => Sys2Proof.Machine.execVaonReset s
  | .nvmInhibitBegin => Sys2Proof.Machine.execNvmInhibitBegin s
  | .nvmInhibitEnd minVaon minVin => Sys2Proof.Machine.execNvmInhibitEnd minVaon minVin s
  | .softReset => Sys2Proof.Machine.execSoftReset s
  | .dictWrite addr data strb tag => Sys2Proof.Machine.execDictWrite addr data strb tag s
  | .legacyWrite addr data strb tag => Sys2Proof.Machine.execLegacyWrite addr data strb tag s
  | .readClear addr tag => Sys2Proof.Machine.execReadClear addr tag s
  | .blobCursorWrite x idx v => Sys2Proof.Machine.execBlobCursorWrite x idx v s
  | .blobWindowWrite x idx sub v => Sys2Proof.Machine.execBlobWindowWrite x idx sub v s
  | .blobCommit x idx v => Sys2Proof.Machine.execBlobCommit x idx v s
  | .irqClear v => Sys2Proof.Machine.execIrqClear v s
  | .irqForce v => Sys2Proof.Machine.execIrqForce v s
  | .notifySend => Sys2Proof.Machine.execNotifySend s
  | .submitA v => Sys2Proof.Machine.execSubmitA v s
  | .submitB v => Sys2Proof.Machine.execSubmitB v s
  | .cqPop ring tag => Sys2Proof.Machine.execCqPop ring tag s
  | .mctpPacketReceive x pk => Sys2Proof.Machine.execMctpPacketReceive x pk s
  | .mctpRead x m => Sys2Proof.Machine.execMctpRead x m s
  | .mctpWrite x m => Sys2Proof.Machine.execMctpWrite x m s
  | .mctpBlockRead x m => Sys2Proof.Machine.execMctpBlockRead x m s
  | .mctpBlockWrite x m => Sys2Proof.Machine.execMctpBlockWrite x m s
  | .mctpActSubmit x m => Sys2Proof.Machine.execMctpActSubmit x m s
  | .mctpCqPop x m => Sys2Proof.Machine.execMctpCqPop x m s
  | .setEndpointId x src tag eid => Sys2Proof.Machine.execSetEndpointId x src tag eid s
  | .getEndpointId x src tag => Sys2Proof.Machine.execGetEndpointId x src tag s
  | .getMctpVersionSupport x src tag => Sys2Proof.Machine.execGetMctpVersionSupport x src tag s
  | .getMessageTypeSupport x src tag => Sys2Proof.Machine.execGetMessageTypeSupport x src tag s
  | .jtagInstruction ir => Sys2Proof.Machine.execJtagInstruction ir s
  | .schedDeliver => Sys2Proof.Machine.execSchedDeliver s
  | .schedApply => Sys2Proof.Machine.execSchedApply s
  | .interlockClampTimeout tag => Sys2Proof.Machine.execInterlockClampTimeout tag s
  | .ratioInPlace cd => Sys2Proof.Machine.execRatioInPlace cd s
  | .ringKeepalive => Sys2Proof.Machine.execRingKeepalive s
  | .ringMessage lane sat good => Sys2Proof.Machine.execRingMessage lane sat good s
  | .satelliteIsolated sat => Sys2Proof.Machine.execSatelliteIsolated sat s
  | .ringLaneDown lane sat => Sys2Proof.Machine.execRingLaneDown lane sat s
  | .loopSample n m => Sys2Proof.Machine.execLoopSample n m s
  | .regionChange n m => Sys2Proof.Machine.execRegionChange n m s
  | .feExpiry n => Sys2Proof.Machine.execFeExpiry n s
  | .feRelease n => Sys2Proof.Machine.execFeRelease n s
  | .coefScrub errs => Sys2Proof.Machine.execCoefScrub errs s
  | .coefCommit n v => Sys2Proof.Machine.execCoefCommit n v s
  | .trArm n => Sys2Proof.Machine.execTrArm n s
  | .trForce n => Sys2Proof.Machine.execTrForce n s
  | .trStop n => Sys2Proof.Machine.execTrStop n s
  | .traceDone n => Sys2Proof.Machine.execTraceDone n s
  | .ePromotion wait => Sys2Proof.Machine.execEPromotion wait s
  | .modulatorTrigger n => Sys2Proof.Machine.execModulatorTrigger n s
  | .pendingTriggerFire n => Sys2Proof.Machine.execPendingTriggerFire n s
  | .onTimeEnd p imonStart imonEnd => Sys2Proof.Machine.execOnTimeEnd p imonStart imonEnd s
  | .cycleLimitHit p => Sys2Proof.Machine.execCycleLimitHit p s
  | .railLimitInhibit n iph => Sys2Proof.Machine.execRailLimitInhibit n iph s
  | .ilimBurstEnd n => Sys2Proof.Machine.execIlimBurstEnd n s
  | .shedDwellExpiry n => Sys2Proof.Machine.execShedDwellExpiry n s
  | .zeroCurrentDecision p => Sys2Proof.Machine.execZeroCurrentDecision p s
  | .tlmFrame p frame stop onSlot => Sys2Proof.Machine.execTlmFrame p frame stop onSlot s
  | .tlmLost p => Sys2Proof.Machine.execTlmLost p s
  | .exclusionTimeout p => Sys2Proof.Machine.execExclusionTimeout p s
  | .phaseRetire p => Sys2Proof.Machine.execPhaseRetire p s
  | .stageDisable p => Sys2Proof.Machine.execStageDisable p s
  | .rung2Release n => Sys2Proof.Machine.execRung2Release n s
  | .railCtrlOn n => Sys2Proof.Machine.execRailCtrlOn n s
  | .railCtrlOff n => Sys2Proof.Machine.execRailCtrlOff n s
  | .railCtrlOffImmediate n => Sys2Proof.Machine.execRailCtrlOffImmediate n s
  | .railCtrlClear n => Sys2Proof.Machine.execRailCtrlClear n s
  | .retireClear n => Sys2Proof.Machine.execRetireClear n s
  | .phCtrlRetire p => Sys2Proof.Machine.execPhCtrlRetire p s
  | .prechargeEnableDone n => Sys2Proof.Machine.execPrechargeEnableDone n s
  | .vpreTaken n samples => Sys2Proof.Machine.execVpreTaken n samples s
  | .shortVoutCheck n => Sys2Proof.Machine.execShortVoutCheck n s
  | .rampTimeout n => Sys2Proof.Machine.execRampTimeout n s
  | .softStopEnd n => Sys2Proof.Machine.execSoftStopEnd n s
  | .overVoltage n vout => Sys2Proof.Machine.execOverVoltage n vout s
  | .ovClampDone n vout => Sys2Proof.Machine.execOvClampDone n vout s
  | .underVoltage n vout => Sys2Proof.Machine.execUnderVoltage n vout s
  | .sensePairDrop n pair openLeg => Sys2Proof.Machine.execSensePairDrop n pair openLeg s
  | .busUvFault n => Sys2Proof.Machine.execBusUvFault n s
  | .ibcPoll resp => Sys2Proof.Machine.execIbcPoll resp s
  | .ibcAlert status => Sys2Proof.Machine.execIbcAlert status s
  | .ibcCtrlOn ack => Sys2Proof.Machine.execIbcCtrlOn ack s
  | .ibcCtrlOff ack => Sys2Proof.Machine.execIbcCtrlOff ack s
  | .vsetDemandWrite n v => Sys2Proof.Machine.execVsetDemandWrite n v s
  | .ratioDemandWrite cd v => Sys2Proof.Machine.execRatioDemandWrite cd v s
  | .pdDemandWrite d v => Sys2Proof.Machine.execPdDemandWrite d v s
  | .snareTrip cd inp => Sys2Proof.Machine.execSnareTrip cd inp s
  | .snareRelease cd inp v => Sys2Proof.Machine.execSnareRelease cd inp v s
  | .snareRungRelease cd => Sys2Proof.Machine.execSnareRungRelease cd s
  | .snareBeatEnd cd beat => Sys2Proof.Machine.execSnareBeatEnd cd beat s
  | .snSnap cd => Sys2Proof.Machine.execSnSnap cd s
  | .upbeatAnnounce l word gap => Sys2Proof.Machine.execUpbeatAnnounce l word gap s
  | .upbeatCancel l word gap => Sys2Proof.Machine.execUpbeatCancel l word gap s
  | .cmdStart q edge beforeAct beforeEdges startAct => Sys2Proof.Machine.execCmdStart q edge beforeAct beforeEdges startAct s
  | .matchReport q => Sys2Proof.Machine.execMatchReport q s
  | .prefirePulse n => Sys2Proof.Machine.execPrefirePulse n s
  | .upbeatRetract q => Sys2Proof.Machine.execUpbeatRetract q s
  | .preposHoldEnd q => Sys2Proof.Machine.execPreposHoldEnd q s
  | .precIdleExpiry q => Sys2Proof.Machine.execPrecIdleExpiry q s
  | .laneDisable l => Sys2Proof.Machine.execLaneDisable l s
  | .fTableWrite cd v => Sys2Proof.Machine.execFTableWrite cd v s
  | .dcoLock cd => Sys2Proof.Machine.execDcoLock cd s
  | .srcSelWrite cd v targetLive => Sys2Proof.Machine.execSrcSelWrite cd v targetLive s
  | .sourceSwitchDone cd stopHclk => Sys2Proof.Machine.execSourceSwitchDone cd stopHclk s
  | .sourceDead cd stopHclk targetLive => Sys2Proof.Machine.execSourceDead cd stopHclk targetLive s
  | .gateCtrlRequest cd => Sys2Proof.Machine.execGateCtrlRequest cd s
  | .gateCtrlWithdraw cd => Sys2Proof.Machine.execGateCtrlWithdraw cd s
  | .fp1GateRequest cd want => Sys2Proof.Machine.execFp1GateRequest cd want s
  | .gateAck cd => Sys2Proof.Machine.execGateAck cd s
  | .gateReqTimeout cd ack => Sys2Proof.Machine.execGateReqTimeout cd ack s
  | .domainResetEnd cd => Sys2Proof.Machine.execDomainResetEnd cd s
  | .pdOnStart d => Sys2Proof.Machine.execPdOnStart d s
  | .pdSeqAdvance d ack => Sys2Proof.Machine.execPdSeqAdvance d ack s
  | .pdSeqTimeout d ack => Sys2Proof.Machine.execPdSeqTimeout d ack s
  | .pswAckLost d ack => Sys2Proof.Machine.execPswAckLost d ack s
  | .pdCtrlClear d ack => Sys2Proof.Machine.execPdCtrlClear d ack s
  | .xclkLoss => Sys2Proof.Machine.execXclkLoss s
  | .xclkRestore => Sys2Proof.Machine.execXclkRestore s
  | .brefLock xclkPpm => Sys2Proof.Machine.execBrefLock xclkPpm s
  | .brefLoss cause => Sys2Proof.Machine.execBrefLoss cause s
  | .hkConversion r => Sys2Proof.Machine.execHkConversion r s
  | .hkRoundEnd => Sys2Proof.Machine.execHkRoundEnd s
  | .kettleUpdate => Sys2Proof.Machine.execKettleUpdate s
  | .kettleCorrection => Sys2Proof.Machine.execKettleCorrection s
  | .boardHotAssert => Sys2Proof.Machine.execBoardHotAssert s
  | .boardHotRelease => Sys2Proof.Machine.execBoardHotRelease s
  | .gongOrderlyDeadline => Sys2Proof.Machine.execGongOrderlyDeadline s
  | .gongCtrlRailsOff => Sys2Proof.Machine.execGongCtrlRailsOff s
  | .gongRailsOff => Sys2Proof.Machine.execGongRailsOff s
  | .gongCtrlRestart => Sys2Proof.Machine.execGongCtrlRestart s
  | .budgetPeriodStart => Sys2Proof.Machine.execBudgetPeriodStart s
  | .switchSubmit p => Sys2Proof.Machine.execSwitchSubmit p s
  | .markerAccept kind pid p scope desc => Sys2Proof.Machine.execMarkerAccept kind pid p scope desc s
  | .markerBegin => Sys2Proof.Machine.execMarkerBegin s
  | .markerEnd => Sys2Proof.Machine.execMarkerEnd s
  | .markerPreload => Sys2Proof.Machine.execMarkerPreload s
  | .descriptorReadDone row => Sys2Proof.Machine.execDescriptorReadDone row s
  | .preloadExpire p => Sys2Proof.Machine.execPreloadExpire p s
  | .brushFloorStep n => Sys2Proof.Machine.execBrushFloorStep n s
  | .capTimerExpiry => Sys2Proof.Machine.execCapTimerExpiry s
  | .fmaxRewrite => Sys2Proof.Machine.execFmaxRewrite s
  | .ageingMeasure slowdownPpm => Sys2Proof.Machine.execAgeingMeasure slowdownPpm s
  | .pidClear q => Sys2Proof.Machine.execPidClear q s
  | .dlUpRise p => Sys2Proof.Machine.execDlUpRise p s
  | .dlUpFall p => Sys2Proof.Machine.execDlUpFall p s
  | .linkSilenceTimeout p => Sys2Proof.Machine.execLinkSilenceTimeout p s
  | .frameSlot p => Sys2Proof.Machine.execFrameSlot p s
  | .expressReceive p ex => Sys2Proof.Machine.execExpressReceive p ex s
  | .idleFrame p f cut age => Sys2Proof.Machine.execIdleFrame p f cut age s
  | .beatFrame p f cut age => Sys2Proof.Machine.execBeatFrame p f cut age s
  | .dreqFrame p f cut age => Sys2Proof.Machine.execDreqFrame p f cut age s
  | .drspFrame p f cut age => Sys2Proof.Machine.execDrspFrame p f cut age s
  | .dreqSend p => Sys2Proof.Machine.execDreqSend p s
  | .drspTimeout p id => Sys2Proof.Machine.execDrspTimeout p id s
  | .beatSend => Sys2Proof.Machine.execBeatSend s
  | .genUpFrame p f cut age => Sys2Proof.Machine.execGenUpFrame p f cut age s
  | .genDownFrame p f cut age => Sys2Proof.Machine.execGenDownFrame p f cut age s
  | .genUpSend => Sys2Proof.Machine.execGenUpSend s
  | .gPolicySetWrite g v => Sys2Proof.Machine.execGPolicySetWrite g v s
  | .genOfferWrite v => Sys2Proof.Machine.execGenOfferWrite v s
  | .paceEvaluate slot => Sys2Proof.Machine.execPaceEvaluate slot s
  | .groupStale g => Sys2Proof.Machine.execGroupStale g s
  | .paceStaleExpiry => Sys2Proof.Machine.execPaceStaleExpiry s
  | .collRoundStart => Sys2Proof.Machine.execCollRoundStart s
  | .collUpFrame p f cut age => Sys2Proof.Machine.execCollUpFrame p f cut age s
  | .collUpDeadline => Sys2Proof.Machine.execCollUpDeadline s
  | .collDownDeadline => Sys2Proof.Machine.execCollDownDeadline s
  | .collDownFrame p f cut age => Sys2Proof.Machine.execCollDownFrame p f cut age s
  | .grantApply => Sys2Proof.Machine.execGrantApply s
  | .bulkDataFrame p f cut age => Sys2Proof.Machine.execBulkDataFrame p f cut age s
  | .bulkStart p f cut age => Sys2Proof.Machine.execBulkStart p f cut age s
  | .bulkEnd p f cut age => Sys2Proof.Machine.execBulkEnd p f cut age s
  | .bulkAck p f cut age => Sys2Proof.Machine.execBulkAck p f cut age s
  | .bulkNak p f cut age => Sys2Proof.Machine.execBulkNak p f cut age s
  | .bulkChunkSend p bytes => Sys2Proof.Machine.execBulkChunkSend p bytes s
  | .bulkPauseEnd p => Sys2Proof.Machine.execBulkPauseEnd p s
  | .reconcile => Sys2Proof.Machine.execReconcile s
  | .reconcileApply => Sys2Proof.Machine.execReconcileApply s
  | .eSnap => Sys2Proof.Machine.execESnap s
  | .energySnapshot => Sys2Proof.Machine.execEnergySnapshot s
  | .winEnable w => Sys2Proof.Machine.execWinEnable w s
  | .winDisable w => Sys2Proof.Machine.execWinDisable w s
  | .telSampleDue w => Sys2Proof.Machine.execTelSampleDue w s
  | .telFlush w => Sys2Proof.Machine.execTelFlush w s
  | .telRecordIssue w => Sys2Proof.Machine.execTelRecordIssue w s
  | .tipCommit tag err => Sys2Proof.Machine.execTipCommit tag err s
  | .tipCommitError tag err => Sys2Proof.Machine.execTipCommitError tag err s
  | .fpWatchdog k => Sys2Proof.Machine.execFpWatchdog k s
  | .fpTrap k => Sys2Proof.Machine.execFpTrap k s
  | .fpMemUe k => Sys2Proof.Machine.execFpMemUe k s
  | .fpFatal k => Sys2Proof.Machine.execFpFatal k s
  | .fpCtrlRestart k => Sys2Proof.Machine.execFpCtrlRestart k s
  | .fpBoot k r => Sys2Proof.Machine.execFpBoot k r s
  | .handoverDone k => Sys2Proof.Machine.execHandoverDone k s
  | .handoverTimeout k => Sys2Proof.Machine.execHandoverTimeout k s
  | .checkpointWrite k => Sys2Proof.Machine.execCheckpointWrite k s
  | .tablesCheck r => Sys2Proof.Machine.execTablesCheck r s
  | .updChunkWrite x m => Sys2Proof.Machine.execUpdChunkWrite x m s
  | .chunkHeld good => Sys2Proof.Machine.execChunkHeld good s
  | .updActivate => Sys2Proof.Machine.execUpdActivate s
  | .updConfirm => Sys2Proof.Machine.execUpdConfirm s
  | .updAbort => Sys2Proof.Machine.execUpdAbort s
  | .updCancel => Sys2Proof.Machine.execUpdCancel s
  | .updFallback => Sys2Proof.Machine.execUpdFallback s
  | .activationStart => Sys2Proof.Machine.execActivationStart s
  | .activationMove => Sys2Proof.Machine.execActivationMove s
  | .actLimitExpiry => Sys2Proof.Machine.execActLimitExpiry s
  | .confLimitExpiry => Sys2Proof.Machine.execConfLimitExpiry s
  | .settingsSave r => Sys2Proof.Machine.execSettingsSave r s
  | .saveNow => Sys2Proof.Machine.execSaveNow s
  | .profileSave => Sys2Proof.Machine.execProfileSave s
  | .coefReload n words fromStore => Sys2Proof.Machine.execCoefReload n words fromStore s
  | .recordDrain => Sys2Proof.Machine.execRecordDrain s
  | .chestProgram good => Sys2Proof.Machine.execChestProgram good s
  | .chestErase good => Sys2Proof.Machine.execChestErase good s
  | .chestScanDone r => Sys2Proof.Machine.execChestScanDone r s
  | .chestFetchDone dump r => Sys2Proof.Machine.execChestFetchDone dump r s
  | .startCseqWrite x v => Sys2Proof.Machine.execStartCseqWrite x v s
  | .hbKick v => Sys2Proof.Machine.execHbKick v s
  | .heartbeatMissed => Sys2Proof.Machine.execHeartbeatMissed s
  | .stopCtrlDump x => Sys2Proof.Machine.execStopCtrlDump x s
  | .stopCtrlStopDump x => Sys2Proof.Machine.execStopCtrlStopDump x s
  | .stopCtrlRelease x => Sys2Proof.Machine.execStopCtrlRelease x s
  | .stopCtrlAbort x => Sys2Proof.Machine.execStopCtrlAbort x s
  | .hangCut stamps => Sys2Proof.Machine.execHangCut stamps s
  | .dumpEraseDone good => Sys2Proof.Machine.execDumpEraseDone good s
  | .dumpSectorDone good => Sys2Proof.Machine.execDumpSectorDone good s
  | .stopRelease => Sys2Proof.Machine.execStopRelease s
  | .dumpClear v => Sys2Proof.Machine.execDumpClear v s
  | .dynamicAddressAssignment a => Sys2Proof.Machine.execDynamicAddressAssignment a s
  | .smbAlertResponse => Sys2Proof.Machine.execSmbAlertResponse s
  | .softResetRelease => Sys2Proof.Machine.execSoftResetRelease s
  | .vaonResetRelease => Sys2Proof.Machine.execVaonResetRelease s
  | .negativeCurrentLimit p => Sys2Proof.Machine.execNegativeCurrentLimit p s
  | .diodeEmulationZeroCurrent p => Sys2Proof.Machine.execDiodeEmulationZeroCurrent p s

end Sys2Proof.Machine
end

