-- ==== Sys2Proof/Machine/Observe.lean ====
section
/-! DEFINITION. The observation pins CLK_OBS and BEAT_OBS (R71, R214). -/

namespace Sys2Proof.Machine

/-- The period of an observation source in 1/1000 HCLK: that of HCLK, MCLK, XCLK, BREF or a recovered clock, a domain's present one, or STO. -/
def State.obsPeriod (s : State) (src : Nat) : Nat :=
  match src / 256 with
  | 1 => 1000
  | 2 => 500
  | 4 => 5120
  | 5 => 5120
  | 6 => s.cdPeriod (src % 256)
  | _ => 32000

/-- Whether an observation source has edges; those of a domain stop with its output. -/
def State.obsLive (s : State) (src : Nat) : Bool :=
  match src / 256 with
  | 0 => false
  | 3 => s.clk.xclkLive
  | 4 => s.clk.brefLive
  | 5 => (s.port (src % 256)).up
  | 6 => s.hasEdges (src % 256)
  | _ => true

/-- The length of a phase of CLK_OBS (R214): an odd divisor gives (d+1)/2 source periods high and (d-1)/2 low; divisor 1 shows the source, of
which half a period is taken as high (log 84). -/
def State.obsPhase (s : State) (high : Bool) : Nat :=
  let p := s.obsPeriod s.obs.src
  if s.obs.div = 1 then max 1 (p / 2) else p * (if high then (s.obs.div + 1) / 2 else s.obs.div / 2)

/-- Whether OBS_SRC and OBS_DIV select what CLK_OBS does not show yet. -/
def State.obsChanged (s : State) : Bool := s.rdN Obs.obsSrc ≠ s.obs.src || s.rdN Obs.obsDiv ≠ s.obs.div

/-- A changed selection takes effect at an instant of the low output: low for at least 2 periods of the new source (R214), how much longer is
open. -/
def State.obsTake (s : State) (at_ : Nat) : State :=
  let src := s.rdN Obs.obsSrc
  let p := s.obsPeriod src
  ({ s with obs := { s.obs with
      src := src, div := s.rdN Obs.obsDiv, high := false, edgeAt := at_ + 2 * p + (s.freeVal 204).toNat % p } }).useFree

/-- The edge of CLK_OBS that is due: a high phase ends with the selection of its moment, a low one with a rise. -/
def State.obsEdge (s : State) : State :=
  let t := s.obs.edgeAt
  if s.obs.high then
    if s.obsChanged then s.obsTake t
    else { s with obs := { s.obs with high := false, edgeAt := t + s.obsPhase false } }
  else { s with obs := { s.obs with high := true, edgeAt := t + s.obsPhase true } }

/-- CLK_OBS over one HCLK (R214): off it is low; a source without edges holds it; a change while it is low takes effect at once. -/
def State.clkObs (s : State) : State :=
  if !s.obs.high && s.obsChanged then s.obsTake (1000 * s.hclk)
  else if s.obs.src / 256 = 0 then s
  else if !s.obsLive s.obs.src then { s with obs := { s.obs with edgeAt := s.obs.edgeAt + 1000 } }
  else
    let due := fun (s : State) => decide (s.obs.edgeAt < 1000 * (s.hclk + 1))
    let s1 := if due s then s.obsEdge else s
    if due s1 then s1.obsEdge else s1

/-- BEAT_OBS at the start of a beat (R71, R214): a new divisor from the next beat that is its multiple. -/
def State.beatObsStart (s : State) : State :=
  let d := s.rdN Obs.beatDiv
  let eff := if s.beat % d = 0 then d else s.obs.beatDiv
  { s with obs := { s.obs with beatDiv := eff, beatAt := if s.beat % eff = 0 then some s.hclk else s.obs.beatAt } }

/-- The level of BEAT_OBS: high for 64 HCLK from the start of a beat it shows. -/
def State.beatObs (s : State) : Bool := match s.obs.beatAt with | some t => decide (s.hclk < t + 64) | none => false

end Sys2Proof.Machine
end

