-- ==== Sys2Proof/Machine/Tick.lean ====
section
/-! DEFINITION. One HCLK of time (R7, R25, R59, R111, R216, R258, R356, R372): what the step does on an empty queue. -/

namespace Sys2Proof.Machine

/-- Causes whose condition still stands are set again (R111). -/
def State.relatch (s : State) : State := forEach s.standingCauses (fun b s => s.cause b) s

/-- The windows that hold PM_READY low count the HCLK (R352). -/
def State.countBackPressure (s : State) : State := forEach winList (fun w s => if s.winBlocks w then s.bump (Win.bpHclk w) else s) s

/-- The processors' newest records age by 1 µs (R399). -/
def State.ageRecords (s : State) : State :=
  forEach fpList (fun k s => if (s.fp k).areaSeq = 0 then s else s.bump (Fp.ckptAge k)) s

/-- FREQ_MEAS (R216): the output edges of the last beat. -/
def State.measureFreq (s : State) : State :=
  forEach cdList (fun c s => (s.wr (Cd.freqMeas c) ((s.dcu c).beatEdges : Nat)).setDcu c { s.dcu c with beatEdges := 0 }) s

/-- While BREF is locked, XCLK is measured against it (R185): XCLK_PPM then shows the average over the last 1,024,000 beats, a free value
(log 95), since no command brings the measurement but BREF_LOCK. -/
def State.measurePpm (s : State) : State :=
  if s.rd Clk.brefState = 2 && s.clk.xclkLive && decide (s.beat % 1024000 = 0) then (s.wr Clk.xclkPpm (s.freeVal 201)).useFree else s

/-- A beat ends. -/
def State.beatEnd (s : State) : State := s.measureFreq.beatInstances.beatPower.plansDue.ageRecords.checkpointsDue.ageLost.measurePpm.beatObsStart

/-- Beat time, a 64-bit count of beats of 800 HCLK each, after one more HCLK (R7). -/
def nextBeatHclk (b : Nat) : Nat := (b + 1) % (800 * 2 ^ 64)

/-- A CMD_START waits 8 HCLK at most for an announcement on its way (R160). -/
def State.lateStarts (s : State) : State := s.settleStarts (fun e => s.elapsed e.at_ 8)

/-- The inhibit begins where VIN_SENSE has fallen below 0.840 V (R78, R421). -/
def State.vinInhibit (s : State) : State := if s.start.hubUp && s.ibc.vinLow then s.inhibitBegin else s

/-- The temperature correction in force moves by at most 0.01 ppm per HCLK toward COMP_NOW (R184); DESIGN CHOICE, log 135: toward 0 while
COMP_EN is 0, and it stands while the hub runs on STO. -/
def State.correctTick (s : State) : State :=
  let goal : Int := if s.rd Clk.compEn = 0 then 0
    else if s.clk.xclkLive && s.rd Clk.refSrc ≠ 0 then s.rd Clk.compNow else s.clk.corrApplied
  { s with clk := { s.clk with corrApplied := clampI (s.clk.corrApplied - 10) (s.clk.corrApplied + 10) goal } }

/-- One HCLK passes; beat time runs once the hub has left reset. -/
def State.tickHclk (s : State) : State :=
  let s0 := s.startReview.cutDue.stopRelease.dumpTick.restartsDone.dirWrite.heldRow.snareTick.clkObs.correctTick.fabricTick.rspEdge.thermalTick.energyTick
  let s1 : State := { s0 with hclk := s.hclk + 1, beatHclk := if s.start.hubUp then nextBeatHclk s.beatHclk else s.beatHclk }
  let s2 := s1.relatch.refill.countBackPressure.watchLost.vinInhibit.lateStarts
  when (s1.start.hubUp && s1.beatHclk % 800 = 0) (fun s => s.beatEnd) s2

end Sys2Proof.Machine
end

