-- ==== Sys2Proof/Safety.lean ====
section
/-! DEFINITION. What the claims are stated in: a command that completes with an effect, the subs that follow the state after every
command, the levels as they stand when they are up to the state, the stops a run may meet. -/

namespace Sys2Proof.Machine

/-- A command completes: it answers the next state with this effect, the levels of R36, R37, R52 and R111 brought up to it. -/
def Completes (i : Instr) (s t : State) : Prop := exec i s = .next t.settle

/-- A command completes with a next state of which P holds. -/
def CompletesWith (i : Instr) (s : State) (P : State → Prop) : Prop := ∃ t, exec i s = .next t ∧ P t

/-- The subs that follow the state after every command: interrupt causes, alarms, the ladder level, ring, tag and queue depths,
messages in flight, the mode of the shared port, the processors' summary with its record, the update state. -/
def levelSubs : List Nat :=
  [Irq.irqStatus, Alarm.alarmActive, Alarm.alarmLatched, Alarm.rung2Rails, Alarm.rung4Rails, Alarm.rung5Rails, Ladder.ladderLevel,
    Ladder.levelSince, Ladder.rungsActive, Ladder.levelChanges, DictSt.dictInflight, Act.actInflight, Ring.cqPeek 0, Ring.cqDepth 0,
    Ring.cqPeek 1, Ring.cqDepth 1, EnTel.sharedEff, Fw.fpUp, Fw.fpDown, Fw.fixedMode, Fp.crashesWindow 0, Fp.crashesWindow 1,
    Fp.crashesWindow 2, Fp.crashesWindow 3, Upd.updState, Ev.recqDepth, Ev.recqMax, Ev.recqLost]

/-- The subs that follow the state, and SHELF_LOST of every unit: a record of one unit can put one of another behind the last place of the
queue (R412). -/
def levelKeys : List Nat := levelSubs ++ (List.range 128).map Shelf.shelfLost

/-- The levels are up to the state: IRQ_N is low exactly while a cause is set and enabled (R52), the ladder level is the smallest active
rung (R36), the rails of rungs 2, 4 and 5 are shown (1101), the rings, tags, queue and messages show their depths (1220, 1221, 1210:03,
A000:01, 1202:01), fixed mode is entered while a processor is DOWN (R369), nothing is to be notified with NOTIFY_EID 0 (R105). -/
def State.LevelsHold (s : State) : Prop :=
  (s.irqN = decide (s.rdN Irq.irqStatus &&& s.rdN Irq.irqEnable = 0))
  ∧ s.rd Ladder.ladderLevel = s.levelOf
  ∧ s.rd Alarm.rung2Rails = s.rung2Mask ∧ s.rd Alarm.rung4Rails = s.rung4Mask ∧ s.rd Alarm.rung5Rails = s.rung5Mask
  ∧ s.rd Alarm.alarmActive = s.alarmsOf
  ∧ s.rd (Ring.cqDepth 0) = fit (Ring.cqDepth 0) s.hub.ringH.length
  ∧ s.rd (Ring.cqDepth 1) = fit (Ring.cqDepth 1) s.hub.ringM.length
  ∧ s.rd Act.actInflight = fit Act.actInflight s.hub.tags.length
  ∧ s.rd DictSt.dictInflight = fit DictSt.dictInflight s.inFlight
  ∧ s.rd Fw.fixedMode = s.fixedOf
  ∧ (s.rd Xport.notifyEid = 0 → s.notify = [])

/-- A state with what every command may change put back from another: the dictionary, the interrupt line, the bits to notify, the
record queue with its losses, when an activation became quiet or paused, and when something last tainted a partition's learning.
`t.apart s = s` says that every other part of the machine is as it was. -/
def State.apart (t s : State) : State :=
  { t with
    dict := s.dict, irqN := s.irqN, notify := s.notify, lostNow := s.lostNow
    shelf := { t.shelf with queue := s.shelf.queue, lost := s.shelf.lost }
    fw := { t.fw with act := s.fw.act }
    budget := { t.budget with cum := s.budget.cum } }

/-- A port takes a frame of a type (R300, R302, R304, R314): the link is not DOWN, the port is used, the CRC is right, and the link's
generation carries the type. -/
def State.takesFrame (s : State) (p t : Nat) (f : BitVec 80) : Bool :=
  s.rd (Port.linkState p) ≠ 0 && s.usesPort p && frameCrc f.toNat = f.toNat % 256 && frameType f.toNat = t && decide (t < 10)
    && decide (typeGen t ≤ s.linkGen p)

/-- The subs, by base index and sub, whose write acts beside storing its value, or whose write is a row of its own. -/
def actsBeside : List (Nat × Nat) :=
  [(0x1100, 3), (0x1100, 4), (0x1210, 1), (0x1210, 2), (0x2000, 6), (0x2000, 8), (0x2000, 0xD), (0x3200, 1), (0x3210, 3),
    (0x3240, 1), (0x4000, 0x15), (0x5090, 5), (0x7000, 0xA), (0x7000, 0xB), (0x7020, 1), (0x9030, 9), (0xA020, 3), (0xA030, 5)]

/-- Whether a write of a sub only stores its value, under its range rule (R89, R90). -/
def storesOnly (key : Nat) : Bool :=
  match rowOf key with
  | none => false
  | some (i, r) =>
    r.wrule ≠ .act && !actsBeside.contains (key / 256 - i, key % 256) && !(key / 256 - i = 0x4000 && decide (0x40 ≤ key % 256))

/-- What a run may stop at: nothing but an access to production test (R112). -/
def harmlessStop : Host.Outcome State Fault Refusal → Bool
  | .next _ => true
  | .fault _ => false
  | .refused .vendorReserved => true
  | .refused _ => false

end Sys2Proof.Machine
end

