-- ==== Sys2Proof/Certificates/Slice0/Obligations.lean ====
section
/-! DEFINITION. What is to be proved of the block: where every command completes and with which effect, family by family, with what it
leaves; the rules of spec/ on registers, records, rings and the ladder; and the invariants that every step keeps. -/

open Sys2Proof Sys2Proof.Machine

/-- O1. A POR_N or VAON reset returns every sub but those that stand to its default, with nothing under way (R46, R90, R136, R447, R454, R456, R457).
Where the manual leaves a point open the clauses follow the model's choices: log 4, log 17. -/
def Obligations.ResetsRestoreDefaults : Prop :=
  (∀ (s : State),
      CompletesWith .powerOnReset s (fun t => t.start = { ({} : StartInt) with
      store := s.storeLeft, storedTrims := s.start.storedTrims, erased := (s.start.lcNext = some 2 || s.start.lcNext = some 4 || (s.start.erased && !s.start.settingsDone)) }
      ∧ t.hub = {} ∧ t.loops = [] ∧ t.dcus = [] ∧ t.chest = {} ∧ t.hang = {}
      ∧ t.pending = s.pending ∧ t.hclk = 0 ∧ t.beatHclk = 0
      ∧ t.rd Lc.lcState = fit Lc.lcState ((s.start.lcNext.map Int.ofNat).getD (s.rd Lc.lcState))
      ∧ t.rd Lc.lcFusesLeft = fit Lc.lcFusesLeft (s.rd Lc.lcFusesLeft) ∧ t.rd KeyLad.revoked = fit KeyLad.revoked (s.rd KeyLad.revoked)
      ∧ (∀ p, p < 96 → s.rd (Ph.phState p) = 5 → ∀ k ∈ faultCounts p, t.rd k = fit k (s.rd k))
      ∧ ∀ k, k ∉ levelKeys → k ∉ [Lc.lcState, Lc.lcFusesLeft, KeyLad.revoked, LcAuth.lcNonce] →
      (∀ p, p < 96 → s.rd (Ph.phState p) = 5 → k ∉ faultCounts p) → t.rd k = dictDefault k))
  ∧ (∀ (s : State),
      CompletesWith .vaonReset s (fun t => t.start = { ({} : StartInt) with
      store := s.storeLeft, storedTrims := s.start.storedTrims, erased := (s.start.lcNext = some 2 || s.start.lcNext = some 4 || (s.start.erased && !s.start.settingsDone)),
      strapSmb := s.start.strapSmb, porLow := s.start.porLow, vaonAt := some 0 }
      ∧ t.hub = {} ∧ t.loops = []
      ∧ t.pending = s.pending ∧ t.rd Clk.oscSettle = fit Clk.oscSettle (s.rd Clk.oscSettle)
      ∧ (∀ p, p < 96 → s.rd (Ph.phState p) = 5 → ∀ k ∈ faultCounts p, t.rd k = fit k (s.rd k))
      ∧ ∀ k, k ∉ levelKeys → k ∉ [Lc.lcState, Lc.lcFusesLeft, KeyLad.revoked, LcAuth.lcNonce, Clk.oscSettle] →
      (∀ p, p < 96 → s.rd (Ph.phState p) = 5 → k ∉ faultCounts p) → t.rd k = dictDefault k))

/-- O2. From POR_N to the XCLK count: straps, the hub, the flash reset and the eight tries (R45, R183, R443, R444, R447).
Where the manual leaves a point open the clauses follow the model's choices: log 5, log 107. -/
def Obligations.BringUpReachesClocks : Prop :=
  (∀ (s : State) (o a : BitVec 3),
      s.start.porLow = true →
      s.start.vaonAt = none →
      CompletesWith (.porRelease o a) s (fun t => t.start.porLow = false ∧ t.start.s0 = true ∧ t.start.porAt = s.hclk
      ∧ t.start.strapSmb = a.toNat ∧ t.rd Clk.oscSettle = (o.toNat : Int)))
  ∧ (∀ (s : State) (o a : BitVec 3) (x : Nat),
      s.start.porLow = true →
      s.start.vaonAt = some x →
      CompletesWith (.porRelease o a) s (fun t => t.start.porLow = false ∧ t.start.s0 = s.start.s0 ∧ t.start.vaonAt = some x
      ∧ t.start.strapSmb = a.toNat ∧ t.rd Clk.oscSettle = (o.toNat : Int)))
  ∧ (∀ (s : State) (x : Nat),
      s.start.vaonAt = some x →
      s.start.porLow = false →
      x + 800000 ≤ s.hclk →
      Completes .vaonResetRelease s { s with start := { s.start with s0 := true, vaonAt := none, porAt := s.hclk, settleAt := s.hclk } })
  ∧ (∀ (s : State),
      s.start.s0 = true →
      s.start.hubUp = false →
      CompletesWith .hubResetExit s (fun t => t.start.hubUp = true ∧ t.start.hubAt = s.hclk ∧ t.beatHclk = 0 ∧ t.beat = 0 ∧ t.tick = 0
      ∧ 1 ≤ t.rd Ident.ringLat ∧ t.rd Ident.ringLat ≤ 32))
  ∧ (∀ (s : State),
      s.start.hubUp = true →
      s.start.xspiAt = none →
      8000 ≤ s.beatHclk →
      Completes .xspiResetRelease s { s with start := { s.start with xspiAt := some s.hclk } })
  ∧ (∀ (s : State),
      s.start.s0 = true →
      s.start.counting = false →
      s.start.dcusUp = false →
      s.rd Clk.oscTries < 8 →
      s.start.settleAt + 200000 * 2 ^ s.rdN Clk.oscSettle ≤ s.hclk →
      Completes .oscSettleElapsed s { s with start := { s.start with counting := true, settleAt := s.hclk } })
  ∧ (∀ (s : State) (c : BitVec 16),
      s.start.counting = true →
      s.start.settleAt + 4096 ≤ s.hclk →
      124 ≤ c.toNat →
      c.toNat ≤ 132 →
      CompletesWith (.xclkCountDone c) s (fun t => t.start.counting = false ∧ t.start.dcusUp = true ∧ t.clk.xclkLive = true ∧ t.clk.xclkOk = true
      ∧ t.rd Clk.refSrc = 1 ∧ t.rd Clk.oscTries = fit Clk.oscTries (s.rd Clk.oscTries + 1)))
  ∧ (∀ (s : State) (c : BitVec 16),
      s.start.counting = true →
      s.start.settleAt + 4096 ≤ s.hclk →
      (c.toNat < 124 ∨ 132 < c.toNat) →
      s.rd Clk.oscTries < 7 →
      CompletesWith (.xclkCountDone c) s (fun t => t.start.counting = false ∧ t.start.settleAt = s.hclk ∧ t.start.dcusUp = s.start.dcusUp
      ∧ t.rd Clk.oscTries = fit Clk.oscTries (s.rd Clk.oscTries + 1) ∧ t.rd Start.startState = s.rd Start.startState
      ∧ t.rd Clk.refSrc = s.rd Clk.refSrc))
  ∧ (∀ (s : State) (c : BitVec 16),
      s.start.counting = true →
      s.start.settleAt + 4096 ≤ s.hclk →
      (c.toNat < 124 ∨ 132 < c.toNat) →
      s.rd Clk.oscTries = 7 →
      s.rd Start.startState = 0 →
      CompletesWith (.xclkCountDone c) s (fun t => t.start.counting = false ∧ t.start.dcusUp = s.start.dcusUp ∧ t.rd Clk.oscTries = 8
      ∧ t.rd Start.startState = 6 ∧ t.rd Start.failCause = 1 ∧ t.rd Clk.refSrc = s.rd Clk.refSrc))

/-- O3. The boot directory, the two parts of the native test, its retry and the shutdown-time test complete; out of turn they change nothing or are rejected (R298, R383, R443, R449, R450, R451, R452, R453, R454, R461).
Where the manual leaves a point open the clauses follow the model's choices: log 48, log 76, log 107, log 129, log 131, log 134, log 136. -/
def Obligations.DirectoryAndNativeTest : Prop :=
  (∀ (s : State) (d : BootDir) (x : Nat),
      s.start.xspiAt = some x →
      x + 800000 ≤ s.hclk →
      s.start.dirRead = false →
      s.fw.dirs = [] →
      CompletesWith (.bootDirectoryRead d) s (fun t => t.start.dirRead = true ∧ t.start.part1At = s.hclk ∧ t.rd St.stState = 1
      ∧ t.rd St.stForm = (if s.start.store.getD d.sdValid then 1 else 0)
      ∧ t.rd Sd.sdStored = (if s.start.store.getD d.sdValid ∨ s.start.store.isSome then 2 else 0)
      ∧ (s.start.store.getD d.sdValid = true → t.start.store = some false) ∧ t.rd Upd.minSvn = (d.minSvn.toNat : Int)
      ∧ t.rd (Slot.slotState 0) = (d.slotA.val : Int) ∧ t.rd (Slot.slotState 1) = (d.slotB.val : Int)
      ∧ t.rd Fw.activeSlot = (if d.slotB = 3 ∨ d.slotB = 4 then 1 else 0)
      ∧ (∀ r g, d.root = some (r, g) → (∀ e ∈ s.fw.marks, e.1 ≠ Node.rootMode) → t.rd Node.rootMode = if r then 1 else 0)))
  ∧ (∀ (s : State) (d : BootDir) (x : Nat) (k : Nat) (r : DirRec),
      s.start.xspiAt = some x →
      x + 800000 ≤ s.hclk →
      s.start.dirRead = false →
      s.fw.dirs ≠ [] →
      newestDir s.fw.dirs d.bad.toNat = some (k, r) →
      CompletesWith (.bootDirectoryRead d) s (fun t => t.start.dirRead = true ∧ t.start.part1At = s.hclk ∧ t.rd St.stState = 1
      ∧ t.rd St.stForm = (if s.start.store.getD d.sdValid then 1 else 0) ∧ t.rd Upd.minSvn = fit Upd.minSvn (r.minSvn : Int)
      ∧ t.rd (Slot.slotState 0) = fit (Slot.slotState 0) (r.stA : Int) ∧ t.rd (Slot.slotState 1) = fit (Slot.slotState 1) (r.stB : Int)
      ∧ t.rd Fw.activeSlot = fit Fw.activeSlot (r.active : Int)))
  ∧ (∀ (s : State) (d : BootDir),
      (s.start.xspiAt = none ∨ s.start.dirRead = true ∨ ∃ x, s.start.xspiAt = some x ∧ s.hclk < x + 800000) →
      Completes (.bootDirectoryRead d) s s)
  ∧ (∀ (s : State) (conv diode : List Word32),
      s.start.dirRead = true →
      s.rd St.stState = 1 →
      s.rd St.stFailed = 0 →
      s.start.part1Done = false →
      s.start.part2Done = false →
      CompletesWith (.selftestPart1Done conv diode) s (fun t => t.start.part1Done = true ∧ t.start.part2Done = false
      ∧ t.rd (Blk.bSig 0) = ((sigOf conv).toNat : Int) ∧ t.rd (Blk.bSig 1) = ((sigOf diode).toNat : Int)
      ∧ t.rd St.stFailed = (if sigOf conv = Config.bExpect 0 then 0 else 1) + (if sigOf diode = Config.bExpect 1 then 0 else 2)
      ∧ t.hk.running = (s.hk.running || (decide (sigOf conv = Config.bExpect 0) && decide (sigOf diode = Config.bExpect 1)))))
  ∧ (∀ (s : State) (conv diode : List Word32),
      (s.start.dirRead = false ∨ s.start.part1Done = true ∨ (s.rd St.stState ≠ 1 ∧ s.rd St.stState ≠ 4)) →
      Completes (.selftestPart1Done conv diode) s s)
  ∧ (∀ (s : State) (d r sn ms : List Word32) (run : LastRun),
      s.start.dirRead = true →
      s.rd St.stState = 1 →
      s.rd St.stFailed = 0 →
      (∀ b, b < 2 → tabGet (fun _ => 0) s.start.sigs b = (Config.bExpect b).toNat) →
      s.start.part1Done = true →
      s.start.dcusUp = true →
      s.start.part2Done = false →
      s.start.settingsDone = false →
      s.rd Lc.lcState ≠ 0 →
      s.rd Start.startState = 0 →
      CompletesWith (.selftestPart2Done d r sn ms run) s (fun t => t.start.part2Done = true
      ∧ t.rd (Blk.bSig 2) = ((sigOf d).toNat : Int) ∧ t.rd (Blk.bSig 5) = ((sigOf ms).toNat : Int)
      ∧ t.rd St.stFailed = (if sigOf d = Config.bExpect 2 then 0 else 4) + (if sigOf r = Config.bExpect 3 then 0 else 8)
      + (if sigOf sn = Config.bExpect 4 then 0 else 16) + (if sigOf ms = Config.bExpect 5 then 0 else 32)
      ∧ t.rd St.stState = (if t.rd St.stFailed = 0 then 2 else 3) ∧ t.rd Start.startState = (if t.rd St.stFailed = 0 then 1 else 6)
      ∧ t.rd Start.failCause = (if t.rd St.stFailed = 0 then 0 else 2)))
  ∧ (∀ (s : State) (d r sn ms : List Word32) (run : LastRun),
      (s.start.part1Done = false ∨ s.start.dcusUp = false ∨ s.start.part2Done = true) →
      Completes (.selftestPart2Done d r sn ms run) s s)
  ∧ (∀ (s : State),
      s.hostUp = true →
      s.rd St.stState = 3 →
      s.start.retries < 3 →
      (∀ n, n < 8 → s.start.failScope.testBit n = true → s.railState n = 0) →
      CompletesWith .stRetry s (fun t => t.rd St.stState = 4 ∧ t.start.retries = s.start.retries + 1 ∧ t.start.failScope = s.start.failScope
      ∧ t.start.part1Done = !(s.rdN St.stFailed = 0 || s.bit St.stFailed 0 || s.bit St.stFailed 1) ∧ t.rd St.stRetry = (s.start.retries + 1 : Int)))
  ∧ (∀ (s : State),
      s.hostUp = true →
      (s.rd St.stState ≠ 3 ∨ 3 ≤ s.start.retries) →
      CompletesWith .stRetry s (fun t => t.rd St.stState = s.rd St.stState ∧ t.start = s.start
      ∧ t.rd DictSt.rejectCount = fit DictSt.rejectCount (s.rd DictSt.rejectCount + 1) ∧ t.rd DictSt.lastReject = fit DictSt.lastReject (St.stRetry * 256 : Nat)))
  ∧ (∀ (s : State),
      s.hostUp = true →
      s.allOff = true →
      s.rd Sd.sdCtrl ≠ 1 →
      CompletesWith .sdCtrlRun s (fun t => t.rd Sd.sdCtrl = 1 ∧ t.start.sdAt = s.hclk ∧ ∀ c, c < 64 → t.rd (Cd.dcoLock c) = 0))
  ∧ (∀ (s : State),
      s.hostUp = true →
      (s.allOff = false ∨ s.rd Sd.sdCtrl = 1) →
      CompletesWith .sdCtrlRun s (fun t => t.rd Sd.sdCtrl = s.rd Sd.sdCtrl ∧ t.start = s.start
      ∧ t.rd DictSt.rejectCount = fit DictSt.rejectCount (s.rd DictSt.rejectCount + 1)))
  ∧ (∀ (s : State) (cs : List (List Word32)),
      s.rd Sd.sdCtrl = 1 →
      cs.length = 6 →
      s.chest.inhibitAt = none →
      CompletesWith (.sdTestDone cs) s (fun t => (∀ b, b < 6 → t.bit Sd.sdFailed b = decide (sigOf (cs.getD b []) ≠ Config.bExpect b))
      ∧ t.rd Sd.sdCtrl = (if t.rd Sd.sdFailed = 0 then 2 else 3) ∧ t.rd Sd.sdBeat = fit Sd.sdBeat (s.beat : Int)
      ∧ (∀ b, b < 6 → t.rd (Blk.bSig b) = ((sigOf (cs.getD b [])).toNat : Int))
      ∧ t.start.store = (if t.rd Sd.sdFailed = 0 then some true else s.start.store) ∧ (t.rd Sd.sdFailed = 0 → t.rd Sd.sdStored = 1)))
  ∧ (∀ (s : State) (cs : List (List Word32)),
      s.rd Sd.sdCtrl ≠ 1 →
      Completes (.sdTestDone cs) s s)

/-- O4. The supply, the rail starts, the release and the failures of the start complete with START_STATE as the rules say (R148, R443, R444, R445, R446, R452, R463).
Where the manual leaves a point open the clauses follow the model's choices: log 65, log 74. -/
def Obligations.SupplyRailsAndRelease : Prop :=
  (∀ (s : State) (v : StoreRead),
      s.rd Start.startState = 1 →
      s.start.settingsDone = false →
      s.bootsDone = true →
      CompletesWith (.startSettingsApply v) s (fun t => t.rd Start.startState = 2 ∨ t.rd Start.startState = 7))
  ∧ (∀ (s : State) (ack : Bool),
      s.rd Start.startState = 2 →
      s.inhibitHere = false →
      s.start.ibcAt = none →
      s.start.gongRestart = false →
      Completes (.ibcStart ack) s ((s.ibcOperation true ack).setStart { s.start with ibcAt := some s.hclk }))
  ∧ (∀ (s : State) (x : Nat),
      s.rd Start.startState = 2 →
      s.start.ibcAt = some x →
      s.start.busOk = false →
      s.busStood = true →
      CompletesWith .ibcReady s (fun t => t.rd Start.startState = 3 ∧ t.start.busOk = true))
  ∧ (∀ (s : State) (x : Nat),
      s.rd Start.startState = 2 →
      s.start.ibcAt = some x →
      x + 800000 * s.rdN Start.ibcWait ≤ s.hclk →
      CompletesWith .ibcWaitTimeout s (fun t => t.rd Start.startState = 6 ∧ t.rd Start.failCause = 4 ∧ t.start.heldFrom = 2))
  ∧ (∀ (s : State) (n : Nat) (l : List Nat),
      s.rd Start.startState = 3 →
      s.inhibitHere = false →
      s.rung1 = false →
      s.startRails = n :: l →
      s.railState n = 0 →
      Completes .startNextRail s (s.railOn n 0))
  ∧ (∀ (s : State) (n m : Nat) (l : List Nat),
      s.rd Start.startState = 3 →
      s.inhibitHere = false →
      s.rung1 = false →
      s.startRails = n :: m :: l →
      s.railState n = 3 →
      s.railState m = 0 →
      (s.rail n).upAt + 800 * s.rdN Start.startGap ≤ s.hclk →
      Completes .startNextRail s (s.railOn m 0))
  ∧ (∀ (s : State),
      s.rd Start.startState = 3 →
      s.startRails = [] →
      s.start.scanDone = false →
      s.startReview.rd Start.startState = 4 ∧ s.startReview.start.readyAt = s.start.readyAt)
  ∧ (∀ (s : State) (x : Nat),
      s.rd Start.startState = 4 →
      s.start.readyAt = some x →
      s.rd Start.startAuto = 1 →
      x + 800 * s.rdN Start.releaseDelay ≤ s.hclk →
      CompletesWith .startRelease s (fun t => t.rd Start.startState = 5 ∧ t.start.released = true ∧ t.start.readyAt = none
      ∧ t.rd Start.tRelease = fit Start.tRelease (usOf 145 (s.hclk - s.start.porAt)) ∧ (s.rd Gong.gongState = 4 → t.rd Gong.gongState = 0)))
  ∧ (∀ (s : State) (x : Nat),
      s.rd Start.startState = 4 →
      s.start.readyAt = some x →
      s.hostUp = true →
      CompletesWith .startCtrlRelease s (fun t => t.rd Start.startCtrl = 1 ∧ t.rd Start.startState = 5 ∧ t.start.released = true))
  ∧ (∀ (s : State),
      s.rd Start.startState ≠ 4 →
      s.hostUp = true →
      CompletesWith .startCtrlRelease s (fun t => t.rd Start.startCtrl = 2 ∧ t.start.released = s.start.released
      ∧ t.rd DictSt.rejectCount = fit DictSt.rejectCount (s.rd DictSt.rejectCount + 1)))
  ∧ (∀ (s : State),
      s.rd Start.startState = 6 →
      s.rd Start.failCause = 4 →
      s.hostUp = true →
      s.chest.inhibitAt = none →
      CompletesWith .startCtrlRetry s (fun t => t.rd Start.startState = 2 ∧ t.rd Start.failCause = 0 ∧ t.rd Start.startCtrl = 1
      ∧ t.start.ibcAt = none))
  ∧ (∀ (s : State),
      s.rd Start.startState = 7 →
      1000 * s.rd Start.brownoutLimit < s.rd Start.pausedUs + s.pauseUs →
      CompletesWith .brownoutTimeout s (fun t => t.rd Start.startState = 6 ∧ t.rd Start.failCause = 6 ∧ t.start.heldFrom = s.start.pausedFrom))

/-- O5. The analogue engine, the write inhibit and the life-cycle commands complete with their entries (R421, R422, R445, R446, R455, R456, R457, R458, R465).
Where the manual leaves a point open the clauses follow the model's choices: log 76, log 77. -/
def Obligations.AnalogueEngineInhibitAndLifeCycle : Prop :=
  (∀ (s : State) (v : Word32),
      s.rd Lc.lcState = 1 →
      getField v.toNat 24 8 = 0 →
      getField v.toNat 16 8 = 0 →
      getField v.toNat 0 16 = 0 →
      s.start.aeRun = none →
      s.allOff = true →
      s.hostUp = true →
      CompletesWith (.aeCtrlRun v) s (fun t => t.rd Ae.aeCtrl = 1 ∧ t.start.aeRun = some (0, s.rdN Ae.aeRepeat, s.hclk)))
  ∧ (∀ (s : State) (v : Word32),
      s.rd Lc.lcState = 1 →
      5 < getField v.toNat 16 8 →
      s.hostUp = true →
      CompletesWith (.aeCtrlRun v) s (fun t => t.rd Ae.aeCtrl = 3 ∧ t.start.aeRun = s.start.aeRun
      ∧ t.rd DictSt.rejectCount = fit DictSt.rejectCount (s.rd DictSt.rejectCount + 1)))
  ∧ (∀ (s : State) (cs : List Word32) (b n x : Nat),
      s.start.aeRun = some (b, n, x) →
      n ≤ 1 →
      CompletesWith (.aeRunDone cs) s (fun t => t.rd Ae.aeCtrl = 2 ∧ t.start.aeRun = none))
  ∧ (∀ (s : State) (cs : List Word32) (b n x : Nat),
      s.start.aeRun = some (b, n, x) →
      1 < n →
      CompletesWith (.aeRunDone cs) s (fun t => ∃ h, t.start.aeRun = some (b, n - 1, h)))
  ∧ (∀ (s : State),
      s.chest.inhibitAt = none →
      CompletesWith .nvmInhibitBegin s (fun t => t.chest.inhibitAt = some s.hclk ∧ t.rd Chest.inhibitSince = fit Chest.inhibitSince (s.beat : Int)
      ∧ t.rd Chest.inhibits = fit Chest.inhibits (s.rd Chest.inhibits + 1) ∧ (s.rd Start.startState = 3 → t.rd Start.startState = 7)))
  ∧ (∀ (s : State) (a : BitVec 16) (b : Word32) (x : Nat),
      s.chest.inhibitAt = some x →
      x + 1600000 ≤ s.hclk →
      s.vinOk = true →
      CompletesWith (.nvmInhibitEnd a b) s (fun t => t.chest.inhibitAt = none ∧ t.rd Chest.lastDipVaon = fit Chest.lastDipVaon (a.toNat : Int)
      ∧ t.rd Chest.lastDipVin = fit Chest.lastDipVin (s.dipVin b.toNat)
      ∧ (s.rd Start.startState = 7 → s.rd Start.pausedUs + s.pauseUs ≤ 1000 * s.rd Start.brownoutLimit →
      t.rd Start.startState = fit Start.startState (s.start.pausedFrom : Int))))
  ∧ (∀ (s : State) (v : Byte),
      s.start.lcPending = none →
      s.start.lcNext = none →
      s.lcReason v.toNat = 0 →
      s.hostUp = true →
      CompletesWith (.lcRequest v) s (fun t => t.rd Lc.lcRequest = 1 ∧ t.start.lcPending = some v.toNat ∧ t.free = s.free + 1
      ∧ t.rd LcAuth.lcNonce = fit LcAuth.lcNonce (s.freeVal 140 % 2 ^ 64)))
  ∧ (∀ (s : State) (v : Byte),
      s.lcReason v.toNat ≠ 0 →
      s.hostUp = true →
      CompletesWith (.lcRequest v) s (fun t => t.rd Lc.lcRequest = 3 ∧ t.rd LcAuth.lcRefuse = fit LcAuth.lcRefuse (max 1 (s.lcReason v.toNat) : Nat)
      ∧ t.start.lcPending = s.start.lcPending ∧ t.rd Lc.lcState = s.rd Lc.lcState))
  ∧ (∀ (s : State) (v : Nat),
      s.start.lcPending = some v →
      s.chest.inhibitAt = none →
      CompletesWith (.lcFuseBlow true) s (fun t => t.rd Lc.lcRequest = 2 ∧ t.start.lcNext = some v ∧ t.start.lcPending = none
      ∧ t.rd Lc.lcFusesLeft = fit Lc.lcFusesLeft (s.rd Lc.lcFusesLeft - 1) ∧ t.rd Lc.lcState = s.rd Lc.lcState))
  ∧ (∀ (s : State) (v : Nat),
      s.start.lcPending = some v →
      s.chest.inhibitAt = none →
      CompletesWith (.lcFuseBlow false) s (fun t => t.rd Lc.lcRequest = 3 ∧ t.rd LcAuth.lcRefuse = 6 ∧ t.start.lcNext = s.start.lcNext
      ∧ t.start.lcPending = none))

/-- O6. The beat scheduler delivers its earliest action, takes every due action off its list with its demand set, and closes a transaction the interlock bounds (R20, R22, R28, R29, R109).
Where the manual leaves a point open the clauses follow the model's choices: log 10, log 34, log 108, log 114. -/
def Obligations.SchedulerCompletes : Prop :=
  (∀ (s : State) (e : Sched),
      e ∈ s.hub.sched →
      e.delivered = false →
      s.now1024 + 64 * 1024 ≤ instant1024 e.beat e.tick →
      (∀ x ∈ s.hub.sched, x.delivered = false → x.order ≠ e.order → instant1024 e.beat e.tick < instant1024 x.beat x.tick) →
      (∀ x ∈ s.hub.sched, x.order = e.order → x = e) →
      Completes .schedDeliver s
      (({ s with hub := { s.hub with sched := s.hub.sched.map (fun (x : Sched) => if x.order = e.order then { x with delivered := true } else x) } }).fabric 1 0))
  ∧ (∀ (s : State),
      CompletesWith .schedApply s (fun t =>
      t.hub.sched = s.hub.sched.filter (fun e => !decide (instant1024 e.beat e.tick ≤ s.now1024))))
  ∧ (∀ (s : State) (e : Sched) (p : Fin 160) (v : Int),
      s.hub.sched = [e] →
      e.txn = ⟨none, s.hub.epoch, 8, aBrush p, v, false⟩ →
      e.fw = none →
      e.delivered = false →
      instant1024 e.beat e.tick ≤ s.now1024 →
      s.passes e.txn none = true →
      s.budget.fw.plans = [] →
      CompletesWith .schedApply s (fun t => t.hub.sched = [] ∧ (t.contribR 8 (aBrush p)).demand = some v))
  ∧ (∀ (s : State) (n : Fin 512) (w : Waiting),
      s.hub.waiting = [w] →
      w.txn.tag = some n.val →
      w.txn.act / 4096 = 1 →
      w.since + 16000 ≤ s.hclk →
      Completes (.interlockClampTimeout n) s
      (({ s with hub := { s.hub with waiting := [] } }).completeWaiting w .clamped 0xE (min w.txn.value (s.rd (Cd.vfCode (w.txn.act % 4096))))))
  ∧ (∀ (s : State) (c : Fin 64),
      (s.dcu c).target = s.rd (Cd.ratioOut c) →
      (s.dcu c).altPending = false →
      CompletesWith (.ratioInPlace c) s (fun t => (t.dcu c).inPlace = true ∧ t.rd (Cd.ratioOut c) = s.rd (Cd.ratioOut c)))

/-- O7. The satellite ring: keep-alive, first copies taken, bad copies discarded, isolation holding the outputs, lane breaks (R15, R16, R17).
Where the manual leaves a point open the clauses follow the model's choices: log 10. -/
def Obligations.SatelliteRingCompletes : Prop :=
  (∀ (s : State),
      s.hub.keepAt + 64 ≤ s.hclk →
      CompletesWith .ringKeepalive s (fun t => t.hub.keepAt = s.hclk
      ∧ ∀ c r, (c, r) ∈ s.hub.sats → (r.broken0 && r.broken1) = false → (t.sat c).isolated = false ∧ (t.sat c).lastGood = s.hclk))
  ∧ (∀ (s : State),
      s.hub.keepAt + 64 ≤ s.hclk →
      (∀ c, (s.sat c).isolated = false) →
      CompletesWith .ringKeepalive s (fun t => t.hub.keepAt = s.hclk ∧ t.hub.ring = s.hub.ring ∧ t.dcus = s.dcus ∧ t.pds = s.pds
      ∧ ∀ k, k ∉ levelKeys → t.rd k = s.rd k))
  ∧ (∀ (s : State) (l : Fin 2) (c : Fin 160) (v : Int),
      s.hub.ring = [⟨c.val, 0, v, true, true, false⟩] →
      c.val < 64 →
      s.rung3Ceil c = none →
      (s.sat c).isolated = false →
      CompletesWith (.ringMessage l c true) s (fun t => t.rd (Cd.ratioOut c) = fit (Cd.ratioOut c) v ∧ (t.sat c).isolated = false
      ∧ (t.sat c).lastGood = s.hclk ∧ t.hub.ring = [⟨c.val, 0, v, decide (l ≠ 0), decide (l ≠ 1), true⟩]))
  ∧ (∀ (s : State) (l : Fin 2) (c : Fin 160) (v hi : Int),
      s.hub.ring = [⟨c.val, 0, v, true, true, false⟩] →
      c.val < 64 →
      s.rung3Ceil c = some hi →
      hi < v →
      (s.sat c).isolated = false →
      CompletesWith (.ringMessage l c true) s (fun t => t.rd (Cd.ratioOut c) = s.rd (Cd.ratioOut c)
      ∧ t.hub.ring = [⟨c.val, 0, v, decide (l ≠ 0), decide (l ≠ 1), true⟩]))
  ∧ (∀ (s : State) (l : Fin 2) (c : Fin 160),
      CompletesWith (.ringMessage l c false) s (fun t => t.hub.sats = s.hub.sats ∧ t.dcus = s.dcus ∧ t.pds = s.pds
      ∧ ∀ k, k ∉ levelKeys → t.rd k = s.rd k))
  ∧ (∀ (s : State) (c : Fin 160),
      (s.sat c).isolated = false →
      (s.sat c).broken0 = false →
      max (s.sat c).lastGood s.hub.keepAt + 256 ≤ s.hclk →
      CompletesWith (.satelliteIsolated c) s (fun t => (t.sat c).isolated = true ∧ t.dcus = s.dcus ∧ t.pds = s.pds
      ∧ ∀ d : Fin 64, t.rd (Cd.ratioOut d) = s.rd (Cd.ratioOut d)))
  ∧ (∀ (s : State) (c : Fin 160),
      (s.sat c).broken0 = false →
      CompletesWith (.ringLaneDown 0 c) s (fun t => (t.sat c).broken0 = true ∧ (t.sat c).broken1 = (s.sat c).broken1
      ∧ t.dcus = s.dcus ∧ t.pds = s.pds))
  ∧ (∀ (s : State) (c : Fin 160),
      (s.sat c).broken1 = false →
      CompletesWith (.ringLaneDown 1 c) s (fun t => (t.sat c).broken1 = true ∧ (t.sat c).broken0 = (s.sat c).broken0
      ∧ t.dcus = s.dcus ∧ t.pds = s.pds))

/-- O8. Triggers, firings, on-times, limits and the ends of bursts change the phase and the rail as the modulator's rules say (R116, R118, R125, R126, R127, R128, R129, R131).
Where the manual leaves a point open the clauses follow the model's choices: log 12, log 78, log 98, log 111, log 119, log 120. -/
def Obligations.ModulatorAndOnTimesComplete : Prop :=
  (∀ (s : State) (n : Fin 8) (v : BitVec 18),
      (s.railState n = 2 ∨ s.regulating n = true) →
      s.feedbackLow n v.toNat = true →
      (s.rail n).inhibit = true →
      s.fireSpaced n = true →
      Completes (.modulatorTrigger ⟨n, v⟩) s ((s.setRail n { s.rail n with trigger := true }).limitHit n 0xFF))
  ∧ (∀ (s : State) (n : Fin 8) (v : BitVec 18),
      (s.railState n = 2 ∨ s.regulating n = true) →
      s.feedbackLow n v.toNat = true →
      (s.rail n).inhibit = false →
      s.fireSpaced n = true →
      Completes (.modulatorTrigger ⟨n, v⟩) s ((s.setRail n { s.rail n with trigger := true }).tryFire n))
  ∧ (∀ (s : State) (n : Fin 8) (v : BitVec 18),
      s.fireSpaced n = false →
      Completes (.modulatorTrigger ⟨n, v⟩) s s)
  ∧ (∀ (s : State) (n : Fin 8) (p : Nat),
      (s.rail n).trigger = true →
      (s.rail n).inhibit = false →
      (s.rail n).ovClamp = false →
      s.fireSpaced n = true →
      (s.nextPhase n).2 = some p →
      CompletesWith (.pendingTriggerFire n) s (fun t => (t.ph p).onTime = true ∧ (t.ph p).pwm = .high ∧ (t.ph p).onAt = s.hclk
      ∧ (t.rail n).trigger = false ∧ (t.rail n).lastFire = some s.hclk
      ∧ t.rd (Ph.firings p) = fit (Ph.firings p) (s.rd (Ph.firings p) + 1)
      ∧ t.rd (Ph.ton p) = fit (Ph.ton p) ((s.nextPhase n).1.onCode n p)))
  ∧ (∀ (s : State) (p : Fin 96) (i0 i1 : BitVec 14),
      (s.ph p).onTime = true →
      (s.ph p).shedDue = false →
      s.rd (Ph.phType p) = 0 →
      CompletesWith (.onTimeEnd p i0 i1) s (fun t => (t.ph p).onTime = false ∧ (t.ph p).pwm = .low ∧ (t.ph p).offAt = some s.hclk
      ∧ t.rd (Ph.iph p) = fit (Ph.iph p) i1.toInt))
  ∧ (∀ (s : State) (p : Fin 96) (i0 i1 : BitVec 14),
      (s.ph p).onTime = true →
      (s.ph p).shedDue = false →
      s.rd (Ph.phType p) = 1 →
      CompletesWith (.onTimeEnd p i0 i1) s (fun t => (t.ph p).onTime = false ∧ (t.ph p).pwm = .low ∧ (t.ph p).offAt = some s.hclk
      ∧ (t.ph p).checks.length = (s.ph p).checks.length + 1 ∧ (t.ph p).zeroArmed = false))
  ∧ (∀ (s : State) (p : Fin 96) (i0 i1 : BitVec 14),
      (s.ph p).onTime = true →
      (s.ph p).shedDue = true →
      s.rd (Rail.phFloor (Config.phRail p)) < ((s.actList (Config.phRail p)).length : Int) →
      CompletesWith (.onTimeEnd p i0 i1) s (fun t => (t.ph p).onTime = false ∧ (t.ph p).pwm = .hiZ ∧ (t.ph p).shedDue = false
      ∧ t.rd (Ph.phState p) = 1))
  ∧ (∀ (s : State) (p : Fin 96) (i : BitVec 14),
      (s.ph p).onTime = true →
      s.overIlim p (s.limitCurrent p i.toInt) = true →
      (s.ph p).limRun < 15 →
      CompletesWith (.cycleLimitHit ⟨p, i⟩) s (fun t => (t.ph p).onTime = false ∧ (t.ph p).limHere = true ∧ (t.ph p).limRun = (s.ph p).limRun + 1
      ∧ t.rd (Ph.ilimHits p) = fit (Ph.ilimHits p) (s.rd (Ph.ilimHits p) + 1) ∧ (t.rail (Config.phRail p)).rung2 = true
      ∧ t.rd (Rail.ilimHits (Config.phRail p)) = fit (Rail.ilimHits (Config.phRail p)) (s.rd (Rail.ilimHits (Config.phRail p)) + 1)))
  ∧ (∀ (s : State) (n : Fin 8) (l : List (BitVec 14)),
      s.onState n = true →
      CompletesWith (.railLimitInhibit n l) s (fun t => (t.rail n).inhibit = decide (t.rd (Rail.ilimEff n) ≤ t.railCurrent n)))
  ∧ (∀ (s : State) (n : Fin 8) (f k x : Nat),
      (s.rail n).burst = some (f, k) →
      (s.rail n).lastHit = some x →
      x + 80000 ≤ s.hclk →
      Completes (.ilimBurstEnd n) s ((s.setRail n { s.rail n with burst := none }).record (srcRail n) 0x0203 f k 1))
  ∧ (∀ (s : State) (p : Fin 96) (i : BitVec 14),
      (s.rail (Config.phRail p)).diode = false ∨ (s.rail (Config.phRail p)).ovClamp = true →
      (s.ph p).onTime = false →
      (s.ph p).pwm = .low →
      s.limitCurrent p i.toInt < -256000 →
      CompletesWith (.negativeCurrentLimit ⟨p, i⟩) s (fun t => (t.ph p).pwm = .hiZ ∧ (t.ph p).hiZAt = s.hclk ∧ t.rails = s.rails))
  ∧ (∀ (s : State) (p : Fin 96) (i : BitVec 14),
      -256000 ≤ s.limitCurrent p i.toInt →
      Completes (.negativeCurrentLimit ⟨p, i⟩) s s)
  ∧ (∀ (s : State) (p : Fin 96),
      (s.rail (Config.phRail p)).diode = true →
      (s.rail (Config.phRail p)).ovClamp = false →
      (s.ph p).onTime = false →
      (s.ph p).pwm = .low →
      Completes (.diodeEmulationZeroCurrent p) s ((s.syncModel p).setPh p
      { (s.syncModel p).ph p with pwm := .hiZ, hiZAt := s.hclk, model := 0, modelAt := s.hclk }))

/-- O9. Shedding, the decisions that retire a phase, its retirement and EN, and the release of rung 2 (R30, R68, R123, R130, R132, R134, R135, R140, R151).
Where the manual leaves a point open the clauses follow the model's choices: log 78, log 111, log 119, log 120. -/
def Obligations.PhaseFaultsAndSheddingComplete : Prop :=
  (∀ (s : State) (n : Fin 8) (x : Nat),
      (s.rail n).shedSince = some x →
      s.rd (Rail.shedEn n) = 1 →
      s.regulating n = true →
      x + 800 * s.rdN (Rail.shedDwell n) ≤ s.hclk →
      s.rd (Rail.phFloor n) < (s.staying n).length →
      Completes (.shedDwellExpiry n) s ((s.setRail n { s.rail n with shedSince := some s.hclk }).shedPhase n))
  ∧ (∀ (s : State) (p : Fin 96) (x : Nat),
      s.rd (Ph.phType p) = 0 →
      (s.ph p).zeroArmed = true →
      (s.ph p).zeroLow = true →
      (s.ph p).onTime = false →
      (s.ph p).offAt = some x →
      x + 8 ≤ s.hclk →
      s.rd (Ph.phState p) ≠ 5 →
      (s.ph p).decided = none →
      CompletesWith (.zeroCurrentDecision p) s (fun t => (t.ph p).decided = some 2 ∧ (t.ph p).zeroArmed = false))
  ∧ (∀ (s : State) (p : Fin 96) (f : Word32) (onSlot : Bool),
      s.rd (Ph.phType p) = 1 →
      (s.ph p).en = true →
      s.underTest 5 p = false →
      Completes (.tlmFrame p f false onSlot) s (s.bump (Ph.tlmDiscards p)))
  ∧ (∀ (s : State) (p : Fin 96) (f : Word32),
      s.rd (Ph.phType p) = 1 →
      (s.ph p).en = true →
      s.underTest 5 p = false →
      crc4 f.toNat = getField f.toNat 0 4 →
      Completes (.tlmFrame p f true true) s ((s.acceptFrame p f).noteStage p (((getField f.toNat 10 8 : Int) - 40) * 16)))
  ∧ (∀ (s : State) (p : Fin 96) (f : Word32) (a b : Bool),
      (s.rd (Ph.phType p) ≠ 1 ∨ (s.ph p).en = false ∨ s.underTest 5 p = true) →
      Completes (.tlmFrame p f a b) s s)
  ∧ (∀ (s : State) (p : Fin 96),
      s.rd (Ph.phType p) = 1 →
      (s.ph p).en = true →
      s.rd (Ph.phState p) ≠ 5 →
      (s.ph p).decided = none →
      max ((s.ph p).enAt + 16000) ((s.ph p).lastFrame.getD 0) + 1600 ≤ s.hclk →
      CompletesWith (.tlmLost p) s (fun t => (t.ph p).decided = some 3 ∧ t.rd (Ph.tlmMissed p) = fit (Ph.tlmMissed p) (s.rd (Ph.tlmMissed p) + 4)))
  ∧ (∀ (s : State) (p : Fin 96) (x : Nat),
      (s.ph p).excludedAt = some x →
      x + 80000 ≤ s.hclk →
      s.rd (Ph.phState p) = 4 →
      (s.ph p).decided = none →
      Completes (.exclusionTimeout p) s (s.setPh p { s.ph p with decided := some 6, decidedAt := s.hclk }))
  ∧ (∀ (s : State) (p : Fin 96) (c : Nat),
      (s.ph p).decided = some c →
      (s.ph p).decidedAt ≤ s.hclk →
      c ≠ 7 →
      Completes (.phaseRetire p) s (s.retirePhase p c))
  ∧ (∀ (s : State) (p : Fin 96),
      (s.ph p).decided = some 7 →
      (s.ph p).decidedAt ≤ s.hclk →
      Completes (.phaseRetire p) s ((s.retirePhase p 7).cause 1))
  ∧ (∀ (s : State) (p : Fin 96),
      (s.ph p).en = true →
      (s.ph p).pwm = .hiZ →
      (s.ph p).hiZAt + 800 ≤ s.hclk →
      (s.rd (Ph.phState p) = 5 ∨ s.onState (Config.phRail p) = false) →
      Completes (.stageDisable p) s (s.setPh p { s.ph p with en := false }))
  ∧ (∀ (s : State) (n : Fin 8),
      (s.rail n).rung2 = true →
      (s.rail n).lastHit.all (fun x => decide (x + 80000 ≤ s.hclk)) = true →
      (s.rail n).retiredAt.all (fun x => decide (x + 80000000 ≤ s.hclk)) = true →
      (s.rail n).latchedAt.all (fun x => decide (x + 800000000 ≤ s.hclk)) = true →
      CompletesWith (.rung2Release n) s (fun t => (t.rail n).rung2 = false))
  ∧ (∀ (s : State) (p : Fin 96),
      s.rd (Ph.phState p) ≠ 5 →
      s.railState (Config.phRail p) = 0 →
      (s.ph p).decided = none →
      s.hostUp = true →
      Completes (.phCtrlRetire p) s ((s.fabric 3 0).setPh p { s.ph p with decided := some 7, decidedAt := s.hclk }))
  ∧ (∀ (s : State) (n : Fin 8),
      s.railState n = 0 →
      s.hostUp = true →
      CompletesWith (.retireClear n) s (fun t => ∀ p ∈ Config.phasesOf n, s.rd (Ph.phState p) = 5 → t.rd (Ph.phState p) = 0))

/-- O10. RAIL_CTRL: what ON, OFF, OFF_IMMEDIATE and CLEAR start, and where each is rejected (R89, R137, R140, R144, R145, R149).
Where the manual leaves a point open the clauses follow the model's choices: log 78, log 98. -/
def Obligations.RailCommandsComplete : Prop :=
  (∀ (s : State) (n : Fin 8),
      s.railState n = 0 →
      s.rung1 = false →
      s.rd Sd.sdCtrl ≠ 1 →
      s.testBars n = false →
      s.tripComes = false →
      s.hostUp = true →
      Completes (.railCtrlOn n) s (((s.fabric 3 0).precharge n).cmdDone (Rail.railCtrl n) 1))
  ∧ (∀ (s : State) (n : Fin 8),
      (s.railState n ≠ 0 ∨ s.rung1 = true ∨ s.rd Sd.sdCtrl = 1 ∨ s.testBars n = true ∨ s.tripComes = true) →
      s.hostUp = true →
      CompletesWith (.railCtrlOn n) s (fun t => t.rd (Rail.railCtrl n) = 3 ∧ t.rails = s.rails
      ∧ t.rd DictSt.rejectCount = fit DictSt.rejectCount (s.rd DictSt.rejectCount + 1) ∧ t.rd (Rail.railState n) = s.rd (Rail.railState n)))
  ∧ (∀ (s : State) (n : Fin 8),
      s.onState n = true →
      s.rd Sd.sdCtrl ≠ 1 →
      s.rd (Rail.tSoftstop n) = 0 →
      s.hostUp = true →
      Completes (.railCtrlOff n) s (((s.fabric 3 0).immediateOff n 1 0).cmdDone (Rail.railCtrl n) 1))
  ∧ (∀ (s : State) (n : Fin 8),
      s.onState n = true →
      s.rd Sd.sdCtrl ≠ 1 →
      s.rd (Rail.tSoftstop n) ≠ 0 →
      (s.rail n).softStop = false →
      s.hostUp = true →
      Completes (.railCtrlOff n) s ((s.fabric 3 0).softStop n))
  ∧ (∀ (s : State) (n : Fin 8),
      (s.onState n = false ∨ s.rd Sd.sdCtrl = 1 ∨ (s.rd (Rail.tSoftstop n) ≠ 0 ∧ (s.rail n).softStop = true)) →
      s.hostUp = true →
      CompletesWith (.railCtrlOff n) s (fun t => t.rd (Rail.railCtrl n) = 3 ∧ t.rails = s.rails ∧ t.phs = s.phs
      ∧ t.rd (Rail.railState n) = s.rd (Rail.railState n)))
  ∧ (∀ (s : State) (n : Fin 8),
      s.onState n = true →
      s.rd Sd.sdCtrl ≠ 1 →
      s.hostUp = true →
      Completes (.railCtrlOffImmediate n) s (((s.fabric 3 0).immediateOff n 1 0).cmdDone (Rail.railCtrl n) 1))
  ∧ (∀ (s : State) (n : Fin 8),
      (s.onState n = false ∨ s.rd Sd.sdCtrl = 1) →
      s.hostUp = true →
      CompletesWith (.railCtrlOffImmediate n) s (fun t => t.rd (Rail.railCtrl n) = 3 ∧ t.rails = s.rails ∧ t.phs = s.phs
      ∧ t.rd (Rail.railState n) = s.rd (Rail.railState n)))
  ∧ (∀ (s : State) (n : Fin 8),
      s.railState n = 5 →
      s.rd (Rail.latchTime n) + 1000000 ≤ s.beat →
      s.rd Sd.sdCtrl ≠ 1 →
      s.hostUp = true →
      CompletesWith (.railCtrlClear n) s (fun t => t.rd (Rail.railState n) = 0 ∧ t.rd (Rail.faultCause n) = 0 ∧ t.rd (Rail.railCtrl n) = 1))
  ∧ (∀ (s : State) (n : Fin 8),
      (s.railState n ≠ 5 ∨ s.beat < s.rd (Rail.latchTime n) + 1000000 ∨ s.rd Sd.sdCtrl = 1) →
      s.hostUp = true →
      CompletesWith (.railCtrlClear n) s (fun t => t.rd (Rail.railCtrl n) = 3 ∧ t.rd (Rail.railState n) = s.rd (Rail.railState n)
      ∧ t.rd (Rail.faultCause n) = s.rd (Rail.faultCause n)))

/-- O11. From PRECHARGE-CHECK to RAMP, the failures of a start, and the end of a soft stop (R137, R138, R139, R140, R145).
Where the manual leaves a point open the clauses follow the model's choices: log 39, log 78. -/
def Obligations.RailStartAndSoftStopComplete : Prop :=
  (∀ (s : State) (n : Fin 8),
      s.railState n = 1 →
      (s.rail n).enteredAt + 16000 ≤ s.hclk →
      Completes (.prechargeEnableDone n) s (s.setRail n { s.rail n with sampling := true }))
  ∧ (∀ (s : State) (n : Fin 8) (l : List (BitVec 18)) (v : Int),
      s.railState n = 1 →
      (s.rail n).sampling = true →
      l.length = 8 →
      v = divNear 6 (l.foldl (fun a x => a + (x.toNat : Int)) 0) 128 →
      v ≤ s.rd (Rail.vsetMax n) + s.rd (Rail.ovMargin n) →
      s.rd Ibc.busUv ≤ s.rd (Rail.vinBus n) →
      CompletesWith (.vpreTaken n l) s (fun t => t.rd (Rail.railState n) = 2 ∧ t.rd (Rail.vpre n) = fit (Rail.vpre n) v
      ∧ t.rd (Rail.railStarts n) = fit (Rail.railStarts n) (s.rd (Rail.railStarts n) + 1)
      ∧ (t.rail n).sampling = false ∧ (t.rail n).diode = true ∧ (t.rail n).ramp = v * 256))
  ∧ (∀ (s : State) (n : Fin 8) (l : List (BitVec 18)) (v : Int),
      s.railState n = 1 →
      (s.rail n).sampling = true →
      l.length = 8 →
      v = divNear 6 (l.foldl (fun a x => a + (x.toNat : Int)) 0) 128 →
      s.rd (Rail.vsetMax n) + s.rd (Rail.ovMargin n) < v →
      s.rd Ibc.busUv ≤ s.rd (Rail.vinBus n) →
      Completes (.vpreTaken n l) s ((s.wr (Rail.vpre n) v).latch n 32))
  ∧ (∀ (s : State) (n : Fin 8) (l : List (BitVec 18)) (v : Int),
      s.railState n = 1 →
      (s.rail n).sampling = true →
      l.length = 8 →
      v = divNear 6 (l.foldl (fun a x => a + (x.toNat : Int)) 0) 128 →
      s.rd (Rail.vinBus n) < s.rd Ibc.busUv →
      Completes (.vpreTaken n l) s ((s.wr (Rail.vpre n) v).latch n (if s.rd (Rail.vsetMax n) + s.rd (Rail.ovMargin n) < v then 160 else 128)))
  ∧ (∀ (s : State) (n : Fin 8),
      s.shortVout n = true →
      Completes (.shortVoutCheck n) s (s.latchOn n 1))
  ∧ (∀ (s : State) (n : Fin 8),
      s.railState n = 2 →
      (s.rail n).softStop = false →
      (s.rail n).enteredAt + (16000 * (s.rail n).tRamp + 800000) ≤ s.hclk →
      Completes (.rampTimeout n) s (s.latch n (256 ||| s.rampCauses n ||| s.rampComes n)))
  ∧ (∀ (s : State) (n : Fin 8),
      s.railState n = 2 →
      (s.rail n).softStop = true →
      (s.rail n).ramp ≤ 0 →
      CompletesWith (.softStopEnd n) s (fun t => t.rd (Rail.railState n) = 0 ∧ t.rd (Rail.railCtrl n) = 1 ∧ (t.rail n).softStop = false
      ∧ ∀ p ∈ Config.phasesOf n, (t.ph p).pwm = .hiZ))

/-- O12. Over-voltage, under-voltage, sense pairs, the bus, and the supervision of the bus converter (R141, R142, R143, R145, R147, R148).
Where the manual leaves a point open the clauses follow the model's choices: log 78, log 98, log 121. -/
def Obligations.RailFaultsAndConverterComplete : Prop :=
  (∀ (s : State) (n : Fin 8) (v : BitVec 16),
      s.regulating n = true →
      s.ovFault n v.toNat = true →
      CompletesWith (.overVoltage n v) s (fun t => (t.rail n).ovClamp = true ∧ t.rd (Rail.railState n) = s.rd (Rail.railState n)
      ∧ ∀ p ∈ s.actList n, (t.ph p).pwm = .low ∧ (t.ph p).onTime = false))
  ∧ (∀ (s : State) (n : Fin 8) (v : BitVec 16),
      (s.railState n = 1 ∨ s.railState n = 2) →
      s.ovFault n v.toNat = true →
      Completes (.overVoltage n v) s (s.latchOn n 4))
  ∧ (∀ (s : State) (n : Fin 8) (v : BitVec 16),
      s.ovFault n v.toNat = false →
      Completes (.overVoltage n v) s s)
  ∧ (∀ (s : State) (n : Fin 8) (v : BitVec 16),
      (s.rail n).ovClamp = true →
      (v.toNat : Int) ≤ s.rd (Rail.vsetRes n) →
      Completes (.ovClampDone n v) s (s.latchOn n 4))
  ∧ (∀ (s : State) (n : Fin 8) (v : BitVec 16) (x : Nat),
      s.regulating n = true →
      (v.toNat : Int) < s.rd (Rail.vsetRes n) - s.rd (Rail.uvMargin n) →
      (s.rail n).uvSince = some x →
      x + 800 * s.rdN (Rail.uvTime n) ≤ s.hclk →
      Completes (.underVoltage n v) s (s.latchOn n 8))
  ∧ (∀ (s : State) (n : Fin 8) (i : Fin 16) (o : Bool),
      s.bit (Rail.snsWorking n) i = true →
      (o = true ∨ 1 < popcount16 (s.rdN (Rail.snsWorking n))) →
      (s.wrBit (Rail.snsWorking n) i false).rd (Rail.snsWorking n) ≠ 0 →
      Completes (.sensePairDrop n i o) s ((s.wrBit (Rail.snsWorking n) i false).record (srcRail n) 0x0208 i.val (if o then 2 else 1)
      ((s.wrBit (Rail.snsWorking n) i false).rd (Rail.snsWorking n))))
  ∧ (∀ (s : State) (n : Fin 8) (x : Nat),
      s.onState n = true →
      s.ibc.busUvAt = some x →
      x + 8000 ≤ s.hclk →
      Completes (.busUvFault n) s (s.latchOn n 128))
  ∧ (∀ (s : State),
      s.pollDue = true →
      CompletesWith (.ibcPoll none) s (fun t => t.ibc.pollAt = some s.hclk ∧ t.rd Ibc.ibcNacks = fit Ibc.ibcNacks (s.rd Ibc.ibcNacks + 1) ∧ t.rd Ibc.ibcCtrl = 2
      ∧ t.ibc.nacks = s.ibc.nacks + 1))
  ∧ (∀ (s : State) (r : IbcPoll),
      s.pollDue = true →
      CompletesWith (.ibcPoll (some r)) s (fun t => t.ibc.pollAt = some s.hclk ∧ t.rd Ibc.ibcVin = fit Ibc.ibcVin (r.vin.toNat : Int)
      ∧ t.rd Ibc.ibcIin = fit Ibc.ibcIin (r.iin.toNat : Int) ∧ t.rd Ibc.ibcStatus = fit Ibc.ibcStatus (r.status.toNat : Int)
      ∧ t.rd Ibc.ibcCtrl = (if s.ibc.on then 1 else 0) ∧ t.ibc.nacks = 0))
  ∧ (∀ (s : State) (v : BitVec 16),
      CompletesWith (.ibcAlert v) s (fun t => t.rd Ibc.ibcStatus = fit Ibc.ibcStatus (v.toNat : Int) ∧ t.ibc = s.ibc))
  ∧ (∀ (s : State),
      s.hostUp = true →
      CompletesWith (.ibcCtrlOn true) s (fun t => t.ibc.on = true ∧ t.rd Ibc.ibcCtrl = 1))
  ∧ (∀ (s : State),
      s.hostUp = true →
      CompletesWith (.ibcCtrlOn false) s (fun t => t.ibc = s.ibc ∧ t.rd Ibc.ibcCtrl = 2
      ∧ t.rd Ibc.ibcNacks = fit Ibc.ibcNacks (s.rd Ibc.ibcNacks + 1)))
  ∧ (∀ (s : State),
      (∀ n ∈ railList, s.railState n = 0 ∨ s.railState n = 5) →
      s.hostUp = true →
      CompletesWith (.ibcCtrlOff true) s (fun t => t.ibc.on = false ∧ t.rd Ibc.ibcCtrl = 0))
  ∧ (∀ (s : State) (n : Fin 8),
      s.onState n = true →
      s.hostUp = true →
      CompletesWith (.ibcCtrlOff true) s (fun t => t.ibc = s.ibc ∧ t.rd Ibc.ibcCtrl = s.rd Ibc.ibcCtrl
      ∧ t.rd DictSt.rejectCount = fit DictSt.rejectCount (s.rd DictSt.rejectCount + 1)))

/-- O13. A loop period takes its readings, target and region, applies what was committed, and idles off the rail's on-states; commits, the scrub and a promotion (R149, R220, R222, R225, R226, R227, R228, R229, R236, R237).
Where the manual leaves a point open the clauses follow the model's choices: log 18, log 19, log 20, log 21, log 22, log 45, log 122, log 123. -/
def Obligations.LoopPeriodAndCoefficientsComplete : Prop :=
  (∀ (s : State) (n : Fin 8) (m : LoopIn),
      s.sampleEdge n = true →
      s.regulating n = true →
      CompletesWith (.loopSample n m) s (fun t => (t.loop n).sampledAt = some s.hclk
      ∧ t.rd (Rail.vout n) = fit (Rail.vout n) (divNear 21 m.vs.toNat 16)
      ∧ (t.rail n).fsw = some (s.rd (Rail.fsw n)) ∧ (t.rail n).gain = some (s.rd (Rail.rippleGain n))
      ∧ t.rd (Loop.target n) = fit (Loop.target n) (s.rd (Rail.vsetRes n))
      ∧ t.rd (Loop.region n) = fit (Loop.region n) ((s.takeReadings n m).selectRegion n : Int)
      ∧ t.rd (Loop.loopState n) = (if (t.loop n).hold then 3 else 2)))
  ∧ (∀ (s : State) (n : Fin 8) (m : LoopIn),
      s.sampleEdge n = true →
      s.railState n = 0 →
      CompletesWith (.loopSample n m) s (fun t => (t.loop n).sampledAt = some s.hclk
      ∧ t.rd (Rail.vout n) = fit (Rail.vout n) (divNear 21 m.vs.toNat 16)
      ∧ t.rd (UbRail.offsetNow n) = 0 ∧ (t.loop n).vref = (s.loop n).vref
      ∧ (t.loop n).corr = (s.loop n).corr ∧ t.rd (Loop.vrefLoop n) = s.rd (Loop.vrefLoop n)))
  ∧ (∀ (s : State) (n : Fin 8) (m : LoopIn),
      s.sampleEdge n = true →
      (s.loop n).commit ≠ 0 →
      CompletesWith (.loopSample n m) s (fun t => (t.loop n).coef = (s.loop n).newCoef ∧ (t.loop n).commit = 0
      ∧ t.rd (Loop.coefCommit n) = 2))
  ∧ (∀ (s : State) (n : Fin 8) (m : LoopIn) (r : Nat),
      s.sampleEdge n = true →
      s.regulating n = true →
      s.rd (Loop.regionForce n) = (r : Int) →
      r < 4 →
      (s.loop n).lastRegion ≠ r →
      s.rd (Loop.loopState n) ≠ 0 →
      CompletesWith (.regionChange n m) s (fun t => t.rd (Loop.region n) = (r : Int) ∧ (t.loop n).lastRegion = r
      ∧ t.rd (Loop.regionChanges n) = fit (Loop.regionChanges n) (s.rd (Loop.regionChanges n) + 1)
      ∧ (t.loop n).sampledAt = some s.hclk))
  ∧ (∀ (s : State) (n : Fin 8) (v : Byte),
      v.toNat ≤ 4 →
      (∀ r ∈ commitRegions v.toNat, s.oneExp n r = true) →
      s.hostUp = true →
      CompletesWith (.coefCommit n v) s (fun t => t.rd (Loop.coefCommit n) = 1
      ∧ (∀ r ∈ commitRegions v.toNat, (t.loop n).commit.testBit r = true
      ∧ ∀ k, k < 15 → LoopInt.applied n (t.loop n).newCoef (15 * r + k) = s.rd (Loop.coef n (15 * r + k)))
      ∧ (t.loop n).coef = (s.loop n).coef))
  ∧ (∀ (s : State) (n : Fin 8) (v : Byte),
      (4 < v.toNat ∨ ∃ r ∈ commitRegions v.toNat, s.oneExp n r = false) →
      s.hostUp = true →
      CompletesWith (.coefCommit n v) s (fun t => t.rd (Loop.coefCommit n) = 3 ∧ t.loops = s.loops
      ∧ t.rd DictSt.rejectCount = fit DictSt.rejectCount (s.rd DictSt.rejectCount + 1)))
  ∧ (∀ (s : State) (n : Fin 8) (k : Fin 60),
      s.scrubDue = true →
      CompletesWith (.coefScrub [⟨n, k, false⟩]) s (fun t => t.rd (Loop.eccCe n) = fit (Loop.eccCe n) (s.rd (Loop.eccCe n) + 1)
      ∧ t.scrubAt = some s.hclk ∧ t.loops = s.loops))
  ∧ (∀ (s : State) (n : Fin 8) (k : Fin 60),
      s.scrubDue = true →
      k.val / 15 ≠ s.rdN (Loop.region n) →
      CompletesWith (.coefScrub [⟨n, k, true⟩]) s (fun t => t.rd (Loop.eccUe n) = fit (Loop.eccUe n) (s.rd (Loop.eccUe n) + 1)
      ∧ (t.loop n).badWords.contains k.val = true ∧ (t.loop n).coef = (s.loop n).coef ∧ t.scrubAt = some s.hclk))
  ∧ (∀ (s : State) (n : Fin 8) (k : Fin 60),
      s.scrubDue = true →
      k.val / 15 = s.rdN (Loop.region n) →
      CompletesWith (.coefScrub [⟨n, k, true⟩]) s (fun t => t.rd (Loop.eccUe n) = s.rd (Loop.eccUe n)
      ∧ (t.loop n).badWords.contains k.val = true ∧ (t.loop n).coef = (s.loop n).coef ∧ t.scrubAt = some s.hclk))
  ∧ (∀ (s : State) (w : BitVec 16) (r : FabReq),
      s.rdN Arb.ePromoteAt ≤ w.toNat →
      s.arb.waiting = [r] →
      r.level = 4 →
      r.promoted = false →
      r.since = s.hclk - w.toNat →
      CompletesWith (.ePromotion w) s (fun t => t.rd Arb.ePromotions = fit Arb.ePromotions (s.rd Arb.ePromotions + 1)
      ∧ t.arb.waiting = [{ r with promoted := true }]))
  ∧ (∀ (s : State) (w : BitVec 16),
      s.rdN Arb.ePromoteAt ≤ w.toNat →
      s.arb.waiting = [] →
      CompletesWith (.ePromotion w) s (fun t => t.rd Arb.ePromotions = fit Arb.ePromotions (s.rd Arb.ePromotions + 1)
      ∧ t.arb.waiting = [⟨4, 4, s.hclk - w.toNat, [], true⟩]))
  ∧ (∀ (s : State) (r : FabReq),
      s.arb.waiting = [r] →
      r.level = 4 →
      r.promoted = true →
      r.since ≤ s.hclk →
      s.arb.busyTo ≤ s.hclk →
      s.fabricTick.rd (Arb.grantsA 4) = fit (Arb.grantsA 4) (s.rd (Arb.grantsA 4) + 1)
      ∧ (2000 < s.hclk - r.since → s.fabricTick.rd Arb.boundExceeded = fit Arb.boundExceeded (s.rd Arb.boundExceeded + 1)))

/-- O14. Rung 4 is entered and released, and the trace is armed, forced, stopped and done (R231, R232, R234, R239).
Where the manual leaves a point open the clauses follow the model's choices: log 23, log 24. -/
def Obligations.FollowingErrorAndTraceComplete : Prop :=
  (∀ (s : State) (n : Fin 8),
      (s.loop n).feDue = true →
      s.feDecided n = true →
      s.railLeaves n = false →
      s.regulating n = true →
      s.rd (Loop.feEn n) = 1 →
      (s.loop n).rung4 = false →
      CompletesWith (.feExpiry n) s (fun t => (t.loop n).rung4 = true ∧ (t.loop n).feDue = false
      ∧ t.rd (Loop.feReacts n) = fit (Loop.feReacts n) (s.rd (Loop.feReacts n) + 1)
      ∧ t.rd (Loop.feSince n) = fit (Loop.feSince n) (s.beat : Int)
      ∧ (t.contrib 4 (aVset n)).range = some (s.rd (Rail.vsetRes n), s.rd (Rail.vsetRes n))))
  ∧ (∀ (s : State) (n : Fin 8),
      (s.loop n).rung4 = true →
      s.regulating n = false →
      s.edgeHclk n = true →
      Completes (.feRelease n) s (s.feRelease n 1))
  ∧ (∀ (s : State) (n : Fin 8),
      s.edgeHclk n = false →
      Completes (.feRelease n) s s)
  ∧ (∀ (s : State) (n : Fin 8),
      (s.loop n).rung4 = true →
      s.railLeaves n = false →
      s.regulating n = true →
      s.rd (Loop.feEn n) = 1 →
      s.rdN (Loop.feRelTime n) ≤ (s.loop n).relRun →
      s.edgeHclk n = true →
      CompletesWith (.feRelease n) s (fun t => (t.loop n).rung4 = false ∧ t.rd (Loop.feTimer n) = 0
      ∧ (t.contrib 4 (aVset n)).range = none ∧ t.free = s.free + 1))
  ∧ (∀ (s : State) (n : Fin 8),
      (s.rd (Trace.trCtrl n) = 0 ∨ s.rd (Trace.trCtrl n) = 3) →
      s.hostUp = true →
      CompletesWith (.trArm n) s (fun t => t.rd (Trace.trCtrl n) = 1 ∧ t.rd (Trace.length n) = 0 ∧ (t.loop n).trace = []
      ∧ (t.loop n).traceCause = none))
  ∧ (∀ (s : State) (n : Fin 8),
      s.rd (Trace.trCtrl n) = 1 →
      (s.loop n).traceCause = none →
      s.hostUp = true →
      CompletesWith (.trForce n) s (fun t => (t.loop n).traceCause = some 3 ∧ t.rd (Trace.trCtrl n) = 1))
  ∧ (∀ (s : State) (n : Fin 8),
      (s.rd (Trace.trCtrl n) = 1 ∨ s.rd (Trace.trCtrl n) = 2) →
      s.hostUp = true →
      CompletesWith (.trStop n) s (fun t => t.rd (Trace.trCtrl n) = 0 ∧ t.rd (Trace.length n) = 0 ∧ (t.loop n).trace = []))
  ∧ (∀ (s : State) (n : Fin 8),
      s.rd (Trace.trCtrl n) = 2 →
      4096 ≤ (s.loop n).trace.length →
      CompletesWith (.traceDone n) s (fun t => t.rd (Trace.trCtrl n) = 3 ∧ t.rd (Trace.length n) = 131072
      ∧ t.rd (Trace.gen n) = fit (Trace.gen n) (s.rd (Trace.gen n) + 1) ∧ (t.loop n).traceFrozen = (s.loop n).trace))

/-- O15. A write of a rung 8 demand is taken within its range and granularity, and rejected outside them (R26, R88, R89, R98, R149, R212, R216, R217).
Where the manual leaves a point open the clauses follow the model's choices: log 34. -/
def Obligations.DemandWritesComplete : Prop :=
  (∀ (s : State) (n : Fin 8) (v : BitVec 16),
      s.inRange (aVset n) v.toNat true = true →
      s.hostUp = true →
      s.earlyNow.contains (Rail.vsetDemand n) = false →
      CompletesWith (.vsetDemandWrite n v) s (fun t => t.rd (Rail.vsetDemand n) = fit (Rail.vsetDemand n) (v.toNat : Int)
      ∧ (t.contrib 8 (aVset n)).demand = some (v.toNat : Int)))
  ∧ (∀ (s : State) (n : Fin 8) (v : BitVec 16),
      (v.toNat % 10 ≠ 0 ∨ (v.toNat : Int) < s.rd (Rail.vfloor n) ∨ s.rd (Rail.vsetMax n) < (v.toNat : Int)) →
      s.hostUp = true →
      s.earlyNow.contains (Rail.vsetDemand n) = false →
      Completes (.vsetDemandWrite n v) s (((s.fabric 3 0).reject (Rail.vsetDemand n) 0).noteWrite (Rail.vsetDemand n)))
  ∧ (∀ (s : State) (c : Fin 64) (v : Byte),
      s.rd (Cd.minCode c) ≤ (v.toNat : Int) →
      v.toNat ≤ 64 →
      s.hostUp = true →
      s.earlyNow.contains (Cd.ratioDemand c) = false →
      CompletesWith (.ratioDemandWrite c v) s (fun t => t.rd (Cd.ratioDemand c) = fit (Cd.ratioDemand c) (v.toNat : Int)
      ∧ (t.contrib 8 (aRatio c)).demand = some (v.toNat : Int)))
  ∧ (∀ (s : State) (c : Fin 64) (v : Byte),
      (v.toNat : Int) < s.rd (Cd.minCode c) ∨ 64 < v.toNat →
      s.hostUp = true →
      s.earlyNow.contains (Cd.ratioDemand c) = false →
      Completes (.ratioDemandWrite c v) s (((s.fabric 3 0).reject (Cd.ratioDemand c) 0).noteWrite (Cd.ratioDemand c)))
  ∧ (∀ (s : State) (d : Fin 96) (v : Byte),
      v.toNat ≤ 1 →
      s.hostUp = true →
      s.earlyNow.contains (Pd.pdDemand d) = false →
      CompletesWith (.pdDemandWrite d v) s (fun t => t.rd (Pd.pdDemand d) = fit (Pd.pdDemand d) (v.toNat : Int)
      ∧ (t.contrib 8 (aPd d)).demand = some (v.toNat : Int)))
  ∧ (∀ (s : State) (d : Fin 96) (v : Byte),
      1 < v.toNat →
      s.hostUp = true →
      s.earlyNow.contains (Pd.pdDemand d) = false →
      Completes (.pdDemandWrite d v) s (((s.fabric 3 0).reject (Pd.pdDemand d) 0).noteWrite (Pd.pdDemand d)))
  ∧ (∀ (s : State) (n : Fin 8) (v : BitVec 16),
      s.hostUp = true →
      s.earlyNow.contains (Rail.vsetDemand n) = true →
      Completes (.vsetDemandWrite n v) s (s.fabric 3 0))

/-- O16. A Snare input trips and releases its detector, each output edge of a tripped domain is stretched, rung 3 releases after 1 µs, and a beat's stretches make runs (R152, R153, R154, R155, R156, R157, R158).
Where the manual leaves a point open the clauses follow the model's choices: log 29, log 32, log 89, log 115, log 116. -/
def Obligations.SnareCompletes : Prop :=
  (∀ (s : State) (c : Fin 64) (i : Fin 8) (e : BitVec 16),
      s.bit (Snare.snMask c) i = true →
      s.rdN (Snare.snTripped c) = 0 →
      (4 ≤ i.val ∨ 1200 ≤ s.rd (Snare.snThr c)) →
      s.hasEdges c = false →
      CompletesWith (.snareTrip c ⟨i, e⟩) s (fun t => t.bit (Snare.snTripped c) i = true
      ∧ t.rd (Snare.snTrips c (i.val % 4)) = fit (Snare.snTrips c (i.val % 4)) (s.rd (Snare.snTrips c (i.val % 4)) + 1)
      ∧ t.rd (Snare.snUnstretched c) = fit (Snare.snUnstretched c) (s.rd (Snare.snUnstretched c) + 1)
      ∧ t.rd (Snare.snEdges c) = s.rd (Snare.snEdges c)))
  ∧ (∀ (s : State) (c : Fin 64) (i : Fin 8) (e : BitVec 16),
      s.bit (Snare.snMask c) i = true →
      s.rdN (Snare.snTripped c) = 0 →
      (4 ≤ i.val ∨ 1200 ≤ s.rd (Snare.snThr c)) →
      s.hasEdges c = true →
      (s.snare c).edge = none →
      CompletesWith (.snareTrip c ⟨i, e⟩) s (fun t => t.bit (Snare.snTripped c) i = true
      ∧ t.rd (Snare.snTrips c (i.val % 4)) = fit (Snare.snTrips c (i.val % 4)) (s.rd (Snare.snTrips c (i.val % 4)) + 1)
      ∧ (t.snare c).edge = some (1000 * s.hclk + e.toNat + if e.toNat < 400 then s.cdPeriod c else 0)
      ∧ (t.snare c).tripCode = s.rd (Cd.ratioOut c) ∧ (t.snare c).held.testBit (i.val % 4) = true))
  ∧ (∀ (s : State) (c : Fin 64) (e : Nat),
      (s.snare c).edge = some e →
      s.rd (Snare.snTripped c) ≠ 0 →
      ((s.stretchCheck c).snare c).due = (s.snare c).due
      ++ [(e + (divOpen 47 (s.rdN (Snare.stretchQ c) * s.cdPeriod c : Nat) 4).toNat, s.rdN (Snare.stretchQ c))]
      ∧ ((s.stretchCheck c).snare c).edge = some (e + (divOpen 47 (s.rdN (Snare.stretchQ c) * s.cdPeriod c : Nat) 4).toNat + s.cdPeriod c))
  ∧ (∀ (s : State) (c : Fin 64) (q : Nat),
      (s.snare c).rung3 = false →
      ((s.stretchEdge c q).snare c).rung3 = true ∧ ((s.stretchEdge c q).snare c).lastAt = s.hclk
      ∧ (s.stretchEdge c q).rd (Snare.snEdges c) = fit (Snare.snEdges c) (s.rd (Snare.snEdges c) + 1)
      ∧ (s.stretchEdge c q).rd (Snare.snLostq c) = fit (Snare.snLostq c) (s.rd (Snare.snLostq c) + q)
      ∧ (s.stretchEdge c q).rd (Snare.snLastStretch c) = fit (Snare.snLastStretch c) (s.beat : Int)
      ∧ ((s.stretchEdge c q).contrib 3 (aRatio c)).range = some (s.rd (Cd.minCode c), (s.snare c).tripCode))
  ∧ (∀ (s : State) (c : Fin 64) (i : Fin 8) (v : BitVec 16),
      s.snareHigh c v.toNat = true →
      (4 ≤ i.val ∨ (s.snare c).mgn.testBit i.val = false) →
      (s.hasEdges c = false ∨ (s.snare c).held.testBit (i.val % 4) = false) →
      CompletesWith (.snareRelease c i v) s (fun t => t.bit (Snare.snTripped c) i = false
      ∧ t.bit (Snare.snTripped c) ((i.val + 4) % 8) = false ∧ (4 ≤ i.val → (t.snare c).mgn.testBit (i.val % 4) = false)))
  ∧ (∀ (s : State) (c : Fin 64) (i : Fin 8) (v : BitVec 16),
      s.snareHigh c v.toNat = true →
      (4 ≤ i.val ∨ (s.snare c).mgn.testBit i.val = false) →
      s.hasEdges c = true →
      (s.snare c).held.testBit (i.val % 4) = true →
      CompletesWith (.snareRelease c i v) s (fun t => t.rd (Snare.snTripped c) = s.rd (Snare.snTripped c)
      ∧ (t.snare c).relDue.testBit i = true))
  ∧ (∀ (s : State) (c : Fin 64) (i : Fin 8) (v : BitVec 16),
      s.snareHigh c v.toNat = false →
      CompletesWith (.snareRelease c i v) s (fun t => t.rd (Snare.snTripped c) = s.rd (Snare.snTripped c)
      ∧ (t.snare c).relDue = (s.snare c).relDue))
  ∧ (∀ (s : State) (c : Fin 64),
      (s.snare c).rung3 = true →
      (s.snare c).lastAt + 800 ≤ s.hclk →
      CompletesWith (.snareRungRelease c) s (fun t => (t.snare c).rung3 = false ∧ (t.contrib 3 (aRatio c)).range = none))
  ∧ (∀ (s : State) (c : Fin 64) (b : Word64),
      s.burstDue c = true →
      s.beat = b.toNat + 1 →
      s.rdN (Snare.snBurstThr c) < (s.snare c).beatEdges →
      CompletesWith (.snareBeatEnd c b) s (fun t => (t.snare c).runBeats = (s.snare c).runBeats + 1
      ∧ (t.snare c).runEdges = (s.snare c).runEdges + (s.snare c).beatEdges
      ∧ (t.snare c).runLostq = (s.snare c).runLostq + (s.snare c).beatLostq ∧ (t.snare c).beatEdges = 0))
  ∧ (∀ (s : State) (c : Fin 64) (b : Word64),
      s.burstDue c = true →
      s.beat = b.toNat + 1 →
      (s.snare c).beatEdges ≤ s.rdN (Snare.snBurstThr c) →
      (s.snare c).runBeats ≠ 0 →
      CompletesWith (.snareBeatEnd c b) s (fun t => (t.snare c).runBeats = 0 ∧ (t.snare c).beatEdges = 0
      ∧ t.rd (Snare.snBurstRuns c) = fit (Snare.snBurstRuns c) (s.rd (Snare.snBurstRuns c) + 1)))
  ∧ (∀ (s : State) (c : Fin 64),
      s.hostUp = true →
      CompletesWith (.snSnap c) s (fun t => t.rd (Snare.snapEdges c) = fit (Snare.snapEdges c) (s.rd (Snare.snEdges c))
      ∧ t.rd (Snare.snapLostq c) = fit (Snare.snapLostq c) (s.rd (Snare.snLostq c))
      ∧ t.rd (Snare.snapBeat c) = fit (Snare.snapBeat c) (s.beat : Int) ∧ t.rd (Snare.snSnap c) = 1))

/-- O17. Announcements are checked and taken, cancelled, matched and retracted; pulses fire; offsets end, idle queues lose their mode; a lane is disabled (R58, R161, R163, R166, R167, R168, R170, R173, R180).
Where the manual leaves a point open the clauses follow the model's choices: log 28, log 30, log 31, log 33. -/
def Obligations.UpbeatCompletes : Prop :=
  (∀ (s : State) (l : Fin 32) (w : Word32) (g : Byte),
      s.rd Upbeat.ubEn ≠ 0 →
      s.rd (Lane.laneEn l) ≠ 0 →
      3 < g.toNat →
      parityOdd 32 w.toNat = false →
      getField w.toNat 2 8 = 0 →
      s.rdN (Lane.qmap l (getField w.toNat 28 4)) ≠ 0xFFFF →
      w.toNat.testBit 1 = false →
      Completes (.upbeatAnnounce l w g) s ((((s.bump (Lane.accepted l)).bump Upbeat.ubAccepted).wr (Lane.lastWord l) w.toNat).announce l w.toNat
      (s.rdN (Lane.qmap l (getField w.toNat 28 4)))))
  ∧ (∀ (s : State) (l : Fin 32) (w : Word32) (g : Byte),
      s.rd Upbeat.ubEn ≠ 0 →
      s.rd (Lane.laneEn l) ≠ 0 →
      3 < g.toNat →
      parityOdd 32 w.toNat = false →
      getField w.toNat 2 8 = 0 →
      s.rdN (Lane.qmap l (getField w.toNat 28 4)) ≠ 0xFFFF →
      w.toNat.testBit 1 = false →
      s.upbeat.anns = [] →
      s.upbeat.early = [] →
      CompletesWith (.upbeatAnnounce l w g) s (fun t => t.rd (Lane.accepted l) = fit (Lane.accepted l) (s.rd (Lane.accepted l) + 1)
      ∧ t.rd Upbeat.ubAccepted = fit Upbeat.ubAccepted (s.rd Upbeat.ubAccepted + 1)
      ∧ t.rd (Lane.lastWord l) = fit (Lane.lastWord l) (w.toNat : Int)
      ∧ t.upbeat.anns.map (fun a => [a.q, a.lane, a.qsel, a.cls, a.lead])
      = [[s.rdN (Lane.qmap l (getField w.toNat 28 4)), l.val, getField w.toNat 28 4, getField w.toNat 24 4, getField w.toNat 10 12]]
      ∧ t.upbeat.anns.all (fun a => a.cmdEdge.isNone && !a.retracted) = true
      ∧ t.qmodeOf l (getField w.toNat 28 4) = getField w.toNat 22 2))
  ∧ (∀ (s : State) (l : Fin 32) (w : Word32) (g : Byte),
      s.rd Upbeat.ubEn ≠ 0 →
      s.rd (Lane.laneEn l) ≠ 0 →
      3 < g.toNat →
      parityOdd 32 w.toNat = false →
      (getField w.toNat 2 8 ≠ 0 ∨ s.rdN (Lane.qmap l (getField w.toNat 28 4)) = 0xFFFF) →
      Completes (.upbeatAnnounce l w g) s (s.bump (Lane.discFormat l)))
  ∧ (∀ (s : State) (l : Fin 32) (w : Word32) (g : Byte),
      s.rd Upbeat.ubEn ≠ 0 →
      s.rd (Lane.laneEn l) ≠ 0 →
      g.toNat ≤ 3 →
      Completes (.upbeatAnnounce l w g) s (s.bump (Lane.discSpacing l)))
  ∧ (∀ (s : State) (l : Fin 32) (w : Word32) (g : Byte),
      s.rd Upbeat.ubEn ≠ 0 →
      s.rd (Lane.laneEn l) ≠ 0 →
      3 < g.toNat →
      parityOdd 32 w.toNat = true →
      Completes (.upbeatAnnounce l w g) s (s.bump (Lane.discParity l)))
  ∧ (∀ (s : State) (l : Fin 32) (w : Word32) (g : Byte),
      s.rd Upbeat.ubEn ≠ 0 →
      s.rd (Lane.laneEn l) ≠ 0 →
      3 < g.toNat →
      parityOdd 32 w.toNat = false →
      getField w.toNat 2 8 = 0 →
      s.rdN (Lane.qmap l (getField w.toNat 28 4)) ≠ 0xFFFF →
      w.toNat.testBit 1 = true →
      CompletesWith (.upbeatCancel l w g) s (fun t => t.rd (Lane.cancels l) = fit (Lane.cancels l) (s.rd (Lane.cancels l) + 1)
      ∧ t.rd (Lane.lastWord l) = fit (Lane.lastWord l) (w.toNat : Int)
      ∧ (∀ a, s.pendingAnn (s.rdN (Lane.qmap l (getField w.toNat 28 4))) = some a → ∀ b ∈ t.upbeat.anns, b.id ≠ a.id)))
  ∧ (∀ (s : State) (q : Fin 512) (a : Ann) (e : Nat),
      s.upbeat.anns = [a] →
      a.q = q.val →
      a.cmdEdge = some e →
      a.retracted = false →
      a.lead ≤ e + 32 →
      e ≤ a.lead + 32 →
      CompletesWith (.matchReport q) s (fun t => t.upbeat.anns = []
      ∧ t.rd (Lane.hits a.lane) = fit (Lane.hits a.lane) (s.rd (Lane.hits a.lane) + 1)
      ∧ ∀ o ∈ t.upbeat.offsets, o.id = a.id → o.arrival = some a.cmdAt))
  ∧ (∀ (s : State) (q : Fin 512) (a : Ann) (e : Nat),
      s.upbeat.anns = [a] →
      a.q = q.val →
      a.cmdEdge = some e →
      a.retracted = false →
      e + 32 < a.lead →
      CompletesWith (.matchReport q) s (fun t => t.upbeat.anns = []
      ∧ t.rd (Lane.early a.lane) = fit (Lane.early a.lane) (s.rd (Lane.early a.lane) + 1)
      ∧ (∀ o ∈ t.upbeat.offsets, o.id = a.id → o.arrival = some a.cmdAt)
      ∧ ∀ p ∈ t.upbeat.pulses, p.id = a.id → p.held = false ∧ p.start8 ≤ 8 * (s.hclk : Int)))
  ∧ (∀ (s : State) (q : Fin 512) (a : Ann) (e : Nat),
      s.upbeat.anns = [a] →
      a.q = q.val →
      a.cmdEdge = some e →
      a.retracted = false →
      a.lead + 32 < e →
      CompletesWith (.matchReport q) s (fun t => t.upbeat.anns = []
      ∧ t.rd (Lane.lateCaught a.lane) = fit (Lane.lateCaught a.lane) (s.rd (Lane.lateCaught a.lane) + 1)
      ∧ t.rd (Lane.lastLate a.lane) = fit (Lane.lastLate a.lane) (e - a.lead - 32 : Nat)))
  ∧ (∀ (s : State) (q : Fin 512) (a : Ann) (e : Nat),
      s.upbeat.anns = [a] →
      a.q = q.val →
      a.retracted = false →
      a.cmdEdge = some e →
      s.pending = [] →
      5 * a.wend8 + 32 * s.rd (UbRail.retractNs (s.rdN (Lane.laneRail a.lane))) ≤ 5 * ((8 * s.hclk : Nat) : Int) →
      CompletesWith (.upbeatRetract q) s (fun t => t.upbeat.anns = [{ a with retracted := true }]
      ∧ t.rd (Lane.lateRetracted a.lane) = fit (Lane.lateRetracted a.lane) (s.rd (Lane.lateRetracted a.lane) + 1)
      ∧ (∀ p ∈ t.upbeat.pulses, p.id ≠ a.id) ∧ ∀ o ∈ t.upbeat.offsets, o.id ≠ a.id))
  ∧ (∀ (s : State) (q : Fin 512) (a : Ann),
      s.upbeat.anns = [a] →
      a.q = q.val →
      a.retracted = false →
      a.cmdEdge = none →
      5 * a.wend8 + 32 * s.rd (UbRail.retractNs (s.rdN (Lane.laneRail a.lane))) ≤ 5 * ((8 * s.hclk : Nat) : Int) →
      CompletesWith (.upbeatRetract q) s (fun t => t.upbeat.anns = []
      ∧ t.rd (Lane.lateRetracted a.lane) = fit (Lane.lateRetracted a.lane) (s.rd (Lane.lateRetracted a.lane) + 1)
      ∧ (∀ p ∈ t.upbeat.pulses, p.id ≠ a.id) ∧ ∀ o ∈ t.upbeat.offsets, o.id ≠ a.id))
  ∧ (∀ (s : State) (n : Fin 8) (p : Pulse),
      s.upbeat.pulses = [p] →
      s.duePulse n = some p →
      (s.rail n).ovClamp = false →
      (s.rail n).inhibit = true →
      CompletesWith (.prefirePulse n) s (fun t => t.upbeat.pulses = []
      ∧ t.rd (UbRail.pfSuppressed n) = fit (UbRail.pfSuppressed n) (s.rd (UbRail.pfSuppressed n) + 1) ∧ t.phs = s.phs))
  ∧ (∀ (s : State) (n : Fin 8) (p : Pulse) (ph : Nat),
      s.upbeat.pulses = [p] →
      s.duePulse n = some p →
      (s.rail n).ovClamp = false →
      (s.rail n).inhibit = false →
      (s.rail n).trigger = false →
      s.fireSpaced n = true →
      (s.nextPhase n).2 = some ph →
      CompletesWith (.prefirePulse n) s (fun t => t.upbeat.pulses = [] ∧ (t.ph ph).onTime = true ∧ (t.ph ph).pwm = .high
      ∧ t.rd (Ph.ton ph) = fit (Ph.ton ph) p.ton ∧ t.rd (UbRail.pfPulses n) = fit (UbRail.pfPulses n) (s.rd (UbRail.pfPulses n) + 1)))
  ∧ (∀ (s : State) (q : Fin 512),
      CompletesWith (.preposHoldEnd q) s (fun t => t.upbeat.offsets = s.upbeat.offsets.filter (fun o => !(o.q = q.val && (match o.arrival with
      | some x => decide (4 * s.rd (UbRail.preposHold o.rail) ≤ 5 * ((s.hclk : Int) - x)) | none => false)))
      ∧ t.upbeat.pulses = s.upbeat.pulses ∧ t.upbeat.anns = s.upbeat.anns))
  ∧ (∀ (s : State) (q : Fin 512),
      s.pendingAnn q = none →
      s.queueIdle q = true →
      CompletesWith (.precIdleExpiry q) s (fun t => t.upbeat = s.upbeat ∧ ∀ l k, l < 32 → k < 16 →
      t.qmodeOf l k = if s.rdN (Lane.qmap l k) = q.val then 15 else s.qmodeOf l k))
  ∧ (∀ (s : State) (q : Fin 512),
      s.pendingAnn q = none →
      (∀ l ∈ List.range 32, ∀ k ∈ List.range 16, s.rdN (Lane.qmap l k) ≠ q.val) →
      Completes (.precIdleExpiry q) s s)
  ∧ (∀ (s : State) (l : Fin 32),
      s.hostUp = true →
      CompletesWith (.laneDisable l) s (fun t => t.rd (Lane.laneEn l) = 0 ∧ ∃ x, (Lane.laneEn l, x) ∈ t.fw.marks))
  ∧ (∀ (s : State) (l : Fin 32) (a : Ann),
      s.upbeat.anns = [a] →
      a.lane = l.val →
      a.cmdEdge = none →
      a.retracted = false →
      s.hostUp = true →
      CompletesWith (.laneDisable l) s (fun t => t.rd (Lane.laneEn l) = 0 ∧ t.upbeat.anns = []
      ∧ t.rd (Lane.cancels l) = fit (Lane.cancels l) (s.rd (Lane.cancels l) + 1) ∧ ∀ p ∈ t.upbeat.pulses, p.id ≠ a.id))

/-- O18. Gate requests, acknowledges, denials, forced gates and domain resets move CD_STATE as the rules say (R63, R201, R202, R203, R205, R216).
Where the manual leaves a point open the clauses follow the model's choices: log 35. -/
def Obligations.GatesComplete : Prop :=
  (∀ (s : State) (c : Fin 64),
      s.rd (Cd.cdState c) = 0 →
      s.stopHeld c = false →
      s.cdIso c = false →
      s.hostUp = true →
      CompletesWith (.gateCtrlRequest c) s (fun t => t.rd (Cd.cdState c) = 2 ∧ (t.dcu c).gateReq = true ∧ (t.dcu c).drvGate = true
      ∧ (t.dcu c).gateAt = s.hclk ∧ t.rd (Cd.gateCtrl c) = 1))
  ∧ (∀ (s : State) (c : Fin 64),
      s.rd (Cd.cdState c) = 3 →
      s.hostUp = true →
      CompletesWith (.gateCtrlRequest c) s (fun t => t.rd (Cd.cdState c) = 3 ∧ (t.dcu c).drvGate = true ∧ t.rd (Cd.gateCtrl c) = 2))
  ∧ (∀ (s : State) (c : Fin 64),
      s.rd (Cd.cdState c) = 3 →
      (s.dcu c).fp1Gate = false →
      (s.dcu c).startGate = false →
      (s.dcu c).force = 0 →
      (s.dcu c).waiting = none →
      s.rd (Cd.dcoLock c) = 1 →
      s.rd (Cd.needsReset c) = 0 →
      s.cdIso c = false →
      s.fTableComes c = false →
      s.hostUp = true →
      CompletesWith (.gateCtrlWithdraw c) s (fun t => t.rd (Cd.cdState c) = 0 ∧ (t.dcu c).drvGate = false ∧ (t.dcu c).gateReq = false
      ∧ t.rd (Cd.gateCtrl c) = 0))
  ∧ (∀ (s : State) (c : Fin 64),
      s.rd (Cd.cdState c) = 0 →
      s.stopHeld c = false →
      s.cdIso c = false →
      CompletesWith (.fp1GateRequest c true) s (fun t => t.rd (Cd.cdState c) = 2 ∧ (t.dcu c).fp1Gate = true ∧ (t.dcu c).gateReq = true))
  ∧ (∀ (s : State) (c : Fin 64),
      s.rd (Cd.cdState c) = 2 →
      (s.dcu c).drvGate = true →
      (s.dcu c).startGate = false →
      (s.dcu c).force = 0 →
      CompletesWith (.fp1GateRequest c false) s (fun t => t.rd (Cd.cdState c) = 2 ∧ (t.dcu c).fp1Gate = false ∧ (t.dcu c).drvGate = true))
  ∧ (∀ (s : State) (c : Fin 64),
      s.rd (Cd.cdState c) = 2 →
      (s.dcu c).force = 0 →
      (s.dcu c).waiting = none →
      CompletesWith (.gateAck c) s (fun t => t.rd (Cd.cdState c) = 3 ∧ (t.dcu c).gateAck = true))
  ∧ (∀ (s : State) (c : Fin 64),
      s.rd (Cd.cdState c) = 2 →
      (s.dcu c).gateAt + 3200 ≤ s.hclk →
      s.stopHeld c = false →
      (s.dcu c).force = 0 →
      (s.dcu c).startGate = false →
      (s.dcu c).waiting = none →
      (s.dcu c).domRst = false →
      (∀ i ∈ s.pending, i ≠ .gateAck c) →
      CompletesWith (.gateReqTimeout c false) s (fun t => t.rd (Cd.cdState c) = 0 ∧ (t.dcu c).gateReq = false ∧ (t.dcu c).drvGate = false
      ∧ (t.dcu c).fp1Gate = false ∧ t.rd (Cd.gateDenials c) = fit (Cd.gateDenials c) (s.rd (Cd.gateDenials c) + 1)
      ∧ ((s.dcu c).drvGate = true → t.rd (Cd.gateCtrl c) = 3)))
  ∧ (∀ (s : State) (c : Fin 64),
      s.rd (Cd.cdState c) = 2 →
      (s.dcu c).gateAt + 3200 ≤ s.hclk →
      (s.dcu c).force ≠ 0 →
      (∀ i ∈ s.pending, i ≠ .gateAck c) →
      CompletesWith (.gateReqTimeout c false) s (fun t => t.rd (Cd.cdState c) = 4
      ∧ t.rd (Cd.gateForces c) = fit (Cd.gateForces c) (s.rd (Cd.gateForces c) + 1)
      ∧ (s.ackHigh c = false → t.rd (Cd.needsReset c) = 1)))
  ∧ (∀ (s : State) (c : Fin 64),
      s.rd (Cd.cdState c) = 2 →
      (s.dcu c).gateAt + 3200 ≤ s.hclk →
      s.stopHeld c = false →
      (s.dcu c).force = 0 →
      (s.dcu c).waiting = none →
      CompletesWith (.gateReqTimeout c true) s (fun t => t.rd (Cd.cdState c) = 3 ∧ (t.dcu c).gateAck = true
      ∧ t.rd (Cd.gateDenials c) = s.rd (Cd.gateDenials c)))
  ∧ (∀ (s : State) (c : Fin 64),
      s.rd (Cd.cdState c) = 5 →
      (s.dcu c).domRst = true →
      (s.dcu c).resetAt + 256 ≤ s.hclk →
      (s.dcu c).gateWanted = false →
      (s.dcu c).force = 0 →
      (s.dcu c).waiting = none →
      CompletesWith (.domainResetEnd c) s (fun t => t.rd (Cd.cdState c) = 0 ∧ (t.dcu c).domRst = false ∧ t.rd (Cd.needsReset c) = 0))

/-- O19. The table frequency, the DCO lock, source switches, a dead source and the loss and return of XCLK (R188, R189, R191, R196, R197, R198, R199, R216).
Where the manual leaves a point open the clauses follow the model's choices: log 35, log 36, log 94, log 117. -/
def Obligations.FrequencyAndSourcesComplete : Prop :=
  (∀ (s : State) (c : Fin 64) (v : BitVec 16),
      s.rd (Cd.cdState c) = 3 →
      s.cdIso c = false →
      50 ≤ v.toNat →
      v.toNat ≤ 4000 →
      s.hostUp = true →
      CompletesWith (.fTableWrite c v) s (fun t => t.rd (Cd.fTable c) = (v.toNat : Int)
      ∧ t.rd (Cd.minCode c) = fit (Cd.minCode c) (divCeil 3200 (v.toNat : Int)) ∧ t.rd (Cd.dcoLock c) = 0))
  ∧ (∀ (s : State) (c : Fin 64) (v : BitVec 16),
      s.rd (Cd.cdState c) ≠ 3 →
      s.hostUp = true →
      Completes (.fTableWrite c v) s (((s.fabric 3 0).reject (Cd.fTable c) 0).noteWrite (Cd.fTable c)))
  ∧ (∀ (s : State) (c : Fin 64),
      s.start.dcusUp = true →
      s.dcoDriven c = false →
      CompletesWith (.dcoLock c) s (fun t => t.rd (Cd.dcoLock c) = 1))
  ∧ (∀ (s : State) (c : Fin 64),
      s.start.dcusUp = true →
      s.dcoDriven c = false →
      s.rd (Cd.cdState c) = 3 →
      s.cdIso c = false →
      (s.dcu c).waiting = none →
      (s.dcu c).gateWanted = false →
      (s.dcu c).force = 0 →
      s.rd (Cd.needsReset c) = 0 →
      s.fTableComes c = false →
      CompletesWith (.dcoLock c) s (fun t => t.rd (Cd.dcoLock c) = 1 ∧ t.rd (Cd.cdState c) = 0 ∧ (t.dcu c).gateReq = false))
  ∧ (∀ (s : State) (c : Fin 64),
      s.rd (Cd.cdState c) = 0 →
      s.cdIso c = false →
      s.gateComes c = false →
      (s.dcu c).switchDead = none →
      s.hostUp = true →
      CompletesWith (.srcSelWrite c 0 true) s (fun t => t.rd (Cd.cdState c) = 1 ∧ t.rd (Cd.srcSel c) = 0 ∧ (t.dcu c).switchTo = some 0
      ∧ (t.dcu c).switchLost = 8))
  ∧ (∀ (s : State) (c : Fin 64) (v : Byte),
      2 < v.toNat →
      s.hostUp = true →
      Completes (.srcSelWrite c v true) s ((s.fabric 3 0).reject (Cd.srcSel c) 0))
  ∧ (∀ (s : State) (c : Fin 64),
      s.hostUp = true →
      Completes (.srcSelWrite c 0 false) s (((s.fabric 3 0).reject (Cd.srcSel c) 0).record (srcCd c) 0x0303 0 0 0))
  ∧ (∀ (s : State) (c : Fin 64) (w : Word32) (d : Nat),
      s.rd (Cd.cdState c) = 1 →
      (s.dcu c).domRst = false →
      (s.dcu c).switchTo = some d →
      (s.dcu c).gateWanted = false →
      (s.dcu c).force = 0 →
      (s.dcu c).waiting = none →
      CompletesWith (.sourceSwitchDone c w) s (fun t => t.rd (Cd.cdState c) = 0 ∧ t.rd (Cd.srcNow c) = fit (Cd.srcNow c) (d : Int)
      ∧ t.rd (Cd.switches c) = fit (Cd.switches c) (s.rd (Cd.switches c) + 1)
      ∧ t.rd (Cd.swLostCyc c) = fit (Cd.swLostCyc c) (s.rd (Cd.swLostCyc c) + (s.dcu c).switchLost)
      ∧ t.rd (Cd.swStopHclk c) = fit (Cd.swStopHclk c) (w.toNat : Int) ∧ (t.dcu c).switchTo = none))
  ∧ (∀ (s : State) (c : Fin 64) (w : Word32),
      s.rd (Cd.cdState c) = 0 →
      (s.dcu c).switchDead = none →
      CompletesWith (.sourceDead c w false) s (fun t => t.rd (Cd.cdState c) = 1 ∧ (t.dcu c).switchTo = some 2 ∧ (t.dcu c).switchLost = 16
      ∧ t.rd (Cd.srcSel c) = 2 ∧ t.rd (Cd.srcDeadCnt c) = fit (Cd.srcDeadCnt c) (s.rd (Cd.srcDeadCnt c) + 1)))
  ∧ (∀ (s : State),
      s.clk.xclkLive = true →
      s.rd Clk.refSrc = 2 →
      CompletesWith .xclkLoss s (fun t => t.clk.xclkLive = false ∧ t.rd Clk.refSrc = 2 ∧ t.clk.kSto = s.clk.kSto
      ∧ t.rd Clk.xclkLosses = fit Clk.xclkLosses (s.rd Clk.xclkLosses + 1)))
  ∧ (∀ (s : State),
      s.clk.xclkLive = true →
      s.rd Clk.refSrc = 1 →
      CompletesWith .xclkLoss s (fun t => t.clk.xclkLive = false ∧ t.rd Clk.refSrc = 0 ∧ t.clk.kSto = true))
  ∧ (∀ (s : State),
      s.clk.xclkLive = false →
      s.clk.xclkOk = true →
      s.clk.xclkLostAt + 800000 ≤ s.hclk →
      s.rd Clk.refSrc = 0 →
      CompletesWith .xclkRestore s (fun t => t.clk.xclkLive = true ∧ t.rd Clk.refSrc = 1 ∧ t.clk.kSto = false))

/-- O20. A power domain's ON and OFF sequences begin, advance, time out and clear as the rules say (R207, R208, R209, R210, R212, R217).
Where the manual leaves a point open the clauses follow the model's choices: log 37, log 38, log 91, log 118. -/
def Obligations.PowerDomainSequencesComplete : Prop :=
  (∀ (s : State) (d : Fin 96),
      s.rd (Pd.pdState d) = 0 →
      (s.pd d).want = true →
      (s.pd d).psw = 0 →
      s.regulating (s.rdN (Pd.pdRail d)) = true →
      s.rung1 = false →
      s.gong.line = false →
      s.clk.lastEnable = [] →
      (s.sat (satPd d)).isolated = false →
      s.lowerDue d = false →
      CompletesWith (.pdOnStart d) s (fun t => t.rd (Pd.pdState d) = 1 ∧ (t.pd d).psw = 1 ∧ (t.pd d).step = 1 ∧ (t.pd d).startedAt = s.hclk
      ∧ (t.pd d).iso = true))
  ∧ (∀ (s : State) (d : Fin 96) (a : BitVec 4),
      s.rd (Pd.pdState d) = 1 →
      (s.pd d).step = 7 →
      CompletesWith (.pdSeqAdvance d a) s (fun t => t.rd (Pd.pdState d) = 2 ∧ (t.pd d).iso = false ∧ (t.pd d).step = 0
      ∧ t.rd (Pd.seqCount d) = fit (Pd.seqCount d) (s.rd (Pd.seqCount d) + 1) ∧ t.rd (Pd.ackState d) = fit (Pd.ackState d) (a.toNat : Int)))
  ∧ (∀ (s : State) (d : Fin 96) (a : BitVec 4),
      s.rd (Pd.pdState d) = 3 →
      (s.pd d).step = 2 →
      (s.pd d).psw = 0 →
      a = 0 →
      CompletesWith (.pdSeqAdvance d a) s (fun t => t.rd (Pd.pdState d) = 0 ∧ (t.pd d).step = 0))
  ∧ (∀ (s : State) (d : Fin 96) (a : BitVec 4),
      s.rd (Pd.pdState d) = 3 →
      (s.pd d).startedAt + 16000 ≤ s.hclk →
      CompletesWith (.pdSeqTimeout d a) s (fun t => t.rd (Pd.pdState d) = 4 ∧ t.rd (Pd.pdFault d) = 2 ∧ t.rd (Pd.retValid d) = 0
      ∧ (t.pd d).iso = true ∧ (t.pd d).psw = 0))
  ∧ (∀ (s : State) (d : Fin 96) (a : BitVec 4),
      s.rd (Pd.pdState d) = 2 →
      a ≠ 15 →
      CompletesWith (.pswAckLost d a) s (fun t => t.rd (Pd.pdState d) = 4 ∧ t.rd (Pd.pdFault d) = 3 ∧ t.rd (Pd.retValid d) = 0
      ∧ (t.pd d).iso = true ∧ (t.pd d).psw = 0 ∧ (t.pd d).rstN = false))
  ∧ (∀ (s : State) (d : Fin 96),
      s.rd (Pd.pdState d) = 4 →
      s.hostUp = true →
      CompletesWith (.pdCtrlClear d 0) s (fun t => t.rd (Pd.pdState d) = 0 ∧ t.rd (Pd.pdFault d) = 0 ∧ t.rd (Pd.pdCtrl d) = 1))
  ∧ (∀ (s : State) (d : Fin 96) (a : BitVec 4),
      (s.rd (Pd.pdState d) ≠ 4 ∨ a ≠ 0) →
      s.hostUp = true →
      CompletesWith (.pdCtrlClear d a) s (fun t => t.rd (Pd.pdState d) = s.rd (Pd.pdState d) ∧ t.rd (Pd.pdCtrl d) = 2 ∧ t.pds = s.pds))

/-- O21. A conversion, the end of a round, Kettle's update and correction, and board hot change the sensors as their rules say (R272, R274, R275, R277, R279, R280, R284).
Where the manual leaves a point open the clauses follow the model's choices: log 42, log 101. -/
def Obligations.SensorsAndKettleComplete : Prop :=
  (∀ (s : State) (i : HkIn),
      s.hkDue = true →
      s.rd (Ch.chKind s.hkChan) = 2 →
      s.rd (Ch.chStatus s.hkChan) = 0 →
      s.hkFault s.hkChan i = false →
      CompletesWith (.hkConversion i) s (fun t => t.rd (Ch.raw s.hkChan) = i.raw.toNat
      ∧ t.rd (Ch.value s.hkChan) = fit (Ch.value s.hkChan) (diodeTemp (s.hkVolt i.uv.toNat) (s.rd (Ch.ideality s.hkChan)))
      ∧ t.rd (Ch.valueUsed s.hkChan) = fit (Ch.valueUsed s.hkChan)
      (diodeTemp (s.hkVolt i.uv.toNat) (s.rd (Ch.ideality s.hkChan)) + s.rd (Ch.offset s.hkChan))
      ∧ t.rd (Ch.lastAt s.hkChan) = fit (Ch.lastAt s.hkChan) s.beat
      ∧ t.hk.nextCh = (s.hkChan + 1) % 128 ∧ t.hk.convAt = some s.hclk ∧ t.gong.line = s.gong.line))
  ∧ (∀ (s : State) (i : HkIn),
      s.hkDue = true →
      s.rd (Ch.chKind s.hkChan) = 1 →
      s.hkFault s.hkChan i = true →
      CompletesWith (.hkConversion i) s (fun t => t.rd (Ch.value s.hkChan) = -32768
      ∧ t.rd (Ch.faultCount s.hkChan) = fit (Ch.faultCount s.hkChan) (s.rd (Ch.faultCount s.hkChan) + 1)
      ∧ t.hk.nextCh = (s.hkChan + 1) % 128 ∧ t.hk.convAt = some s.hclk ∧ t.rd Gong.gongState = s.rd Gong.gongState))
  ∧ (∀ (s : State),
      s.roundDue = true →
      s.readingComes = false →
      s.rd Gong.gongState = 0 →
      CompletesWith .hkRoundEnd s (fun t => t.rd Kettle.hkRounds = fit Kettle.hkRounds (s.rd Kettle.hkRounds + 1)
      ∧ t.hk.converted = false ∧ t.hk.roundAt = some s.hclk ∧ t.gong.prevHot = s.gong.hotNow ∧ t.gong.hotNow = false
      ∧ t.rd Gong.gongState = 0))
  ∧ (∀ (s : State),
      s.kettleDue = true →
      CompletesWith .kettleUpdate s (fun t => t.hk.pwCount = s.hk.pwCount + 1 ∧ t.hk.updatedAt = some s.hclk
      ∧ (∀ p, p < 128 → tabGet (fun _ => 0) t.hk.pw p = s.rd (PEn.peEst p) - tabGet (fun _ => 0) s.hk.eLast p)
      ∧ ∀ p, p < 128 → tabGet (fun _ => 0) t.hk.eLast p = s.rd (PEn.peEst p)))
  ∧ (∀ (s : State) (d : Nat),
      s.hk.correctDue = some d →
      s.hk.convAt ≠ some s.hclk →
      s.rd (Ch.chStatus d) = 0 →
      CompletesWith .kettleCorrection s (fun t => t.hk.correctDue = none
      ∧ tabGet (fun _ => 0) t.hk.s d = s.ktS d + divOpen 76 (((s.rd (Ch.value d) + s.rd (Ch.offset d)) * 256 - s.ktS d) * s.rd Kettle.ktKg) 256
      ∧ d ∉ t.hk.openLoop))
  ∧ (∀ (s : State) (d : Nat),
      s.hk.correctDue = some d →
      s.hk.convAt ≠ some s.hclk →
      s.rd (Ch.chStatus d) ≠ 0 →
      CompletesWith .kettleCorrection s (fun t => t.hk.correctDue = none ∧ t.hk.s = s.hk.s ∧ d ∈ t.hk.openLoop))
  ∧ (∀ (s : State),
      s.rd Kettle.bhState = 0 →
      Completes .boardHotAssert s (((s.wr Kettle.bhState 1).record srcGong 0x0408 1 s.hottestVal (s.rd Kettle.bhAct)).cause 8))
  ∧ (∀ (s : State),
      s.rd Kettle.bhState = 1 →
      CompletesWith .boardHotRelease s (fun t => t.rd Kettle.bhState = 0 ∧ t.budget.bhZeroAt = s.beat))

/-- O22. Gong's deadline, its commands, the rails-off action and the restart follow the table of R289 (R30, R286, R287, R288, R289).
Where the manual leaves a point open the clauses follow the model's choices: log 75. -/
def Obligations.GongCompletes : Prop :=
  (∀ (s : State),
      s.rd Gong.gongState = 1 →
      s.railsOffComes = false →
      s.gong.tripAt + 800000 * s.gong.orderly ≤ s.hclk →
      CompletesWith .gongOrderlyDeadline s (fun t => t.rd Gong.gongState = 2 ∧ t.gong.x = some s.hclk ∧ t.gong.xCause = 0 ∧ t.gong.offDone = false))
  ∧ (∀ (s : State),
      s.rd Gong.gongState = 1 →
      s.hostUp = true →
      CompletesWith .gongCtrlRailsOff s (fun t => t.rd Gong.gongState = 2 ∧ t.gong.x = some s.hclk ∧ t.gong.xCause = 1 ∧ t.rd Gong.gongCtrl = 1))
  ∧ (∀ (s : State),
      s.rd Gong.gongState ≠ 1 →
      s.hostUp = true →
      CompletesWith .gongCtrlRailsOff s (fun t => t.rd Gong.gongState = s.rd Gong.gongState ∧ t.gong = s.gong ∧ t.rd Gong.gongCtrl = 2))
  ∧ (∀ (s : State) (x : Nat),
      s.gong.x = some x →
      s.gong.offDone = false →
      x + 16000 ≤ s.hclk →
      CompletesWith .gongRailsOff s (fun t => t.gong.offDone = true ∧ t.start.released = false ∧ t.rd Gong.gongState = s.rd Gong.gongState))
  ∧ (∀ (s : State),
      s.rd Gong.gongState = 3 →
      s.rd Gong.restartMode = 0 →
      (s.roundDue && s.dieAbove) = false →
      s.hostUp = true →
      CompletesWith .gongCtrlRestart s (fun t => t.rd Gong.gongState = 4 ∧ t.gong.line = false ∧ t.gong.outN = true ∧ t.gong.prevHot = false
      ∧ t.gong.x = none ∧ t.rd Gong.gongCtrl = 1 ∧ t.rd Gong.tripTime = s.rd Gong.tripTime))
  ∧ (∀ (s : State),
      (s.rd Gong.gongState ≠ 3 ∨ s.rd Gong.restartMode = 1) →
      s.hostUp = true →
      CompletesWith .gongCtrlRestart s (fun t => t.rd Gong.gongState = s.rd Gong.gongState ∧ t.gong = s.gong ∧ t.rd Gong.gongCtrl = 2))

/-- O23. CMD_START closes the command that ran, the reconciliation and its application, and the snapshot, give the counters their values (R339, R340, R342, R343, R345).
Where the manual leaves a point open the clauses follow the model's choices: log 43, log 44, log 52, log 127. -/
def Obligations.CommandEnergyAndReconciliationComplete : Prop :=
  (∀ (s : State) (q : Fin 512) (e : StartEdge) (ba be : BitVec 16) (sa : BitVec 3),
      CompletesWith (.cmdStart q e ba be sa) s (fun t =>
      t.rd (QEn.cmdLast q) = cmdFormat (s.rdN (QEn.cmdCount q)) (tabGet (fun _ => 0) (s.addQe q ba.toNat).energy.cmd q)
      ∧ t.rd (QEn.cmdCount q) = ((s.rdN (QEn.cmdCount q) + 1) % 2 ^ 32 : Nat)
      ∧ t.rd (QEn.cmdLastCyc q) = (min (tabGet (fun _ => 0) s.energy.cyc q + (be.toNat - tabGet (fun _ => 0) s.energy.off q)) (2 ^ 32 - 1) : Nat)))
  ∧ (∀ (s : State),
      s.start.hubUp = true →
      s.beatHclk % 800000 = 0 →
      s.energy.recAt < s.hclk →
      CompletesWith .reconcile s (fun t => t.energy.recDue = true ∧ t.energy.recAt = s.hclk ∧ t.energy.recBeat = s.beat
      ∧ t.energy.recLen = s.hclk - s.energy.recAt ∧ t.energy.recCut = railList))
  ∧ (∀ (s : State) (n : Nat),
      tabGet (fun _ => 0) (s.reconcileRail n).energy.railAtR n = tabGet (fun _ => 0) s.energy.rail n / 65536
      ∧ n ∉ (s.reconcileRail n).energy.recCut)
  ∧ (∀ (s : State),
      s.energy.recDue = true →
      s.energy.recAt + 1600 ≤ s.hclk →
      s.energy.recCut = [] →
      CompletesWith .reconcileApply s (fun t => t.energy.recDue = false ∧ t.rd EnTel.recCount = fit EnTel.recCount (s.rd EnTel.recCount + 1)
      ∧ t.rd EnTel.recLast = fit EnTel.recLast s.energy.recBeat
      ∧ (∀ n, n < 8 → t.rd (EnTel.railRec n) = fit (EnTel.railRec n) (tabGet (fun _ => 0) s.energy.railAtR n))
      ∧ ∀ p, p < 128 → (tabGet (fun _ => 0) t.energy.adj p : Int) = tabGet (fun _ => 0) s.energy.adj p + tabGet (fun _ => 0) s.energy.pendingAdj p))
  ∧ (∀ (s : State),
      s.rd EnTel.eSnap ≠ 1 →
      s.hostUp = true →
      CompletesWith .eSnap s (fun t => t.rd EnTel.eSnap = 1 ∧ t.energy.snapAt = some ((s.beatHclk + 64 + 799) / 800 * 800)))
  ∧ (∀ (s : State),
      s.rd EnTel.eSnap = 1 →
      s.hostUp = true →
      CompletesWith .eSnap s (fun t => t.energy.snapAt = s.energy.snapAt ∧ t.rd EnTel.eSnap = s.rd EnTel.eSnap))
  ∧ (∀ (s : State) (b : Nat),
      s.energy.snapAt = some b →
      b ≤ s.beatHclk →
      CompletesWith .energySnapshot s (fun t => t.energy.snapAt = none ∧ t.rd EnTel.eSnap = 2 ∧ t.rd EnTel.snapBeat = fit EnTel.snapBeat (b / 800 : Nat)
      ∧ (∀ n, n < 8 → t.rd (EnTel.railSnap n) = fit (EnTel.railSnap n) (s.rd (EnTel.railEnergy n)))
      ∧ (∀ p, p < 128 → t.rd (PEn.peSnap p) = fit (PEn.peSnap p) (s.adjusted.rd (PEn.peTotal p)))
      ∧ ∀ q, q < 512 → t.rd (QEn.qeSnap q) = fit (QEn.qeSnap q) (s.rd (QEn.qeTotal q)) ∧ t.rd (QEn.cmdSnap q) = fit (QEn.cmdSnap q) (s.adjusted.cmdView q)))

/-- O24. Enabling, disabling and flushing a window, its samples, issues, commits and errors follow the window's rules, and the port hands its writes over in order (R54, R346, R349, R350, R351, R356, R357, R358).
Where the manual leaves a point open the clauses follow the model's choices: log 15, log 49, log 103, log 128. -/
def Obligations.TelemetryWindowsComplete : Prop :=
  (∀ (s : State) (w : Fin 15),
      s.rd (Win.winEn w) = 0 →
      s.winRefused w = false →
      s.hostUp = true →
      CompletesWith (.winEnable w) s (fun t => t.rd (Win.winEn w) = 1 ∧ t.rd (Win.nextSeq w) = 0 ∧ t.rd (Win.committed w) = 0
      ∧ t.rd (Win.winDrops w) = 0 ∧ t.win w = {}))
  ∧ (∀ (s : State) (w : Fin 15),
      s.rd (Win.winEn w) = 0 →
      s.winRefused w = true →
      s.hostUp = true →
      CompletesWith (.winEnable w) s (fun t => t.rd (Win.winEn w) = 0 ∧ t.win w = s.win w))
  ∧ (∀ (s : State) (w : Fin 15),
      (s.win w).issue.isNone = true →
      s.hostUp = true →
      CompletesWith (.winDisable w) s (fun t => t.rd (Win.winEn w) = 0 ∧ (t.win w).items = [] ∧ (t.win w).waiting = none))
  ∧ (∀ (s : State) (w : Fin 15),
      (s.win w).issue.isSome = true →
      s.hostUp = true →
      CompletesWith (.winDisable w) s (fun t => t.rd (Win.winEn w) = 2 ∧ (t.win w).issue = (s.win w).issue ∧ (t.win w).waiting = none))
  ∧ (∀ (s : State) (w : Fin 15),
      s.instantDue w = true →
      s.winSilent w = false →
      (s.win w).waiting = none →
      CompletesWith (.telSampleDue w) s (fun t => ∃ r, (t.win w).waiting = some r ∧ r.words = s.sampleWords w ∧ r.beat = s.beat ∧ r.tick = 0
      ∧ r.seq = s.rdN (Win.nextSeq w) ∧ r.drops = s.rdN (Win.winDrops w) ∧ r.gap = (s.win w).gap
      ∧ t.rd (Win.nextSeq w) = fit (Win.nextSeq w) ((s.rdN (Win.nextSeq w) + 1) % 2 ^ 32 : Nat) ∧ (t.win w).sampledAt = some s.hclk))
  ∧ (∀ (s : State) (w : Fin 15) (r : TelRec),
      s.instantDue w = true →
      s.winSilent w = false →
      (s.win w).waiting = some r →
      CompletesWith (.telSampleDue w) s (fun t => (t.win w).waiting = some { r with gap := true } ∧ (t.win w).gap = (s.win w).gap ∧ (t.win w).behind = true
      ∧ t.rd (Win.winDrops w) = fit (Win.winDrops w) (s.rd (Win.winDrops w) + 1) ∧ t.rd EnTel.telDrops = fit EnTel.telDrops (s.rd EnTel.telDrops + 1)))
  ∧ (∀ (s : State) (w : Fin 15),
      s.instantDue w = true →
      s.winSilent w = true →
      CompletesWith (.telSampleDue w) s (fun t => (t.win w).waiting = (s.win w).waiting ∧ t.rd (Win.nextSeq w) = s.rd (Win.nextSeq w)
      ∧ t.rd (Win.suppressed w) = fit (Win.suppressed w) (s.rd (Win.suppressed w) + 1)))
  ∧ (∀ (s : State) (w : Fin 15),
      s.rd (Win.winEn w) = 1 →
      (s.win w).items ≠ [] →
      ((s.win w).firstBeat : Int) + s.rd (Win.winFlush w) ≤ s.beat →
      s.winOffComes w = false →
      s.winSilent w = false →
      (s.win w).waiting = none →
      CompletesWith (.telFlush w) s (fun t => (t.win w).items = [] ∧ ∃ r, (t.win w).waiting = some r ∧ r.flushed = true
      ∧ r.count = (s.win w).items.length ∧ r.words = (s.win w).items.flatten))
  ∧ (∀ (s : State) (w : Fin 15),
      s.rd (Win.winEn w) = 1 →
      (s.win w).items ≠ [] →
      ((s.win w).firstBeat : Int) + s.rd (Win.winFlush w) ≤ s.beat →
      s.winOffComes w = false →
      s.winSilent w = true →
      CompletesWith (.telFlush w) s (fun t => (t.win w).items = [] ∧ (t.win w).waiting = (s.win w).waiting
      ∧ t.rd (Win.suppressed w) = fit (Win.suppressed w) (s.rd (Win.suppressed w) + 1)))
  ∧ (∀ (s : State) (w : Fin 15),
      s.winReady w = true →
      s.winFirst w = true →
      s.canPay 0 = true →
      s.tel.port = [] →
      CompletesWith (.telRecordIssue w) s (fun t => (t.win w).issue = (s.win w).waiting.map (fun x => { x with shared := s.shared }) ∧ (t.win w).rows = 15
      ∧ t.tel.port = [(w.val, 0), (w.val, 1), (w.val, 2), (w.val, 3)] ∧ t.tel.granted = true
      ∧ t.rd EnTel.slotsUsed = fit EnTel.slotsUsed (s.rd EnTel.slotsUsed + 8)
      ∧ t.tel.bucket + 800000 = s.tel.bucket))
  ∧ (∀ (s : State) (e : TipWrite) (tag : BitVec 5),
      s.tipOf tag.toNat = some e →
      e.row ≠ 4 →
      putBit (s.win e.win).rows e.row false ≠ 0 →
      CompletesWith (.tipCommit tag false) s (fun t => (t.win e.win).rows = putBit (s.win e.win).rows e.row false ∧ (t.win e.win).issue = (s.win e.win).issue
      ∧ t.tel.out = s.tel.out.filter (fun x => x.tag ≠ e.tag) ∧ t.rd EnTel.tipOutstanding = fit EnTel.tipOutstanding (t.tel.out.length : Nat)
      ∧ t.rd (Win.committed e.win) = s.rd (Win.committed e.win)))
  ∧ (∀ (s : State) (e : TipWrite) (tag : BitVec 5),
      s.tipOf tag.toNat = some e →
      e.row ≠ 4 →
      putBit (s.win e.win).rows e.row false = 0 →
      (s.win e.win).failed = false →
      CompletesWith (.tipCommit tag false) s (fun t => (t.win e.win).rows = 16 ∧ t.tel.port = s.tel.port ++ [(e.win, 4)]
      ∧ (t.win e.win).issue = (s.win e.win).issue ∧ t.rd (Win.committed e.win) = s.rd (Win.committed e.win)))
  ∧ (∀ (s : State) (e : TipWrite) (tag : BitVec 5),
      s.tipOf tag.toNat = some e →
      e.row = 4 →
      CompletesWith (.tipCommit tag false) s (fun t => (t.win e.win).issue = none
      ∧ t.rd (Win.committed e.win) = ((s.rdN (Win.committed e.win) + 1) % 2 ^ 32 : Nat)
      ∧ t.rd (Win.winEn e.win) = if s.rd (Win.winEn e.win) = 2 then 0 else s.rd (Win.winEn e.win)))
  ∧ (∀ (s : State) (e : TipWrite) (tag : BitVec 5),
      s.tipOf tag.toNat = some e →
      (s.win e.win).failed = false →
      CompletesWith (.tipCommitError tag true) s (fun t => t.rd EnTel.tipErrors = fit EnTel.tipErrors (s.rd EnTel.tipErrors + 1)
      ∧ t.rd (Win.winAbandoned e.win) = fit (Win.winAbandoned e.win) (s.rd (Win.winAbandoned e.win) + 1)
      ∧ t.rd (Win.winDrops e.win) = fit (Win.winDrops e.win) (s.rd (Win.winDrops e.win) + 1)
      ∧ t.rd (Win.committed e.win) = s.rd (Win.committed e.win)))
  ∧ (∀ (s : State) (e : TipWrite) (tag : BitVec 5),
      s.tipOf tag.toNat = some e →
      (s.win e.win).failed = true →
      CompletesWith (.tipCommitError tag true) s (fun t => t.rd EnTel.tipErrors = fit EnTel.tipErrors (s.rd EnTel.tipErrors + 1)
      ∧ t.rd (Win.winAbandoned e.win) = s.rd (Win.winAbandoned e.win) ∧ t.rd (Win.committed e.win) = s.rd (Win.committed e.win)
      ∧ (putBit (s.win e.win).rows e.row false = 0 → (t.win e.win).issue = none)))
  ∧ (∀ (s : State) (w row : Nat) (r : List (Nat × Nat)),
      s.tel.port = (w, row) :: r →
      s.tel.granted = true →
      s.tel.out.length < 32 →
      s.hostUp = true →
      (s.freeVal 206 % 2 = 0 → s.portTick.tel = s.tel)
      ∧ (s.freeVal 206 % 2 ≠ 0 → s.portTick.tel.port = r ∧ s.portTick.tel.granted = false ∧ s.portTick.tel.out = s.tel.out ++ [⟨w, row, s.freeTag⟩]
      ∧ s.portTick.tel.tagNext = (s.freeTag + 1) % 32))
  ∧ (∀ (s : State) (w row : Nat) (r : List (Nat × Nat)),
      s.tel.port = (w, row) :: r →
      s.tel.granted = false →
      (s.canPay row = false → s.portTick = s)
      ∧ (s.canPay row = true → s.present.tel.granted = true ∧ s.present.tel.port = s.tel.port
      ∧ s.present.tel.bucket + s.writeCost row * 100000 = s.tel.bucket
      ∧ s.present.rd EnTel.slotsUsed = fit EnTel.slotsUsed (s.rd EnTel.slotsUsed + s.writeCost row)))

/-- O25. A budget period, the cap timer, the limiter, the fmax rewrite, the ageing measurement and PID_CLEAR take effect (R247, R248, R259, R260, R264, R265, R271).
Where the manual leaves a point open the clauses follow the model's choices: log 50, log 100. -/
def Obligations.BudgetAndLearnerComplete : Prop :=
  (∀ (s : State),
      s.fpRuns 1 = true →
      s.beat % s.rdN Budget.budgetPeriod = 0 →
      s.budget.lastPeriod ≠ some s.beat →
      CompletesWith .budgetPeriodStart s (fun t => t.budget.lastPeriod = some s.beat
      ∧ t.rd Budget.capEff = fit Budget.capEff (min (s.capNow Budget.chipCapMw) (min (s.capNow Budget.operCapMw) (s.rd Budget.clusterGrantMw)))
      ∧ t.rd Budget.pDie = fit Budget.pDie (sumRails railList s.meanPower) ∧ t.budget.predicted.isSome = true
      ∧ t.hk.hotMax = [] ∧ t.hk.pwCount = 0))
  ∧ (∀ (s : State) (b : Nat),
      s.fpRuns 1 = true →
      s.rd Budget.capState = 1 →
      s.budget.fw.overSince = some b →
      s.budget.fw.isOver = true →
      b + 800 * s.rdN Budget.capTimer ≤ s.hclk →
      CompletesWith .capTimerExpiry s (fun t => t.rd Budget.capState = 2
      ∧ t.rd Budget.unreachCount = fit Budget.unreachCount (s.rd Budget.unreachCount + 1) ∧ t.budget.fw.underSince = some s.hclk))
  ∧ (∀ (s : State) (b : Nat),
      s.fpRuns 1 = true →
      s.rd Budget.capState = 2 →
      s.budget.fw.underSince = some b →
      b + 800 * s.rdN Budget.capTimer ≤ s.hclk →
      CompletesWith .capTimerExpiry s (fun t => t.rd Budget.capState = 1 ∧ t.budget.fw.underSince = none))
  ∧ (∀ (s : State) (n : Fin 8),
      s.floorDue n = true →
      0 < tabGet (fun _ => 0) s.budget.pow (40 + n) →
      s.rd (Budget.hwCapRail n) * tabGet (fun _ => 0) s.budget.pow (40 + n) < tabGet (fun _ => 0) s.budget.pow (32 + n) →
      s.rd (Budget.hwCapRail n) ≠ 0xFFFFFFFF →
      s.bit Budget.hwAtOp0 n = true →
      s.underRung6 n = true →
      1 < (s.limiter n).ceil →
      CompletesWith (.brushFloorStep n) s (fun t => (t.limiter n).ceil = (s.limiter n).ceil - 1 ∧ (t.limiter n).stepBeat = some s.beat))
  ∧ (∀ (s : State) (n : Fin 8),
      s.floorDue n = true →
      tabGet (fun _ => 0) s.budget.pow (40 + n) = 0 →
      s.rd (Budget.hwCapRail n) < s.rd (Rail.pout n) →
      s.rd (Budget.hwCapRail n) ≠ 0xFFFFFFFF →
      s.bit Budget.hwAtOp0 n = true →
      s.underRung6 n = true →
      1 < (s.limiter n).ceil →
      CompletesWith (.brushFloorStep n) s (fun t => (t.limiter n).ceil = (s.limiter n).ceil - 1))
  ∧ (∀ (s : State) (n : Fin 8),
      s.floorDue n = true →
      0 < tabGet (fun _ => 0) s.budget.pow (40 + n) →
      100 * tabGet (fun _ => 0) s.budget.pow (32 + n) ≤ 98 * s.rd (Budget.hwCapRail n) * tabGet (fun _ => 0) s.budget.pow (40 + n) →
      0 ≤ s.rd (Budget.hwCapRail n) →
      (s.limiter n).ceil < 16 →
      CompletesWith (.brushFloorStep n) s (fun t => (t.limiter n).ceil = (s.limiter n).ceil + 1 ∧ (t.limiter n).stepBeat = some s.beat))
  ∧ (∀ (s : State) (n : Fin 8),
      s.floorDue n = true →
      0 < tabGet (fun _ => 0) s.budget.pow (40 + n) →
      tabGet (fun _ => 0) s.budget.pow (32 + n) ≤ s.rd (Budget.hwCapRail n) * tabGet (fun _ => 0) s.budget.pow (40 + n) →
      98 * s.rd (Budget.hwCapRail n) * tabGet (fun _ => 0) s.budget.pow (40 + n) < 100 * tabGet (fun _ => 0) s.budget.pow (32 + n) →
      s.bit Budget.hwAtOp0 n = true →
      CompletesWith (.brushFloorStep n) s (fun t => (t.limiter n).ceil = (s.limiter n).ceil))
  ∧ (∀ (s : State),
      s.fpRuns 0 = true →
      CompletesWith .fmaxRewrite s (fun t => ∀ c, c < 64 → ∀ i, i < 32 → t.rd (Cd.fmaxEff c i) = fit (Cd.fmaxEff c i)
      ((s.fmaxField c i 0).1 + (s.fmaxField c i 1).1 * 2 ^ 16 + (s.fmaxField c i 2).1 * 2 ^ 32 + (s.fmaxField c i 3).1 * 2 ^ 48 : Nat)))
  ∧ (∀ (s : State) (l : List (BitVec 32)),
      s.fpRuns 0 = true →
      s.rd OpTab.ageLast + 86400000000 ≤ s.beat →
      (∀ k, k < 8 → s.rdN (OpTab.ageDerate k) < 2 ^ 64) →
      CompletesWith (.ageingMeasure l) s (fun t => t.rd OpTab.ageLast = fit OpTab.ageLast s.beat ∧ ∀ c, c < 64 → s.derate c ≤ t.derate c))
  ∧ (∀ (s : State) (q : Byte),
      s.fpRuns 1 = true →
      s.hostUp = true →
      CompletesWith (.pidClear q) s (fun t => t.rd (Pid.gen q.toNat) = fit (Pid.gen q.toNat) (s.rd (Pid.gen q.toNat) + 1)
      ∧ t.rd (Pid.pidClear q.toNat) = 1
      ∧ ∀ p, p < 128 → t.blobWord (0x6200 + q.toNat) p = s.blobWord (0x6200 + q.toNat) p % 2 ^ 32))

/-- O26. Markers are accepted, taken in order and act; a descriptor row, a planned switch and a preload's end do as the rules say (R251, R252, R253, R254, R255, R256).
Where the manual leaves a point open the clauses follow the model's choices: log 100, log 124, log 125. -/
def Obligations.MarkersAndSwitchesComplete : Prop :=
  (∀ (s : State) (k : BitVec 2) (q : Byte) (p : Fin 128) (c : BitVec 2) (d : BitVec 34),
      s.pmReady = true →
      s.rd (Fp.fpState 1) = 2 →
      k ≠ 3 →
      c ≠ 3 →
      CompletesWith (.markerAccept k q p c d) s (fun t =>
      t.budget.markers = s.budget.markers ++ [⟨k.toNat, q.toNat, p, c.toNat, d.toNat, s.beat, s.tick, s.rd (PEn.peTotal p), s.sums p⟩]
      ∧ t.rd Budget.mkAccepted = fit Budget.mkAccepted (s.rd Budget.mkAccepted + 1)))
  ∧ (∀ (s : State) (k : BitVec 2) (q : Byte) (p : Fin 128) (c : BitVec 2) (d : BitVec 34),
      s.pmReady = true →
      s.rd (Fp.fpState 1) ≠ 2 →
      k ≠ 3 →
      c ≠ 3 →
      CompletesWith (.markerAccept k q p c d) s (fun t => t.budget.markers = s.budget.markers
      ∧ t.rd Budget.mkAccepted = fit Budget.mkAccepted (s.rd Budget.mkAccepted + 1)
      ∧ t.rd Budget.mkLostFp = fit Budget.mkLostFp (s.rd Budget.mkLostFp + 1)))
  ∧ (∀ (s : State) (k : BitVec 2) (q : Byte) (p : Fin 128) (c : BitVec 2) (d : BitVec 34),
      s.pmReady = true →
      (k = 3 ∨ c = 3) →
      CompletesWith (.markerAccept k q p c d) s (fun t => t.budget.markers = s.budget.markers
      ∧ t.rd Budget.mkAccepted = fit Budget.mkAccepted (s.rd Budget.mkAccepted + 1)
      ∧ t.rd Budget.mkRejected = fit Budget.mkRejected (s.rd Budget.mkRejected + 1)))
  ∧ (∀ (s : State) (m : Marker) (l : List Marker),
      s.budget.markers = m :: l →
      m.kind = 0 →
      s.budget.reading = none →
      s.fpRuns 1 = true →
      m.pt < 128 →
      CompletesWith .markerBegin s (fun t => t.budget.markers = l ∧ t.rd (Part.pidNow m.pt) = (if s.rd (Part.pidNow m.pt) = m.pid then (m.pid : Int) else fit (Part.pidNow m.pt) m.pid)
      ∧ t.rd (Part.instOpen m.pt) = 1 ∧ tabGet (fun _ => ⟨0, 0, 0, {}⟩) t.budget.fw.insts m.pt = ⟨m.beat, m.energy, m.pid, m.snap⟩))
  ∧ (∀ (s : State) (m : Marker) (l : List Marker) (e : Nat × Instance),
      s.budget.markers = m :: l →
      m.kind = 1 →
      s.budget.reading = none →
      s.fpRuns 1 = true →
      s.rd (Part.pidNow m.pt) = m.pid →
      m.pt < 128 →
      s.budget.fw.insts.find? (fun x => x.1 = m.pt) = some e →
      ((m.beat - e.2.beat : Nat) : Int) < s.rd Budget.learnMin ∨ s.bit (Pid.pidFlags e.2.pid) 0 = false ∨ e.2.tainted m = true →
      CompletesWith .markerEnd s (fun t => t.budget.markers = l ∧ t.budget.fw.insts = tabDel s.budget.fw.insts m.pt ∧ t.rd (Part.instOpen m.pt) = 0
      ∧ t.rd Budget.learnSkipped = fit Budget.learnSkipped (s.rd Budget.learnSkipped + 1)))
  ∧ (∀ (s : State) (m : Marker) (l : List Marker) (e : Nat × Instance),
      s.budget.markers = m :: l →
      m.kind = 1 →
      s.budget.reading = none →
      s.fpRuns 1 = true →
      s.rd (Part.pidNow m.pt) = m.pid →
      m.pt < 128 →
      s.budget.fw.insts.find? (fun x => x.1 = m.pt) = some e →
      e.2.pid < 256 →
      s.rd Budget.learnMin ≤ (m.beat - e.2.beat : Nat) →
      s.bit (Pid.pidFlags e.2.pid) 0 = true →
      e.2.tainted m = false →
      CompletesWith .markerEnd s (fun t => t.budget.markers = l ∧ t.budget.fw.insts = tabDel s.budget.fw.insts m.pt ∧ t.rd (Part.instOpen m.pt) = 0
      ∧ t.rd (Pid.pidInstances e.2.pid) = fit (Pid.pidInstances e.2.pid) (s.rd (Pid.pidInstances e.2.pid) + 1)
      ∧ t.rd (Pid.pidLast e.2.pid) = fit (Pid.pidLast e.2.pid) m.beat ∧ t.learnCount e.2.pid m.pt = min (s.learnCount e.2.pid m.pt + 1) 65535))
  ∧ (∀ (s : State) (m : Marker) (l : List Marker),
      s.budget.markers = m :: l →
      m.kind = 1 →
      s.budget.reading = none →
      s.fpRuns 1 = true →
      s.rd (Part.pidNow m.pt) = m.pid →
      s.budget.fw.insts.find? (fun x => x.1 = m.pt) = none →
      CompletesWith .markerEnd s (fun t => t.budget.markers = l ∧ t.budget.fw = s.budget.fw))
  ∧ (∀ (s : State) (m : Marker) (l : List Marker),
      s.budget.markers = m :: l →
      m.kind = 1 →
      s.budget.reading = none →
      s.fpRuns 1 = true →
      s.rd (Part.pidNow m.pt) ≠ m.pid →
      CompletesWith .markerEnd s (fun t => t.budget.markers = l ∧ t.budget.fw = s.budget.fw
      ∧ t.rd Budget.mkMismatch = fit Budget.mkMismatch (s.rd Budget.mkMismatch + 1)))
  ∧ (∀ (s : State) (m : Marker) (l : List Marker),
      s.budget.markers = m :: l →
      m.kind = 2 →
      s.budget.reading = none →
      s.fpRuns 1 = true →
      CompletesWith .markerPreload s (fun t => t.budget.markers = l ∧ t.budget.reading = some m
      ∧ t.rd Budget.scopeEngine = (if m.scope = 0 then fit Budget.scopeEngine (s.rd Budget.scopeEngine + 1) else s.rd Budget.scopeEngine)))
  ∧ (∀ (s : State) (m : Marker) (row : List Byte),
      s.budget.reading = some m →
      s.fpRuns 1 = true →
      rowGood row m = false →
      CompletesWith (.descriptorReadDone row) s (fun t => t.budget.reading = none ∧ t.budget.fw = s.budget.fw
      ∧ t.rd Budget.descBad = fit Budget.descBad (s.rd Budget.descBad + 1)))
  ∧ (∀ (s : State) (m : Marker) (row : List Byte),
      s.budget.reading = some m →
      s.fpRuns 1 = true →
      rowGood row m = true →
      1 ≤ ((leNat ((row.drop 4).take 4) : Int) - s.rd (Part.seqLast m.pt)) % 2 ^ 32 →
      ((leNat ((row.drop 4).take 4) : Int) - s.rd (Part.seqLast m.pt)) % 2 ^ 32 < 2 ^ 31 →
      CompletesWith (.descriptorReadDone row) s (fun t => t.budget.reading = none
      ∧ t.rd (Part.seqLast m.pt) = fit (Part.seqLast m.pt) (leNat ((row.drop 4).take 4))))
  ∧ (∀ (s : State) (p : Fin 128) (pl : Plan),
      s.budget.fw.plans = [pl] →
      pl.pts.contains p.val = true →
      pl.submitted = false →
      s.fpRuns 1 = true →
      pl.beat ≤ s.beat + 20 →
      CompletesWith (.switchSubmit p) s (fun t => t.budget.fw.plans = [{ pl with
      submitted := true, derived := s.derivedFor (s.pidAt (instant1024 pl.beat pl.tick) pl.pts pl.pid),
      alloc := s.allocShow (s.pidAt (instant1024 pl.beat pl.tick) pl.pts pl.pid) (s.allocate (s.pidAt (instant1024 pl.beat pl.tick) pl.pts pl.pid)) }]
      ∧ t.budget.derived = s.budget.derived))
  ∧ (∀ (s : State) (p : Fin 128),
      s.fpRuns 1 = true →
      s.budget.fw.preloads.any (fun e => e.1 = p.val && decide (e.2.2 ≤ s.beat)) = true →
      CompletesWith (.preloadExpire p) s (fun t =>
      t.budget.fw.preloads = s.budget.fw.preloads.filter (fun e => !(e.1 = p.val && decide (e.2.2 ≤ s.beat)))
      ∧ t.rd Budget.preloadOrphan = fit Budget.preloadOrphan (s.rd Budget.preloadOrphan + 1)))

/-- O27. Links rise, fall and time out; frames are sent, received, discarded or cut; delay and beat exchanges take effect (R303, R304, R305, R309, R311, R312).
Where the manual leaves a point open the clauses follow the model's choices: log 59, log 71, log 102. -/
def Obligations.LinksAndFramesComplete : Prop :=
  (∀ (s : State) (p : Fin 4),
      s.rd (Port.linkState p) = 0 →
      s.usesPort p = true →
      CompletesWith (.dlUpRise p) s (fun t => t.rd (Port.linkState p) = 1 ∧ t.rd (Port.lastChange p) = fit (Port.lastChange p) s.beat
      ∧ (t.port p).up = true ∧ (t.port p).heardAt = s.hclk ∧ t.rd (Port.linkGen p) = 0))
  ∧ (∀ (s : State) (p : Fin 4),
      s.rd (Port.linkState p) ≠ 0 →
      CompletesWith (.dlUpFall p) s (fun t => t.rd (Port.linkState p) = 0 ∧ (t.port p).up = false ∧ t.rd (Port.partnerDepth p) = 255
      ∧ t.rd (Port.linkDowns p) = fit (Port.linkDowns p) (s.rd (Port.linkDowns p) + 1)))
  ∧ (∀ (s : State) (p : Fin 4),
      s.rd (Port.linkState p) ≠ 0 →
      (s.port p).heardAt + 3277 ≤ s.hclk →
      CompletesWith (.linkSilenceTimeout p) s (fun t => t.rd (Port.linkState p) = 0
      ∧ t.rd (Port.linkDowns p) = fit (Port.linkDowns p) (s.rd (Port.linkDowns p) + 1)))
  ∧ (∀ (s : State) (p : Fin 4),
      s.rd (Port.linkState p) ≠ 0 →
      (s.port p).slotAt + 256 ≤ 5 * s.hclk →
      CompletesWith (.frameSlot p) s (fun t => t.rd (Port.framesTx p) = fit (Port.framesTx p) (s.rd (Port.framesTx p) + 1)
      ∧ (t.port p).txSeq = ((s.port p).txSeq + 1) % 16 ∧ (t.port p).lastTx % 256 = frameCrc (t.port p).lastTx
      ∧ getField (t.port p).lastTx 56 4 = (s.port p).txSeq % 16))
  ∧ (∀ (s : State) (p : Fin 4) (f : BitVec 80) (g : BitVec 12),
      s.takesFrame p 0 f = true →
      s.rd (Port.linkState p) = 1 →
      ¬ ((s.port p).idles ≠ 0 ∧ (s.port p).exchanged = true) →
      CompletesWith (.idleFrame p f false g) s (fun t => t.rd (Port.linkState p) = 1
      ∧ t.rd (Port.partnerSerial p) = fit (Port.partnerSerial p) (getField (frameBody f.toNat) 0 24)
      ∧ t.rd (Port.partnerGen p) = fit (Port.partnerGen p) (getField (frameBody f.toNat) 40 8)
      ∧ t.rd (Port.partnerDepth p) = fit (Port.partnerDepth p) (getField (frameBody f.toNat) 32 8)
      ∧ (t.port p).heardAt = s.hclk ∧ t.rd (Port.framesRx p) = fit (Port.framesRx p) (s.rd (Port.framesRx p) + 1)))
  ∧ (∀ (s : State) (p : Fin 4) (f : BitVec 80) (g : BitVec 12),
      s.takesFrame p 0 f = true →
      s.rd (Port.linkState p) = 1 →
      (s.port p).idles ≠ 0 →
      (s.port p).exchanged = true →
      CompletesWith (.idleFrame p f false g) s (fun t => t.rd (Port.linkState p) = 2 ∧ t.rd (Port.lastChange p) = fit (Port.lastChange p) s.beat
      ∧ t.rd (Port.linkUps p) = fit (Port.linkUps p) (s.rd (Port.linkUps p) + 1)))
  ∧ (∀ (s : State) (p : Fin 4) (f : BitVec 80) (g : BitVec 12),
      s.takesFrame p 2 f = true →
      CompletesWith (.dreqFrame p f false g) s (fun t => (t.port p).drsp = some (getField (frameBody f.toNat) 40 8, 8 * (s.hclk : Int) - g.toNat)
      ∧ t.rd (Port.framesRx p) = fit (Port.framesRx p) (s.rd (Port.framesRx p) + 1)))
  ∧ (∀ (s : State) (p : Fin 4) (f : BitVec 80) (g : BitVec 12) (x : Nat),
      s.takesFrame p 3 f = true →
      (s.port p).dreqs = [(getField (frameBody f.toNat) 40 8, x)] →
      8 * s.hclk < x + 25600 →
      CompletesWith (.drspFrame p f false g) s (fun t => (t.port p).dreqs = [] ∧ (t.port p).exchanged = true
      ∧ t.rd (Port.framesRx p) = fit (Port.framesRx p) (s.rd (Port.framesRx p) + 1)))
  ∧ (∀ (s : State) (p : Fin 4),
      s.beatHclk % 12800 = 0 →
      s.rd (Port.linkState p) ≠ 0 →
      s.usesPort p = true →
      (s.port p).dreqAt ≠ some s.hclk →
      CompletesWith (.dreqSend p) s (fun t => (t.port p).dreqDue = true ∧ (t.port p).dreqAt = some s.hclk))
  ∧ (∀ (s : State) (p : Fin 4) (id : Byte) (x : Nat),
      (s.port p).dreqs = [(id.toNat, x)] →
      x + 25600 ≤ 8 * s.hclk →
      CompletesWith (.drspTimeout p id) s (fun t => (t.port p).dreqs = []
      ∧ t.rd (Port.lostFrames p) = fit (Port.lostFrames p) (s.rd (Port.lostFrames p) + 1)))
  ∧ (∀ (s : State),
      s.beatHclk % 12800 = 0 →
      s.drum.beatAt ≠ some s.hclk →
      CompletesWith .beatSend s (fun t => (s.rd (Port.linkState 1) ≠ 0 → (t.port 1).beatDue = true)
      ∧ (s.rd (Port.linkState 2) ≠ 0 → (t.port 2).beatDue = true) ∧ (s.rd (Port.linkState 3) ≠ 0 → (t.port 3).beatDue = true)
      ∧ t.port 0 = s.port 0))
  ∧ (∀ (s : State) (f : BitVec 80) (g : BitVec 12),
      s.takesFrame 0 1 f = true →
      s.isRoot = false →
      s.rd Clk.brefState = 2 →
      s.brefLossComes = false →
      s.drum.loaded = false →
      (frameBody f.toNat).testBit 47 = true →
      CompletesWith (.beatFrame 0 f false g) s (fun t => t.drum.sel1 = some (getField (frameBody f.toNat) 20 27, s.hclk) ∧ t.drum.loaded = false
      ∧ t.beatHclk = s.beatHclk))
  ∧ (∀ (s : State) (f : BitVec 80) (g : BitVec 12) (hi x : Nat),
      s.takesFrame 0 1 f = true →
      s.isRoot = false →
      s.rd Clk.brefState = 2 →
      s.brefLossComes = false →
      s.drum.loaded = false →
      (frameBody f.toNat).testBit 47 = false →
      s.drum.sel1 = some (hi, x) →
      32 ≤ (s.port 0).rtts.length →
      CompletesWith (.beatFrame 0 f false g) s (fun t => t.drum.loaded = true ∧ t.rd Node.beatErr = 0 ∧ t.rd Node.nodeRole = 1
      ∧ t.rd Node.loadedAt = fit Node.loadedAt t.beat))
  ∧ (∀ (s : State) (p : Fin 4) (f : BitVec 80) (g : BitVec 12),
      s.rd (Port.linkState p) ≠ 0 →
      s.usesPort p = true →
      CompletesWith (.beatFrame p f true g) s (fun t => t.rd (Port.cutFrames p) = fit (Port.cutFrames p) (s.rd (Port.cutFrames p) + 1)
      ∧ (t.port p).rxSeq = (s.port p).rxSeq ∧ t.beatHclk = s.beatHclk))

/-- O28. BREF locks and is lost, EXPRESS values combine, generations are reported and set, GEN_OFFER and policies are written (R185, R186, R301, R307, R317, R321, R329).
Where the manual leaves a point open the clauses follow the model's choices: log 63, log 73, log 102, log 126. -/
def Obligations.BrefExpressAndGenerationsComplete : Prop :=
  (∀ (s : State) (v : Word32),
      s.isRoot = false →
      s.clk.xclkLive = true →
      (s.port 0).up = true →
      s.rd Clk.brefState ≠ 2 →
      CompletesWith (.brefLock v) s (fun t => t.rd Clk.brefState = 2 ∧ t.rd Clk.refSrc = 2 ∧ t.clk.brefLive = true
      ∧ t.rd Clk.xclkPpm = fit Clk.xclkPpm v.toInt ∧ t.rd Clk.brefLocks = fit Clk.brefLocks (s.rd Clk.brefLocks + 1)))
  ∧ (∀ (s : State) (c : Fin 3),
      s.rd Clk.brefState = 2 →
      s.clk.xclkLive = true →
      CompletesWith (.brefLoss c) s (fun t => t.rd Clk.brefState = 3 ∧ t.rd Clk.refSrc = 3 ∧ t.clk.brefLive = false
      ∧ t.rd Clk.holdoverSince = fit Clk.holdoverSince s.beat ∧ t.rd Clk.brefLosses = fit Clk.brefLosses (s.rd Clk.brefLosses + 1)))
  ∧ (∀ (s : State) (p : Fin 4) (x : BitVec 16),
      s.rd (Port.linkState p) ≠ 0 →
      p ≠ 0 →
      exCrc x.toNat = x.toNat % 16 →
      x.toNat.testBit 15 = true →
      s.carriesGroup p (getField x.toNat 11 4) = true →
      CompletesWith (.expressReceive p x) s (fun t => t.exOf p (getField x.toNat 11 4) = getField x.toNat 4 7
      ∧ (t.port p).exUndo = some ⟨getField x.toNat 11 4, ((s.port p).exVal.find? (fun e => e.1 = getField x.toNat 11 4)).map (fun e => e.2),
      (s.drum.resAt.find? (fun e => e.1 = getField x.toNat 11 4)).map (fun e => e.2), s.drum.cleared.contains (getField x.toNat 11 4)⟩))
  ∧ (∀ (s : State) (p : Fin 4) (x : BitVec 16),
      s.rd (Port.linkState p) ≠ 0 →
      p ≠ 0 →
      exCrc x.toNat ≠ x.toNat % 16 →
      CompletesWith (.expressReceive p x) s (fun t => t.rd (Port.exChkErr p) = fit (Port.exChkErr p) (s.rd (Port.exChkErr p) + 1)
      ∧ (t.port p).exVal = (s.port p).exVal))
  ∧ (∀ (s : State) (p : Fin 4) (f : BitVec 80) (g : BitVec 12),
      s.takesFrame p 4 f = true →
      p ≠ 0 →
      CompletesWith (.genUpFrame p f false g) s (fun t => tabGet (fun _ => ⟨0, 0, 0⟩) (t.port p).gens (getField (frameBody f.toNat) 44 4)
      = ⟨getField (frameBody f.toNat) 40 4, getField (frameBody f.toNat) 24 14, getField (frameBody f.toNat) 8 16⟩))
  ∧ (∀ (s : State) (f : BitVec 80) (g : BitVec 12),
      s.takesFrame 0 5 f = true →
      s.isRoot = false →
      CompletesWith (.genDownFrame 0 f false g) s (fun t =>
      t.rd (Grp.gGen (getField (frameBody f.toNat) 44 4)) = fit (Grp.gGen (getField (frameBody f.toNat) 44 4)) (getField (frameBody f.toNat) 40 4)
      ∧ t.rd (Grp.gMembers (getField (frameBody f.toNat) 44 4)) = fit (Grp.gMembers (getField (frameBody f.toNat) 44 4)) (getField (frameBody f.toNat) 24 14)))
  ∧ (∀ (s : State),
      s.beatHclk % 800000000 = 0 →
      s.isRoot = false →
      (s.port 0).genUps = [] →
      CompletesWith .genUpSend s (fun t => (t.port 0).genUps = s.genGroups.filter (fun g => s.carriesGroup 0 g && !(s.port 0).genUps.contains g)))
  ∧ (∀ (s : State) (g : Nat),
      s.beatHclk % 800000000 = 0 →
      s.isRoot = true →
      s.rd Pace.group = g →
      g < 16 →
      CompletesWith .genUpSend s (fun t => t.rd (Grp.gGen g) = fit (Grp.gGen g) (s.genOf g).gen ∧ t.rd (Grp.gMembers g) = fit (Grp.gMembers g) (s.genOf g).members
      ∧ t.rd (Grp.gPolicy g) = fit (Grp.gPolicy g) (s.rdN (Grp.gPolicySet g)) ∧ t.rd (Grp.gRound g) = fit (Grp.gRound g) (s.genRound)))
  ∧ (∀ (s : State) (g : Fin 16) (v : Byte),
      s.isRoot = true →
      v.toNat ≤ 1 →
      s.hostUp = true →
      CompletesWith (.gPolicySetWrite g v) s (fun t => t.rd (Grp.gPolicySet g) = v.toNat ∧ t.rd (Grp.gPolicy g) = v.toNat))
  ∧ (∀ (s : State) (g : Fin 16) (v : Byte),
      (s.isRoot = false ∨ 1 < v.toNat) →
      s.hostUp = true →
      CompletesWith (.gPolicySetWrite g v) s (fun t => t.rd (Grp.gPolicySet g) = s.rd (Grp.gPolicySet g) ∧ t.rd (Grp.gPolicy g) = s.rd (Grp.gPolicy g)))
  ∧ (∀ (s : State) (v : Byte),
      s.hostUp = true →
      CompletesWith (.genOfferWrite v) s (fun t => t.rd Fw.genOfferReq = clampI 1 3 v.toNat
      ∧ t.rd Node.genOffer = (if s.rd Fw.dlGenImg = 0 then clampI 1 3 v.toNat else fit Node.genOffer (min (clampI 1 3 v.toNat) (s.rd Fw.dlGenImg)))))

/-- O29. Pace evaluations, stale groups, collective rounds, their deadlines and the grant take effect (R316, R317, R320, R323, R324, R325, R326).
Where the manual leaves a point open the clauses follow the model's choices: log 63, log 72, log 102, log 126. -/
def Obligations.PaceAndCollectiveComplete : Prop :=
  (∀ (s : State) (k : Fin 4),
      s.beatHclk % 800 = 200 * k.val →
      s.fpRuns 2 = true →
      s.rdN Pace.group < 16 →
      s.forcedHold (s.rdN Pace.group) = true →
      CompletesWith (.paceEvaluate k) s (fun t => t.drum.fw.evalAt = s.hclk ∧ t.rd Pace.paceState = 2 ∧ ∀ c, c < 64 → t.ceil7 c = none))
  ∧ (∀ (s : State) (k : Fin 4),
      s.beatHclk % 800 = 200 * k.val →
      s.fpRuns 2 = true →
      CompletesWith (.paceEvaluate k) s (fun t => t.drum.fw.evalAt = s.hclk
      ∧ t.rd Pace.ownDeficit = if s.publishes s.ownUnit then fit Pace.ownDeficit s.ownUnit else s.rd Pace.ownDeficit))
  ∧ (∀ (s : State) (g : Fin 16) (x : Nat),
      s.heardGroup g = x →
      s.drum.cleared = [] →
      s.isRoot = false →
      s.start.dirRead = true →
      x + 80000 ≤ s.hclk →
      CompletesWith (.groupStale g) s (fun t => t.drum.cleared = [g.val] ∧ t.rd (Grp.gDeficit g) = 0
      ∧ t.rd (Grp.gStale g) = fit (Grp.gStale g) (s.rd (Grp.gStale g) + 1)))
  ∧ (∀ (s : State) (p : Fin 4),
      (s.port p).exUndo = none →
      s.exRevert p = s)
  ∧ (∀ (s : State),
      s.fpRuns 2 = false →
      s.rd Pace.ownDeficit ≠ 0 →
      s.drum.fw.evalAt + 800 * s.rdN Pace.paceStale ≤ s.hclk →
      CompletesWith .paceStaleExpiry s (fun t => t.rd Pace.ownDeficit = 0))
  ∧ (∀ (s : State) (c : Nat),
      s.collPeriodNow = some c →
      c ≠ 0 →
      s.beatHclk % (800 * c) = 0 →
      (s.drum.coll.opened && s.drum.coll.start = s.beat) = false →
      CompletesWith .collRoundStart s (fun t => t.drum.coll.opened = true ∧ t.drum.coll.start = s.beat ∧ t.drum.coll.period = c))
  ∧ (∀ (s : State) (p : Fin 4) (f : BitVec 80) (g : BitVec 12),
      s.takesFrame p 6 f = true →
      p ≠ 0 →
      CompletesWith (.collUpFrame p f false g) s (fun t => (t.port p).coll = some (getField (frameBody f.toNat) 20 20, getField (frameBody f.toNat) 0 20)
      ∧ (t.port p).collRound = some (getField (frameBody f.toNat) 40 8)))
  ∧ (∀ (s : State),
      s.drum.coll.opened = true →
      s.drum.coll.sent = false →
      s.isRoot = false →
      800 * (s.drum.coll.start : Int) + 100 * s.drum.coll.period - 3200 * s.rd Node.depth ≤ s.beatHclk →
      CompletesWith .collUpDeadline s (fun t => t.drum.coll.sent = true
      ∧ t.rd Coll.staleChildren = fit Coll.staleChildren (s.rd Coll.staleChildren + s.staleKids.length)))
  ∧ (∀ (s : State),
      s.drum.coll.opened = true →
      s.drum.coll.summed = false →
      s.isRoot = true →
      800 * s.drum.coll.start + 100 * s.drum.coll.period ≤ s.beatHclk →
      CompletesWith .collDownDeadline s (fun t => t.drum.coll.summed = true
      ∧ t.rd Coll.staleChildren = fit Coll.staleChildren (s.rd Coll.staleChildren + s.staleKids.length)))
  ∧ (∀ (s : State) (f : BitVec 80) (g : BitVec 12),
      s.takesFrame 0 7 f = true →
      s.isRoot = false →
      CompletesWith (.collDownFrame 0 f false g) s (fun t => t.drum.coll.learned = some (getField (frameBody f.toNat) 0 22)
      ∧ t.rd Coll.lastMode = fit Coll.lastMode (getField (frameBody f.toNat) 38 2) ∧ t.rd Coll.lastFactor = fit Coll.lastFactor (getField (frameBody f.toNat) 22 16)))
  ∧ (∀ (s : State) (m : Nat × Nat),
      s.drum.coll.opened = true →
      s.drum.coll.grantAt ≤ s.beatHclk →
      s.rd Coll.collEn = 1 →
      s.drum.coll.got = some m →
      s.foreign = false →
      s.rd Node.alignState ≠ 0 →
      CompletesWith .grantApply s (fun t => t.rd Budget.clusterGrantMw = fit Budget.clusterGrantMw (collGrant s.drum.coll m) ∧ t.drum.coll.opened = false
      ∧ t.rd Coll.rounds = fit Coll.rounds (s.rd Coll.rounds + 1) ∧ t.drum.fw.loss = 0))
  ∧ (∀ (s : State),
      s.drum.coll.opened = true →
      s.drum.coll.grantAt ≤ s.beatHclk →
      s.rd Coll.collEn = 1 →
      s.drum.coll.got = none →
      s.fpRuns 2 = true →
      CompletesWith .grantApply s (fun t => t.drum.coll.opened = false ∧ t.drum.fw.loss = s.drum.fw.loss + (s.drum.away + 1) ∧ t.drum.away = 0))
  ∧ (∀ (s : State),
      s.drum.coll.opened = true →
      s.drum.coll.grantAt ≤ s.beatHclk →
      s.rd Coll.collEn = 1 →
      s.drum.coll.got = none →
      s.fpRuns 2 = false →
      CompletesWith .grantApply s (fun t => t.drum.coll.opened = false ∧ t.drum.fw.loss = s.drum.fw.loss ∧ t.drum.away = s.drum.away + 1))

/-- O30. Bulk frames open, fill, end and answer a chunk; chunks are sent, answered, sent again and resumed after a pause (R327, R381, R382).
Where the manual leaves a point open the clauses follow the model's choices: log 69. -/
def Obligations.BulkTransferCompletes : Prop :=
  (∀ (s : State) (p : Fin 4) (f : BitVec 80) (g : BitVec 12) (r : BulkRx),
      s.takesFrame p 8 f = true →
      (s.port p).rx = some r →
      CompletesWith (.bulkDataFrame p f false g) s (fun t => (t.port p).rx = some { r with bytes := r.bytes ++ (leBytes 6 (frameBody f.toNat)).reverse }
      ∧ t.rd (Port.bulkRx p) = fit (Port.bulkRx p) (s.rd (Port.bulkRx p) + (min 6 (256 - r.bytes.length) : Nat))))
  ∧ (∀ (s : State) (p : Fin 4) (f : BitVec 80) (g : BitVec 12),
      s.takesFrame p 9 f = true →
      bulkOp (frameBody f.toNat) = 1 →
      s.fpRuns 3 = true →
      s.chunkVerdict (getField (frameBody f.toNat) 24 16) (getField (frameBody f.toNat) 0 24) ≠ .held →
      CompletesWith (.bulkStart p f false g) s (fun t => (t.port p).rx = some ⟨getField (frameBody f.toNat) 24 16, getField (frameBody f.toNat) 0 24, []⟩))
  ∧ (∀ (s : State) (p : Fin 4) (f : BitVec 80) (g : BitVec 12) (r : BulkRx),
      s.takesFrame p 9 f = true →
      bulkOp (frameBody f.toNat) = 2 →
      (s.port p).rx = some r →
      (r.chunk % 4096 ≠ getField (frameBody f.toNat) 32 12 ∨ r.bytes.length ≠ 258 ∨ s.fpRuns 3 = false) →
      (s.port p).up = true →
      CompletesWith (.bulkEnd p f false g) s (fun t => (t.port p).rx = none ∧ t.fw.program = s.fw.program
      ∧ (t.port p).bulkCtl = (s.port p).bulkCtl ++ [9 * 2 ^ 48 + 4 * 2 ^ 44 + r.stream * 2 ^ 24 + r.chunk]
      ∧ t.rd Upd.chunkNaks = fit Upd.chunkNaks (s.rd Upd.chunkNaks + 1)))
  ∧ (∀ (s : State) (p : Fin 4) (f : BitVec 80) (g : BitVec 12) (r : BulkRx),
      s.takesFrame p 9 f = true →
      bulkOp (frameBody f.toNat) = 2 →
      (s.port p).rx = some r →
      r.chunk % 4096 = getField (frameBody f.toNat) 32 12 →
      r.bytes.length = 258 →
      (crc32c (r.bytes.take 256)).toNat = getField (frameBody f.toNat) 0 32 →
      s.fpRuns 3 = true →
      s.chunkVerdict r.stream r.chunk = .taken →
      CompletesWith (.bulkEnd p f false g) s (fun t => (t.port p).rx = none
      ∧ t.fw.program = s.fw.program ++ [{ portJob p r.stream r.chunk (r.bytes.take 256) with slot := s.inactive }]))
  ∧ (∀ (s : State) (p : Fin 4) (f : BitVec 80) (g : BitVec 12),
      s.takesFrame p 9 f = true →
      bulkOp (frameBody f.toNat) = 3 →
      (s.port p).tx.stream = getField (frameBody f.toNat) 24 16 →
      (s.port p).tx.flight = [getField (frameBody f.toNat) 0 24] →
      (s.port p).tx.again ≠ [] →
      CompletesWith (.bulkAck p f false g) s (fun t => (t.port p).tx.flight = [] ∧ (t.port p).tx.lastAck = some (getField (frameBody f.toNat) 0 24)))
  ∧ (∀ (s : State) (p : Fin 4) (b : Nat),
      s.fwdSlot = some b →
      (s.port p).tx.stream = s.rdN (Slot.stream b) →
      (s.port p).tx.flight = [] →
      (s.port p).tx.again = [] →
      s.rdN (Slot.nChunks b) ≤ (s.port p).tx.next →
      (s.port p).tx.acked % 2 ^ s.rdN (Slot.nChunks b) = 2 ^ s.rdN (Slot.nChunks b) - 1 →
      ((s.checkPass p).port p).tx.finished = some (s.rdN (Slot.stream b)) ∧ ((s.checkPass p).port p).tx.peer = s.rdN (Port.partnerSerial p))
  ∧ (∀ (s : State) (p : Fin 4) (b : Nat),
      s.fwdSlot = some b →
      (s.port p).tx.stream = s.rdN (Slot.stream b) →
      (s.port p).tx.flight = [] →
      (s.port p).tx.again = [] →
      s.rdN (Slot.nChunks b) ≤ (s.port p).tx.next →
      (s.port p).tx.acked % 2 ^ s.rdN (Slot.nChunks b) ≠ 2 ^ s.rdN (Slot.nChunks b) - 1 →
      ((s.checkPass p).port p).tx.finished = (s.port p).tx.finished ∧ ((s.checkPass p).port p).tx.next = 0 ∧ ((s.checkPass p).port p).tx.acked = 0)
  ∧ (∀ (s : State) (p : Fin 4) (f : BitVec 80) (g : BitVec 12),
      s.takesFrame p 9 f = true →
      bulkOp (frameBody f.toNat) = 4 →
      (s.port p).tx.stream = getField (frameBody f.toNat) 24 16 →
      (s.port p).tx.flight = [getField (frameBody f.toNat) 0 24] →
      tabGet (fun _ => 0) (s.port p).tx.naks (getField (frameBody f.toNat) 0 24) < 3 →
      CompletesWith (.bulkNak p f false g) s (fun t => (t.port p).tx.flight = [] ∧ (t.port p).tx.again = (s.port p).tx.again ++ [getField (frameBody f.toNat) 0 24]
      ∧ (t.port p).tx.paused = (s.port p).tx.paused))
  ∧ (∀ (s : State) (p : Fin 4) (f : BitVec 80) (g : BitVec 12),
      s.takesFrame p 9 f = true →
      bulkOp (frameBody f.toNat) = 4 →
      (s.port p).tx.stream = getField (frameBody f.toNat) 24 16 →
      (s.port p).tx.flight = [getField (frameBody f.toNat) 0 24] →
      3 ≤ tabGet (fun _ => 0) (s.port p).tx.naks (getField (frameBody f.toNat) 0 24) →
      CompletesWith (.bulkNak p f false g) s (fun t => (t.port p).tx.flight = [] ∧ (t.port p).tx.paused = some s.hclk ∧ (t.port p).bulkData = []))
  ∧ (∀ (s : State) (p : Fin 4) (l : List Byte) (b : Nat),
      s.fwdSlot = some b →
      p ≠ 0 →
      s.fpRuns 3 = true →
      1 ≤ s.linkGen p →
      (s.port p).tx = { stream := s.rdN (Slot.stream b) } →
      0 < s.rdN (Slot.nChunks b) →
      CompletesWith (.bulkChunkSend p l) s (fun t => (t.port p).tx.flight = [0] ∧ (t.port p).tx.next = 1
      ∧ (t.port p).bulkData = (s.port p).bulkData ++ chunkFrames (s.rdN (Slot.stream b)) 0 l))
  ∧ (∀ (s : State) (p : Fin 4) (a b : Nat),
      (s.port p).tx.paused = some a →
      a + 800000000 ≤ s.hclk →
      s.fwdSlot = some b →
      (match (s.port p).tx.lastAck with | some c => c + 1 | none => 0) < s.rdN (Slot.nChunks b) →
      CompletesWith (.bulkPauseEnd p) s (fun t => (t.port p).tx.paused = none
      ∧ (t.port p).tx.next = (match (s.port p).tx.lastAck with | some c => c + 1 | none => 0)))

/-- O31. Crashes, restarts, boots, handovers and checkpoints move FP_STATE and keep their history (R367, R369, R371, R372, R374, R378).
Where the manual leaves a point open the clauses follow the model's choices: log 51, log 64, log 67, log 104, log 130. -/
def Obligations.ProcessorsCompleteTheirCommands : Prop :=
  (∀ (s : State) (k : Fin 4),
      s.rd (Fp.fpState k) = 2 →
      (s.fp k).halted = false →
      s.fw.act.phase < 2 →
      (s.crashesNow k).length < 2 →
      s.wdtUp k = true →
      CompletesWith (.fpWatchdog k) s (fun t => t.rd (Fp.fpState k) = 4 ∧ t.rd (Fp.lastCause k) = 1
      ∧ t.rd (Fp.restarts k) = fit (Fp.restarts k) (s.rd (Fp.restarts k) + 1) ∧ (t.fp k).crashes = s.crashesNow k ++ [s.hclk]))
  ∧ (∀ (s : State) (k : Fin 4),
      s.rd (Fp.fpState k) = 2 →
      (s.fp k).halted = false →
      s.fw.act.phase < 2 →
      (s.crashesNow k).length < 2 →
      CompletesWith (.fpTrap k) s (fun t => t.rd (Fp.fpState k) = 4 ∧ t.rd (Fp.lastCause k) = 2
      ∧ t.rd (Fp.restarts k) = fit (Fp.restarts k) (s.rd (Fp.restarts k) + 1)))
  ∧ (∀ (s : State) (k : Fin 4),
      s.rd (Fp.fpState k) = 2 →
      (s.fp k).halted = false →
      s.fw.act.phase < 2 →
      (s.crashesNow k).length < 2 →
      CompletesWith (.fpMemUe k) s (fun t => t.rd (Fp.fpState k) = 4 ∧ t.rd (Fp.lastCause k) = 3
      ∧ t.rd (Fp.restarts k) = fit (Fp.restarts k) (s.rd (Fp.restarts k) + 1)))
  ∧ (∀ (s : State) (k : Fin 4),
      s.rd (Fp.fpState k) = 2 →
      (s.fp k).halted = false →
      s.fw.act.phase < 2 →
      (s.crashesNow k).length < 2 →
      CompletesWith (.fpFatal k) s (fun t => t.rd (Fp.fpState k) = 4 ∧ t.rd (Fp.lastCause k) = 4
      ∧ t.rd (Fp.restarts k) = fit (Fp.restarts k) (s.rd (Fp.restarts k) + 1)))
  ∧ (∀ (s : State) (k : Fin 4),
      s.fw.act.phase < 2 →
      s.rd (Fp.fpState k) = 2 →
      s.hostUp = true →
      CompletesWith (.fpCtrlRestart k) s (fun t => t.rd (Fp.fpState k) = 4 ∧ t.rd (Fp.lastCause k) = 5 ∧ t.rd (Fp.fpCtrl k) = 1
      ∧ (t.fp k).crashes = (s.fp k).crashes))
  ∧ (∀ (s : State) (k : Fin 4),
      s.fw.act.phase < 2 →
      s.rd (Fp.fpState k) = 5 →
      s.hostUp = true →
      CompletesWith (.fpCtrlRestart k) s (fun t => t.rd (Fp.fpState k) = 1 ∧ t.rd (Fp.fpCtrl k) = 1 ∧ t.rd (Fp.lastCause k) = 5 ∧ (t.fp k).crashes = []
      ∧ t.rd (Fp.restarts k) = fit (Fp.restarts k) (s.rd (Fp.restarts k) + 1)))
  ∧ (∀ (s : State) (k : Fin 4),
      2 ≤ s.fw.act.phase →
      s.hostUp = true →
      CompletesWith (.fpCtrlRestart k) s (fun t => t.rd (Fp.fpState k) = s.rd (Fp.fpState k) ∧ t.rd (Fp.fpCtrl k) = 3 ∧ t.fw.fps = s.fw.fps))
  ∧ (∀ (s : State) (k : Fin 4) (r : BootRead),
      s.rd (Fp.fpState k) = 1 →
      s.fw.act.phase = 0 →
      (s.fp k).bootSlot < 2 →
      (s.fp k).bootWhy ≠ 2 →
      s.crashesNow k = [] →
      CompletesWith (.fpBoot k r) s (fun t => if s.bootCheck k r = 0 then
      t.rd (Fp.fpState k) = 2 ∧ t.rd (Fp.fpSlot k) = (s.fp k).bootSlot ∧ t.rd (Fp.resumeKind k) = fit (Fp.resumeKind k) (match s.intake k r.header with | some e => (e.2.kind : Int) | none => 0)
      else t.rd (Fp.fpState k) = 4 ∧ t.rd (Fp.lastCause k) = 7 ∧ t.rd (Slot.failCause (s.fp k).bootSlot) = s.bootCheck k r))
  ∧ (∀ (s : State) (k : Fin 4),
      s.rd (Fp.fpState k) = 4 →
      (s.fp k).bootAt + 80000 ≤ s.hclk →
      s.restartsDone.rd (Fp.fpState k) = 1)
  ∧ (∀ (s : State) (k : Fin 4),
      s.rd (Fp.fpState k) = 3 →
      (s.fp k).halted = false →
      CompletesWith (.handoverDone k) s (fun t => t.rd (Fp.fpState k) = 1 ∧ (t.fp k).bootSlot = (s.fp k).handDst ∧ (t.fp k).newest = 1 - (s.fp k).newest
      ∧ ((t.fp k).half (t.fp k).newest).any (fun a => a.kind = 2) = true))
  ∧ (∀ (s : State) (k : Fin 4),
      s.rd (Fp.fpState k) = 3 →
      (s.fp k).halted = false →
      (s.fp k).handAt + 800000 ≤ s.hclk →
      CompletesWith (.handoverTimeout k) s (fun t => t.rd (Fp.fpState k) = 1 ∧ (t.fp k).bootSlot = (s.fp k).handDst ∧ (t.fp k).half (s.fp k).nextHalf = none))
  ∧ (∀ (s : State) (k : Fin 4),
      s.fpRuns k = true →
      CompletesWith (.checkpointWrite k) s (fun t => t.rd (Fp.ckptAge k) = 0 ∧ (t.fp k).areaSeq = (s.fp k).areaSeq + 1 ∧ (t.fp k).newest = 1 - (s.fp k).newest))
  ∧ (∀ (s : State) (r : BootRead),
      s.fpRuns 3 = true →
      s.fw.act.phase ≠ 2 →
      s.rdN (Fp.fpSlot 3) < 2 →
      CompletesWith (.tablesCheck r) s (fun t => if tagGood 4 r then t.fw.act.tablesDue = false else t.rd (Slot.failCause (s.rdN (Fp.fpSlot 3))) = 7))

/-- O32. UPD_CTRL's commands, an activation's course and limits, and chunks take effect, and where they are rejected, refused or not due (R370, R379, R380, R384, R385, R386, R387, R390, R391, R397).
Where the manual leaves a point open the clauses follow the model's choices: log 68, log 69, log 104, log 129, log 130, log 131. -/
def Obligations.UpdatesAndActivationComplete : Prop :=
  (∀ (s : State),
      s.fpRuns 3 = true →
      s.activateOk = true →
      s.hostUp = true →
      CompletesWith .updActivate s (fun t => t.rd Upd.updCtrl = 1 ∧ t.fw.act.phase = 1 ∧ t.fw.act.target = s.inactive ∧ t.fw.act.acceptedAt = s.hclk))
  ∧ (∀ (s : State),
      s.fpRuns 3 = true →
      s.activateOk = false →
      s.hostUp = true →
      CompletesWith .updActivate s (fun t => t.rd Upd.updCtrl = 3 ∧ t.fw.act.phase = s.fw.act.phase ∧ t.fw.act.target = s.fw.act.target))
  ∧ (∀ (s : State),
      s.fpRuns 3 = false →
      s.hostUp = true →
      CompletesWith .updActivate s (fun t => t.rd Upd.updCtrl = s.rd Upd.updCtrl ∧ t.fw.act.phase = s.fw.act.phase ∧ t.fw.program = s.fw.program ∧ t.fw.held = s.fw.held))
  ∧ (∀ (s : State),
      s.fpRuns 3 = true →
      s.unconfirmed = true →
      s.fallbackComes = false →
      s.rdN Fw.activeSlot < 2 →
      s.hostUp = true →
      CompletesWith .updConfirm s (fun t => t.rd Upd.updCtrl = 2 ∧ t.rd (Slot.slotState (s.rdN Fw.activeSlot)) = 3
      ∧ t.rd Upd.minSvn = fit Upd.minSvn (max (s.rd Upd.minSvn) (s.rd (Slot.svn (s.rdN Fw.activeSlot))))
      ∧ t.rd (Slot.slotState s.inactive) = (if s.rd (Slot.slotState s.inactive) = 5 then 0 else s.rd (Slot.slotState s.inactive))))
  ∧ (∀ (s : State),
      s.fpRuns 3 = true →
      (s.unconfirmed = false ∨ s.fallbackComes = true) →
      s.hostUp = true →
      CompletesWith .updConfirm s (fun t => t.rd Upd.updCtrl = 3 ∧ t.fw.act.phase = s.fw.act.phase ∧ t.fw.program = s.fw.program ∧ t.fw.held = s.fw.held ∧ t.rd Upd.minSvn = s.rd Upd.minSvn
      ∧ t.rd (Slot.slotState 0) = s.rd (Slot.slotState 0) ∧ t.rd (Slot.slotState 1) = s.rd (Slot.slotState 1)))
  ∧ (∀ (s : State),
      s.fpRuns 3 = false →
      s.hostUp = true →
      CompletesWith .updConfirm s (fun t => t.rd Upd.updCtrl = s.rd Upd.updCtrl ∧ t.fw.act.phase = s.fw.act.phase ∧ t.fw.program = s.fw.program ∧ t.fw.held = s.fw.held))
  ∧ (∀ (s : State),
      s.fpRuns 3 = true →
      s.fw.act.phase < 2 →
      s.rdN Fw.activeSlot < 2 →
      (s.rd (Slot.slotState s.inactive) = 1 ∨ s.rd (Slot.slotState s.inactive) = 2) →
      s.hostUp = true →
      CompletesWith .updAbort s (fun t => t.rd Upd.updCtrl = 2 ∧ t.rd (Slot.slotState s.inactive) = 0 ∧ t.fw.program = [] ∧ t.fw.act.phase = 0
      ∧ t.rd Upd.actCancels = 0))
  ∧ (∀ (s : State),
      s.fpRuns 3 = true →
      (2 ≤ s.fw.act.phase ∨ (s.rd (Slot.slotState s.inactive) ≠ 1 ∧ s.rd (Slot.slotState s.inactive) ≠ 2)) →
      s.hostUp = true →
      CompletesWith .updAbort s (fun t => t.rd Upd.updCtrl = 3 ∧ t.fw.act.phase = s.fw.act.phase ∧ t.fw.program = s.fw.program ∧ t.fw.held = s.fw.held ∧ t.rd (Slot.slotState s.inactive) = s.rd (Slot.slotState s.inactive)))
  ∧ (∀ (s : State),
      s.fpRuns 3 = false →
      s.hostUp = true →
      CompletesWith .updAbort s (fun t => t.rd Upd.updCtrl = s.rd Upd.updCtrl ∧ t.fw.act.phase = s.fw.act.phase ∧ t.fw.program = s.fw.program ∧ t.fw.held = s.fw.held))
  ∧ (∀ (s : State),
      s.fpRuns 3 = true →
      s.fw.act.phase = 1 →
      s.hostUp = true →
      CompletesWith .updCancel s (fun t => t.rd Upd.updCtrl = 2 ∧ t.fw.act.phase = 0 ∧ t.rd Upd.actLastResult = 4 ∧ t.rd Upd.actCancels = fit Upd.actCancels (s.rd Upd.actCancels)))
  ∧ (∀ (s : State),
      s.fpRuns 3 = true →
      s.fw.act.phase ≠ 1 →
      s.hostUp = true →
      CompletesWith .updCancel s (fun t => t.rd Upd.updCtrl = 3 ∧ t.fw.act.phase = s.fw.act.phase ∧ t.fw.program = s.fw.program ∧ t.fw.held = s.fw.held))
  ∧ (∀ (s : State),
      s.fpRuns 3 = false →
      s.hostUp = true →
      CompletesWith .updCancel s (fun t => t.rd Upd.updCtrl = s.rd Upd.updCtrl ∧ t.fw.act.phase = s.fw.act.phase ∧ t.fw.program = s.fw.program ∧ t.fw.held = s.fw.held))
  ∧ (∀ (s : State),
      s.fpRuns 3 = true →
      s.unconfirmed = true →
      s.rd (Slot.slotState s.inactive) = 5 →
      s.hostUp = true →
      CompletesWith .updFallback s (fun t => t.rd Upd.updCtrl = 1 ∧ t.fw.act.phase = 4 ∧ t.fw.act.target = s.inactive ∧ t.fw.act.why = 1))
  ∧ (∀ (s : State),
      s.fpRuns 3 = true →
      (s.unconfirmed = false ∨ s.rd (Slot.slotState s.inactive) ≠ 5) →
      s.hostUp = true →
      CompletesWith .updFallback s (fun t => t.rd Upd.updCtrl = 3 ∧ t.fw.act.phase = s.fw.act.phase ∧ t.fw.program = s.fw.program ∧ t.fw.held = s.fw.held))
  ∧ (∀ (s : State),
      s.fpRuns 3 = false →
      s.hostUp = true →
      CompletesWith .updFallback s (fun t => t.rd Upd.updCtrl = s.rd Upd.updCtrl ∧ t.fw.act.phase = s.fw.act.phase ∧ t.fw.program = s.fw.program ∧ t.fw.held = s.fw.held))
  ∧ (∀ (s : State),
      s.fw.act.phase = 1 →
      s.quiet10 = true →
      CompletesWith .activationStart s (fun t => t.fw.act.phase = 2 ∧ t.fw.act.startedAt = s.hclk ∧ t.fw.act.target = s.fw.act.target))
  ∧ (∀ (s : State),
      (s.fw.act.phase ≠ 1 ∨ s.quiet10 = false) →
      Completes .activationStart s s)
  ∧ (∀ (s : State) (k : Nat),
      s.fw.act.phase = 2 →
      s.fw.act.turn = none →
      s.fw.act.tablesDue = false →
      s.fw.act.pausedAt = none →
      s.fw.act.quietAt.isSome = true →
      actOrder.find? (fun j => !s.fw.act.moved.contains j) = some k →
      CompletesWith .activationMove s (fun t => t.fw.act.turn = some k ∧ t.rd (Fp.fpState k) = 3 ∧ (t.fp k).handDst = s.fw.act.target ∧ (t.fp k).handAt = s.hclk))
  ∧ (∀ (s : State) (k : Fin 4),
      (s.fw.act.phase = 3 ∨ s.fw.act.phase = 4) →
      s.fw.act.turn = none →
      s.nextBack = some k.val →
      CompletesWith .activationMove s (fun t => t.fw.act.turn = some k.val ∧ t.rd (Fp.fpState k) = 3
      ∧ (t.fp k).handDst = (if s.fw.act.phase = 3 then s.rdN Fw.activeSlot else s.fw.act.target)))
  ∧ (∀ (s : State),
      (s.fw.act.turn.isSome = true ∨ s.fw.act.phase < 2 ∨ (s.fw.act.phase = 2 ∧ s.fw.act.tablesDue = true)) →
      Completes .activationMove s s)
  ∧ (∀ (s : State),
      s.fpRuns 3 = true →
      s.fw.act.phase = 1 →
      s.quiet10 = false →
      800000 * s.rdN Upd.actLimit ≤ s.actWaited →
      CompletesWith .actLimitExpiry s (fun t => t.fw.act.phase = 0 ∧ t.rd Upd.actLastResult = 4 ∧ t.rd Upd.actCancels = fit Upd.actCancels (min 3 (s.rd Upd.actCancels + 1))))
  ∧ (∀ (s : State),
      s.fpRuns 3 = true →
      s.fw.act.phase = 2 →
      s.fw.act.pausedAt.isSome = true →
      s.quiet10 = false →
      s.fw.act.moved ≠ [] →
      800000 * s.rdN Upd.actLimit ≤ s.actWaited →
      CompletesWith .actLimitExpiry s (fun t => t.fw.act.phase = 3 ∧ t.fw.act.cancelled = true ∧ t.fw.act.moved = s.fw.act.moved))
  ∧ (∀ (s : State),
      (s.fpRuns 3 = false ∨ s.actWaited < 800000 * s.rdN Upd.actLimit ∨ s.quiet10 = true ∨ s.fw.act.phase = 0) →
      Completes .actLimitExpiry s s)
  ∧ (∀ (s : State),
      s.fpRuns 3 = true →
      s.unconfirmed = true →
      s.rd Upd.confLimit ≠ 0 →
      s.fw.act.confirmAt + 800000000 * s.rdN Upd.confLimit ≤ s.hclk →
      CompletesWith .confLimitExpiry s (fun t => t.fw.act.phase = 4 ∧ t.fw.act.why = 2 ∧ t.fw.act.target = s.inactive))
  ∧ (∀ (s : State),
      (s.fpRuns 3 = false ∨ s.unconfirmed = false ∨ s.confLimitUp = false) →
      Completes .confLimitExpiry s s)
  ∧ (∀ (s : State) (m : DictMsg),
      s.reqReady = true →
      CompletesWith (.updChunkWrite .htp m) s (fun t => t.host.rsp = some ⟨m.tag.toNat, 1, 0⟩ ∧ t.host.outstanding.length = s.host.outstanding.length + 1 ∧ t.fw.act.phase = s.fw.act.phase ∧ t.fw.program = s.fw.program ∧ t.fw.held = s.fw.held))
  ∧ (∀ (s : State) (x : Xport) (m : DictMsg),
      x ≠ .htp →
      s.xportOn x = true →
      s.msgTurn x m = true →
      ((s.takeMsg x m.src.toNat m.tag.toNat).fabric 3 (1 + xnum x)).msgCheck 4 m = none →
      m.body.length ≠ 270 →
      CompletesWith (.updChunkWrite x m) s (fun t => t.host.tx = some ⟨x, m.src.toNat, m.tag.toNat, false, dictBytes 132 6 m.count.toNat m.idx.toNat m.sub.toNat []⟩
      ∧ t.fw.program = s.fw.program))
  ∧ (∀ (s : State) (x : Xport) (m : DictMsg),
      x ≠ .htp →
      s.xportOn x = true →
      s.msgTurn x m = true →
      ((s.takeMsg x m.src.toNat m.tag.toNat).fabric 3 (1 + xnum x)).msgCheck 4 m = none →
      m.body.length = 270 →
      leNat (m.body.take 4) = 0 →
      leNat ((m.body.drop 4).take 2) = 264 →
      s.fpRuns 3 = false →
      CompletesWith (.updChunkWrite x m) s (fun t => t.host.tx = some ⟨x, m.src.toNat, m.tag.toNat, false, dictBytes 132 3 m.count.toNat m.idx.toNat m.sub.toNat []⟩
      ∧ t.fw.program = s.fw.program))
  ∧ (∀ (s : State) (x : Xport) (m : DictMsg),
      x ≠ .htp →
      s.xportOn x = true →
      s.msgTurn x m = true →
      ((s.takeMsg x m.src.toNat m.tag.toNat).fabric 3 (1 + xnum x)).msgCheck 4 m = none →
      m.body.length = 270 →
      leNat (m.body.take 4) = 0 →
      leNat ((m.body.drop 4).take 2) = 264 →
      s.fpRuns 3 = true →
      leNat ((m.body.drop 10).take 4) = (crc32c (m.body.drop 14)).toNat →
      s.chunkVerdict (leNat ((m.body.drop 6).take 2)) (leNat ((m.body.drop 8).take 2)) = .taken →
      CompletesWith (.updChunkWrite x m) s (fun t => t.fw.program = s.fw.program
      ++ [⟨s.inactive, leNat ((m.body.drop 8).take 2), leNat ((m.body.drop 6).take 2), 0, m.body.drop 14, some (askerOf x m 0 264)⟩]
      ∧ t.host.tx = s.host.tx))
  ∧ (∀ (s : State) (x : Xport) (m : DictMsg),
      x ≠ .htp →
      s.xportOn x = true →
      s.msgTurn x m = true →
      ((s.takeMsg x m.src.toNat m.tag.toNat).fabric 3 (1 + xnum x)).msgCheck 4 m = none →
      m.body.length = 270 →
      leNat (m.body.take 4) = 0 →
      leNat ((m.body.drop 4).take 2) = 264 →
      s.fpRuns 3 = true →
      leNat ((m.body.drop 10).take 4) = (crc32c (m.body.drop 14)).toNat →
      s.chunkVerdict (leNat ((m.body.drop 6).take 2)) (leNat ((m.body.drop 8).take 2)) = .refused →
      CompletesWith (.updChunkWrite x m) s (fun t => t.fw.program = s.fw.program ∧ t.rd Upd.chunkNaks = fit Upd.chunkNaks (s.rd Upd.chunkNaks + 1)
      ∧ t.host.tx = some ⟨x, m.src.toNat, m.tag.toNat, false, dictBytes 132 4 m.count.toNat m.idx.toNat m.sub.toNat []⟩))
  ∧ (∀ (s : State) (x : Xport) (m : DictMsg),
      x ≠ .htp →
      s.xportOn x = true →
      s.msgTurn x m = true →
      ((s.takeMsg x m.src.toNat m.tag.toNat).fabric 3 (1 + xnum x)).msgCheck 4 m = none →
      m.body.length = 270 →
      leNat (m.body.take 4) = 0 →
      leNat ((m.body.drop 4).take 2) = 264 →
      s.fpRuns 3 = true →
      leNat ((m.body.drop 10).take 4) ≠ (crc32c (m.body.drop 14)).toNat →
      CompletesWith (.updChunkWrite x m) s (fun t => t.fw.program = s.fw.program ∧ t.rd Upd.chunkNaks = fit Upd.chunkNaks (s.rd Upd.chunkNaks + 1)
      ∧ t.host.tx = some ⟨x, m.src.toNat, m.tag.toNat, false, dictBytes 132 4 m.count.toNat m.idx.toNat m.sub.toNat []⟩))
  ∧ (∀ (s : State) (j : ChunkJob),
      s.fpRuns 3 = true →
      s.fw.program = [j] →
      s.chest.inhibitAt = none →
      j.slot < 2 →
      (s.heldMap j.slot).testBit j.chunk = false →
      s.rdN (Slot.nChunks j.slot) = 0 →
      j.chunk ≠ 0 →
      CompletesWith (.chunkHeld true) s (fun t => t.fw.program = [] ∧ (t.heldMap j.slot).testBit j.chunk = true
      ∧ t.rd (Slot.held j.slot) = fit (Slot.held j.slot) (s.rd (Slot.held j.slot) + 1)
      ∧ t.rd Upd.chunksRx = fit Upd.chunksRx (s.rd Upd.chunksRx + 1)))
  ∧ (∀ (s : State) (j : ChunkJob),
      s.fpRuns 3 = true →
      s.fw.program = [j] →
      s.chest.inhibitAt = none →
      j.slot < 2 →
      (s.heldMap j.slot).testBit j.chunk = false →
      j.chunk ≠ 0 →
      j.chunk < s.rdN (Slot.nChunks j.slot) →
      s.rd (Slot.held j.slot) + 1 = s.rd (Slot.nChunks j.slot) →
      s.rd (Slot.nChunks j.slot) ≤ 32767 →
      s.rd (Slot.slotState j.slot) = 1 →
      CompletesWith (.chunkHeld true) s (fun t => t.rd (Slot.slotState j.slot) = 2 ∧ t.rd (Slot.held j.slot) = s.rd (Slot.nChunks j.slot)))
  ∧ (∀ (s : State) (j : ChunkJob),
      s.fpRuns 3 = true →
      s.fw.program = [j] →
      s.chest.inhibitAt = none →
      s.rdN (Slot.nChunks j.slot) ≠ 0 →
      s.rdN (Slot.nChunks j.slot) ≤ j.chunk →
      CompletesWith (.chunkHeld true) s (fun t => t.fw.program = [] ∧ t.fw.held = s.fw.held
      ∧ t.rd Upd.chunkNaks = fit Upd.chunkNaks (s.rd Upd.chunkNaks + 1)))
  ∧ (∀ (s : State),
      s.fpRuns 3 = true →
      s.fw.program ≠ [] →
      s.chest.inhibitAt = none →
      CompletesWith (.chunkHeld false) s (fun t => t.fw.program = s.fw.program ∧ t.fw.held = s.fw.held))
  ∧ (∀ (s : State) (b : Bool),
      (s.fpRuns 3 = false ∨ s.fw.program = [] ∨ (s.chest.inhibitAt.isSome = true ∧ s.fw.tail = false)) →
      Completes (.chunkHeld b) s s)

/-- O33. Saves of settings and profiles, SAVE_NOW and the reload of coefficients take effect (R393, R394, R395).
Where the manual leaves a point open the clauses follow the model's choices: log 48, log 70, log 104, log 129. -/
def Obligations.SettingsStoreCompletes : Prop :=
  (∀ (s : State) (r : SaveOut),
      s.fpRuns 3 = true →
      s.chest.inhibitAt = none →
      s.saveDue = true →
      r ≠ .program →
      CompletesWith (.settingsSave r) s (fun t => t.fw.marks = s.fw.marks.filter (fun e => !s.saveMarks.contains e) ∧ t.fw.saving = false
      ∧ t.rd Sett.pending = fit Sett.pending (t.fw.marks.length : Nat)
      ∧ t.rd Sett.saves = fit Sett.saves (s.rd Sett.saves + s.saveCopies * s.saveMarks.length)))
  ∧ (∀ (s : State),
      s.fpRuns 3 = true →
      s.chest.inhibitAt = none →
      s.saveDue = true →
      CompletesWith (.settingsSave .program) s (fun t => t.fw.marks = s.fw.marks ∧ t.rd Sett.saveErrors = fit Sett.saveErrors (s.rd Sett.saveErrors + 1)))
  ∧ (∀ (s : State) (r : SaveOut),
      (s.fpRuns 3 = false ∨ s.saveDue = false ∨ (s.chest.inhibitAt.isSome = true ∧ s.fw.saveTail = false)) →
      Completes (.settingsSave r) s s)
  ∧ (∀ (s : State),
      s.fpRuns 3 = true →
      s.fw.marks ≠ [] →
      s.hostUp = true →
      CompletesWith .saveNow s (fun t => t.fw.saving = true ∧ t.rd Sett.saveNow = 1))
  ∧ (∀ (s : State),
      s.fpRuns 3 = true →
      s.fw.marks = [] →
      s.hostUp = true →
      CompletesWith .saveNow s (fun t => t.rd Sett.saveNow = 2 ∧ t.fw.saving = s.fw.saving))
  ∧ (∀ (s : State),
      s.fpRuns 3 = true →
      s.chest.inhibitAt = none →
      s.rdN Sett.profileSave ≠ 0 →
      s.fw.profAt + 800000000 * s.rdN Sett.profileSave ≤ s.hclk →
      CompletesWith .profileSave s (fun t => t.fw.profAt = s.hclk ∧ t.rd Sett.saves = fit Sett.saves (s.rd Sett.saves
      + s.saveCopies * ((List.range 256).filter (fun q => s.rd (Pid.gen q) ≠ tabGet (fun _ => 0) s.fw.profGen q)).length)))
  ∧ (∀ (s : State) (n : Fin 8) (l : List (BitVec 26)) (b : Bool),
      s.fpRuns 0 = true →
      (s.loop n).hold = true →
      (tabGet (fun _ => 0) s.fw.reloaded n).testBit (s.rdN (Loop.region n)) = false →
      s.rdN (Loop.region n) < 4 →
      l.length = 15 →
      CompletesWith (.coefReload n l b) s (fun t => (tabGet (fun _ => 0) t.fw.reloaded n).testBit (s.rdN (Loop.region n)) = true
      ∧ ∀ j w, l[j]? = some w → t.rd (Loop.coef n (15 * s.rdN (Loop.region n) + j)) = fit (Loop.coef n (15 * s.rdN (Loop.region n) + j)) w.toNat))

/-- O34. The drain, the Chest's programs and erases, its scan, its reading and START_CSEQ take effect (R412, R416, R418, R419, R420, R434, R438).
Where the manual leaves a point open the clauses follow the model's choices: log 45, log 55, log 57, log 105, log 132. -/
def Obligations.ShelvesAndChestComplete : Prop :=
  (∀ (s : State) (r : Rec) (l : List Rec),
      s.shelf.queue = r :: l →
      r.source < 128 →
      s.arb.drain.isSome = true →
      s.rd Fw.fixedMode = s.fixedOf →
      CompletesWith .recordDrain s (fun t => t.shelf.queue = l
      ∧ t.rd (Shelf.shelfHead r.source) = ((s.rdN (Shelf.shelfHead r.source) + 1) % 2 ^ 32 : Nat)
      ∧ t.arb = { s.arb with drain := none }
      ∧ t.rd Ev.records = fit Ev.records (s.rd Ev.records + 1)))
  ∧ (∀ (s : State) (r : Rec) (l : List Rec),
      s.chest.scanned = true →
      s.chest.inhibitAt = none →
      s.chest.queue = r :: l →
      s.chest.step = 0 →
      (s.chest.opening = false ∨ s.chest.erased ≠ 0) →
      CompletesWith (.chestProgram true) s (fun t => t.chest.step = 1 ∧ t.chest.queue = s.chest.queue ∧ t.chest.norAt = s.chest.addr
      ∧ t.chest.norBytes = s.chestBytes ∧ t.chest.failed = false))
  ∧ (∀ (s : State),
      s.chest.scanned = true →
      s.chest.inhibitAt = none →
      s.chest.queue ≠ [] →
      (s.chest.opening = false ∨ s.chest.erased ≠ 0) →
      CompletesWith (.chestProgram false) s (fun t => t.chest.failed = true ∧ t.chest.step = s.chest.step ∧ t.chest.queue = s.chest.queue
      ∧ t.rd Chest.norErrors = fit Chest.norErrors (s.rd Chest.norErrors + 1) ∧ t.rd Chest.chestState = 3))
  ∧ (∀ (s : State) (b : Bool),
      s.chest.opening = true →
      s.chest.erased = 0 →
      Completes (.chestProgram b) s s)
  ∧ (∀ (s : State),
      s.chest.scanned = true →
      s.chest.inhibitAt = none →
      s.chest.erased < 4 →
      s.chest.halfErased = false →
      CompletesWith (.chestErase true) s (fun t => t.chest = { s.chest with halfErased := true } ∧ t.rd Chest.erasedAhead = s.rd Chest.erasedAhead))
  ∧ (∀ (s : State),
      s.chest.scanned = true →
      s.chest.inhibitAt = none →
      s.chest.erased < 4 →
      s.chest.halfErased = true →
      CompletesWith (.chestErase true) s (fun t => t.chest.halfErased = false ∧ t.chest.erased = s.chest.erased + 1
      ∧ t.rd Chest.erasedAhead = fit Chest.erasedAhead (s.chest.erased + 1 : Nat) ∧ t.rd Chest.oldestCseq = fit Chest.oldestCseq s.nextOldest))
  ∧ (∀ (s : State),
      s.chest.scanned = true →
      s.chest.inhibitAt = none →
      s.chest.erased < 4 →
      CompletesWith (.chestErase false) s (fun t => t.rd Chest.erasedAhead = s.rd Chest.erasedAhead ∧ t.chest.failed = true
      ∧ t.rd Chest.norErrors = fit Chest.norErrors (s.rd Chest.norErrors + 1)))
  ∧ (∀ (s : State) (r : ChestScan),
      s.chest.scanned = false →
      s.start.dirRead = true →
      (s.chest.inhibitAt = none ∨ scanHalves r true = []) →
      CompletesWith (.chestScanDone r) s (fun t => t.chest.scanned = true ∧ t.start.scanDone = true
      ∧ t.chest.sector = (scanPlace r {}).sector ∧ t.chest.slot = (scanPlace r {}).slot ∧ t.chest.opening = (scanPlace r {}).opening
      ∧ t.rd Chest.nextCseq = fit Chest.nextCseq (scanNextCseq r) ∧ t.rd Chest.oldestCseq = fit Chest.oldestCseq (scanOldestCseq r)
      ∧ t.rd Chest.repairs = fit Chest.repairs (scanHalves r true).length ∧ t.rd Chest.singleCopy = fit Chest.singleCopy (scanHalves r false).length
      ∧ t.rd Dump.nextId = fit Dump.nextId (max r.id0.toNat r.id1.toNat + 1 : Nat)))
  ∧ (∀ (s : State) (r : ChestScan),
      (s.chest.scanned = true ∨ s.start.dirRead = false) →
      Completes (.chestScanDone r) s s)
  ∧ (∀ (s : State) (a : Asker) (l : List Asker) (r : NorRead),
      s.chest.askers = a :: l →
      s.xportOn a.x = true →
      CompletesWith (.chestFetchDone false r) s (fun t => t.chest.askers = l
      ∧ t.host.tx = some ⟨a.x, a.src, a.tag, false, dictBytes 131 0 a.count a.idx a.sub (s.fetched false a.off a.len r.bytes)⟩))
  ∧ (∀ (s : State) (a : Asker) (l : List Asker) (r : NorRead),
      s.chest.dumpAskers = a :: l →
      s.xportOn a.x = true →
      CompletesWith (.chestFetchDone true r) s (fun t => t.chest.dumpAskers = l
      ∧ t.host.tx = some ⟨a.x, a.src, a.tag, false, dictBytes 131 0 a.count a.idx a.sub (s.fetched true a.off a.len r.bytes)⟩))
  ∧ (∀ (s : State) (q : NorRead) (x : Nat) (r : List Nat),
      s.chest.askers = [] →
      s.chest.fetchX = x :: r →
      CompletesWith (.chestFetchDone false q) s (fun t => tabGet (fun _ => []) t.chest.windows x = s.fetchedWindow false x q.bytes
      ∧ t.chest.fetchX = r ∧ t.rd ChestRd.fetch = (if r = [] then 0 else 1)))
  ∧ (∀ (s : State) (q : NorRead) (x : Nat) (r : List Nat),
      s.chest.dumpAskers = [] →
      s.chest.dumpX = x :: r →
      CompletesWith (.chestFetchDone true q) s (fun t => tabGet (fun _ => []) t.chest.windows (4 + x) = s.fetchedWindow true x q.bytes
      ∧ t.chest.dumpX = r ∧ t.rd DumpRd.fetch = (if r = [] then 0 else 1)))
  ∧ (∀ (s : State) (d : Bool) (q : NorRead),
      CompletesWith (.chestFetchDone d q) s (fun t => t.rd Chest.norErrors = (if q.bad = none then s.rd Chest.norErrors else fit Chest.norErrors (s.rd Chest.norErrors + 1))))
  ∧ (∀ (s : State) (x : Xport) (v : Word32),
      s.answers x = true →
      CompletesWith (.startCseqWrite x v) s (fun t => t.rd ChestRd.startCseq = v.toNat ∧ t.rd ChestRd.fetch = 1 ∧ xnum x ∈ t.chest.fetchX))

/-- O35. The heartbeat, STOP_CTRL, the cut, the stop, the dumps and their areas take effect or are rejected (R423, R424, R425, R426, R427, R428, R429, R434).
Where the manual leaves a point open the clauses follow the model's choices: log 54, log 90, log 106, log 133. -/
def Obligations.HangStopAndDumpsComplete : Prop :=
  (∀ (s : State),
      s.hostUp = true →
      CompletesWith (.hbKick 1) s (fun t => t.hang.kickAt = s.hclk ∧ t.hang.missed = false))
  ∧ (∀ (s : State) (v : Byte),
      v ≠ 1 →
      s.hostUp = true →
      CompletesWith (.hbKick v) s (fun t => t.hang = s.hang))
  ∧ (∀ (s : State),
      s.rd Hang.hbPeriod ≠ 0 →
      s.hang.missed = false →
      s.hang.kickAt + 800000 * s.rdN Hang.hbPeriod ≤ s.hclk →
      s.rd Hang.hangState = 0 →
      getField (s.rdN Hang.hangAction) 0 2 ≠ 0 →
      CompletesWith .heartbeatMissed s (fun t => t.hang.missed = true ∧ t.rd Hang.hangState = 1 ∧ t.rd Hang.hangCause = 1 ∧ t.hang.cutAt = s.nextCut))
  ∧ (∀ (s : State) (x : Xport),
      s.rd Hang.hangState = 0 →
      s.answers x = true →
      CompletesWith (.stopCtrlDump x) s (fun t => t.rd Hang.hangState = 1 ∧ t.hang.action = 1 ∧ t.hang.cutAt = s.nextCut ∧ t.rd Hang.stopCtrl = 1
      ∧ t.rd Hang.hangCause = (if x = .htp then 2 else 3)))
  ∧ (∀ (s : State) (x : Xport),
      s.rd Hang.hangState = 0 →
      s.answers x = true →
      CompletesWith (.stopCtrlStopDump x) s (fun t => t.rd Hang.hangState = 1 ∧ t.hang.action = 2 ∧ t.hang.cutAt = s.nextCut ∧ t.rd Hang.stopCtrl = 1))
  ∧ (∀ (s : State) (x : Xport),
      s.rd Hang.hangState = 4 →
      s.answers x = true →
      CompletesWith (.stopCtrlRelease x) s (fun t => t.rd Hang.hangState = 5 ∧ t.hang.releaseAt = s.nextCut ∧ t.rd Hang.stopCtrl = 1))
  ∧ (∀ (s : State) (x : Xport),
      s.rd Hang.hangState ≠ 4 →
      s.answers x = true →
      CompletesWith (.stopCtrlRelease x) s (fun t => t.rd Hang.hangState = s.rd Hang.hangState ∧ t.rd Hang.stopCtrl = 3))
  ∧ (∀ (s : State) (x : Xport),
      (s.rd Hang.hangState = 2 ∨ s.rd Hang.hangState = 3) →
      s.answers x = true →
      CompletesWith (.stopCtrlAbort x) s (fun t => t.rd Hang.hangState = (if s.hang.action = 2 then 4 else 0) ∧ t.rd (areaState s.hang.area) = 3
      ∧ t.rd Hang.stopCtrl = 2 ∧ t.shelf.postCut = false))
  ∧ (∀ (s : State) (l : List StopStamp),
      s.rd Hang.hangState = 1 →
      s.beatHclk = 800 * s.hang.cutAt →
      CompletesWith (.hangCut l) s (fun t => t.hang.stamps.all (fun x => l.contains x) = true ∧ t.hang.counts = cdList.map (fun c => (c, (s.dcu c).edges))
      ∧ t.hang.gated = cdList.filter (fun c => !s.hasEdges c) ∧ t.hang.cutHclk = s.hclk - s.start.hubAt ∧ t.rd Hang.cutBeat = fit Hang.cutBeat s.hang.cutAt
      ∧ t.shelf.postCut = true ∧ t.hang.stop = (s.hang.action = 2 || s.hang.stop) ∧ t.hang.area = s.dumpArea.1
      ∧ t.rd Hang.hangState = (if s.dumpArea.2 then 3 else 2) ∧ t.hang.shadow = s.toShadow))
  ∧ (∀ (s : State) (l : List StopStamp),
      (s.rd Hang.hangState = 2 ∨ s.rd Hang.hangState = 3) →
      s.hang.stamps = [] →
      s.hang.sectors = 0 →
      CompletesWith (.hangCut l) s (fun t => t.hang = { s.hang with stamps := l.filter s.stampOk } ∧ t.rd Hang.hangState = s.rd Hang.hangState))
  ∧ (∀ (s : State),
      s.chest.inhibitAt = none →
      s.hang.clearing = [] →
      s.rd Hang.hangState = 2 →
      s.hang.area < 2 →
      CompletesWith (.dumpEraseDone true) s (fun t => t.rd Hang.hangState = 3 ∧ t.rd (areaState s.hang.area) = 1
      ∧ t.rd (areaId s.hang.area) = fit (areaId s.hang.area) s.hang.dumpId))
  ∧ (∀ (s : State),
      s.chest.inhibitAt = none →
      s.hang.clearing = [] →
      s.rd Hang.hangState = 2 →
      CompletesWith (.dumpEraseDone false) s (fun t => t.rd Hang.hangState = (if s.hang.action = 2 then 4 else 0) ∧ t.rd (areaState s.hang.area) = 3
      ∧ t.chest.failed = true))
  ∧ (∀ (s : State),
      s.rd Hang.hangState = 3 →
      s.sectorWaits s.hang.sectors = false →
      s.programsLeft ≠ [] →
      4032 * (s.hang.sectors + 1) < s.rdN Dump.dumpLen →
      CompletesWith (.dumpSectorDone true) s (fun t => t.hang.sectors = s.hang.sectors + 1 ∧ t.rd Hang.hangState = 3
      ∧ t.rd Dump.progress = fit Dump.progress (4032 * (s.hang.sectors + 1) : Nat) ∧ t.chest.failed = false
      ∧ tabGet (fun _ => []) t.hang.data (s.hang.area * 1024 + s.hang.sectors) = s.sectorPayload))
  ∧ (∀ (s : State),
      s.rd Hang.hangState = 3 →
      s.hang.area < 2 →
      s.sectorWaits s.hang.sectors = false →
      s.rdN Dump.dumpLen ≤ 4032 * (s.hang.sectors + 1) →
      CompletesWith (.dumpSectorDone true) s (fun t => t.hang.sectors = s.hang.sectors + 1 ∧ t.rd Hang.hangState = (if s.hang.action = 2 then 4 else 0)
      ∧ t.rd (areaState s.hang.area) = 2 ∧ t.shelf.postCut = false))
  ∧ (∀ (s : State),
      s.rd Hang.hangState = 3 →
      s.hang.area < 2 →
      s.sectorWaits s.hang.sectors = false →
      CompletesWith (.dumpSectorDone false) s (fun t => t.hang.sectors = s.hang.sectors ∧ t.rd Hang.hangState = (if s.hang.action = 2 then 4 else 0)
      ∧ t.rd (areaState s.hang.area) = 3 ∧ t.rd Chest.norErrors = fit Chest.norErrors (s.rd Chest.norErrors + 1)))
  ∧ (∀ (s : State),
      s.rd Hang.hangState = 5 →
      s.hang.releaseAt ≤ s.beat →
      CompletesWith .stopRelease s (fun t => t.rd Hang.hangState = 0 ∧ t.hang.stop = false ∧ t.rd Hang.stoppedCd = 0
      ∧ t.rd Hang.releaseBeat = fit Hang.releaseBeat s.hang.releaseAt ∧ (t.fp 0).halted = false ∧ (t.fp 3).halted = false))
  ∧ (∀ (s : State) (v : Byte),
      v.toNat ≤ 1 →
      s.rd (areaState v.toNat) ≠ 1 →
      s.hostUp = true →
      CompletesWith (.dumpClear v) s (fun t => t.rd (areaState v.toNat) = 4 ∧ t.rd Dump.dumpClear = 1 ∧ v.toNat ∈ t.hang.clearing))
  ∧ (∀ (s : State) (v : Byte),
      (1 < v.toNat ∨ s.rd (areaState v.toNat) = 1) →
      s.hostUp = true →
      CompletesWith (.dumpClear v) s (fun t => t.hang.clearing = s.hang.clearing ∧ t.rd (areaState v.toNat) = s.rd (areaState v.toNat)))

/-- O36. Writes, reads, submissions, pops, interrupts, SOFT_RST and JTAG on the host side take effect with the response they get (R47, R50, R76, R87, R89, R90, R97, R106, R109, R110, R111).
Where the manual leaves a point open the clauses follow the model's choices: log 79, log 96, log 109, log 113. -/
def Obligations.HostPortCompletes : Prop :=
  (∀ (s : State) (a : BitVec 40) (d : Word64) (g : BitVec 4) (i sub : Nat) (w : Int),
      s.reqReady = true →
      0x10000 ≤ a.toNat →
      dictAddr a.toNat = some (i, sub) →
      i < 0xF000 →
      s.writeStatus i sub 0xFF = none →
      storesOnly (i * 256 + sub) = true →
      s.ruled 0 (i * 256 + sub) (reduceTo (tyOf (i * 256 + sub)) d.toNat) = some w →
      s.earlyNow.contains (i * 256 + sub) = false →
      CompletesWith (.dictWrite a d 0xFF g) s (fun t => t.rd (i * 256 + sub) = fit (i * 256 + sub) w ∧ t.host.rsp = some ⟨g.toNat, 0, 0⟩
      ∧ ∀ k, k ≠ i * 256 + sub → k ≠ Sett.pending → k ∉ levelKeys → t.rd k = s.rd k))
  ∧ (∀ (s : State) (a : BitVec 40) (d : Word64) (b : BitVec 8) (g : BitVec 4) (i sub : Nat) (e : Status),
      s.reqReady = true →
      0x10000 ≤ a.toNat →
      dictAddr a.toNat = some (i, sub) →
      i < 0xF000 →
      s.writeStatus i sub b.toNat = some e →
      CompletesWith (.dictWrite a d b g) s (fun t => t.host.rsp = some ⟨g.toNat, htpErr e, 0⟩ ∧ t.hub = s.hub
      ∧ ∀ k, k ∉ levelKeys → t.rd k = s.rd k))
  ∧ (∀ (s : State) (a : BitVec 40) (d : Word64) (b : BitVec 8) (g : BitVec 4),
      s.reqReady = true →
      0x10000 ≤ a.toNat →
      dictAddr a.toNat = none →
      CompletesWith (.dictWrite a d b g) s (fun t => t.host.rsp = some ⟨g.toNat, 2, 0⟩ ∧ t.hub = s.hub
      ∧ ∀ k, k ∉ levelKeys → t.rd k = s.rd k))
  ∧ (∀ (s : State) (a : BitVec 40) (d : Word64) (g : BitVec 4) (i sub : Nat) (w : Int),
      s.reqReady = true →
      s.rd Legacy.legacyEn = 1 →
      a.toNat < 0xC000 →
      a.toNat % 8 = 0 →
      legacyAddr a.toNat = some (i, sub) →
      storesOnly (i * 256 + sub) = true →
      accOf i sub = .rws →
      s.accessStatus i sub = none →
      s.ruled 0 (i * 256 + sub) (reduceTo (tyOf (i * 256 + sub)) (halfMerge (s.slotWord (i * 256 + sub)) d.toNat true false)) = some w →
      s.collides (i * 256 + sub) = false →
      CompletesWith (.legacyWrite a d 0x0F g) s (fun t => t.rd (i * 256 + sub) = fit (i * 256 + sub) w ∧ t.host.rsp = some ⟨g.toNat, 0, 0⟩))
  ∧ (∀ (s : State) (a : BitVec 40) (d : Word64) (b : BitVec 8) (g : BitVec 4) (i sub : Nat),
      s.reqReady = true →
      s.rd Legacy.legacyEn = 1 →
      a.toNat < 0xC000 →
      a.toNat % 8 = 0 →
      legacyAddr a.toNat = some (i, sub) →
      (b = 0xFF ∨ b = 0x0F) →
      (accOf i sub = .rw ∨ accOf i sub = .rws) →
      s.collides (i * 256 + sub) = true →
      CompletesWith (.legacyWrite a d b g) s (fun t => t.rd (i * 256 + sub) = s.rd (i * 256 + sub) ∧ t.host.rsp = some ⟨g.toNat, 0, 0⟩
      ∧ t.rd Legacy.legacyCollisions = fit Legacy.legacyCollisions (s.rd Legacy.legacyCollisions + 1)))
  ∧ (∀ (s : State) (a : BitVec 40) (d : Word64) (b : BitVec 8) (g : BitVec 4),
      s.reqReady = true →
      s.rd Legacy.legacyEn = 1 →
      0xC000 ≤ a.toNat →
      a.toNat < 0xC800 →
      a.toNat % 8 = 0 →
      b ≠ 0 →
      CompletesWith (.legacyWrite a d b g) s (fun t => t.host.rsp = some ⟨g.toNat, 0, 0⟩
      ∧ t.rd Legacy.legacyUnimpl = fit Legacy.legacyUnimpl (s.rd Legacy.legacyUnimpl + 1)))
  ∧ (∀ (s : State) (a : BitVec 40) (g : BitVec 4) (i sub : Nat),
      s.reqReady = true →
      0x10000 ≤ a.toNat →
      dictAddr a.toNat = some (i, sub) →
      i < 0xF000 →
      i ≠ 0x1220 →
      i ≠ 0x1221 →
      s.readStatus i sub = none →
      accOf i sub = .rc →
      i * 256 + sub ∉ levelKeys →
      CompletesWith (.readClear a g) s (fun t => t.rd (i * 256 + sub) = 0
      ∧ t.host.rsp = some ⟨g.toNat, 0, BitVec.ofNat 64 (s.slotRead 0 i sub)⟩))
  ∧ (∀ (s : State) (g : BitVec 4) (r : Word64) (l : List Word64),
      s.reqReady = true →
      s.hub.ringH = r :: l →
      CompletesWith (.cqPop 0 g) s (fun t => t.hub.ringH = l ∧ t.hub.tags = s.hub.tags.filter (fun t => t ≠ r.toNat / 2 ^ 55)
      ∧ t.host.rsp = some ⟨g.toNat, 0, r⟩ ∧ t.rd (Ring.cqDepth 0) = fit (Ring.cqDepth 0) l.length))
  ∧ (∀ (s : State) (v : Word64),
      s.hostUp = true →
      CompletesWith (.submitA v) s (fun t => t.hub = { s.hub with stagedA := some v }))
  ∧ (∀ (s : State) (a b : Word64),
      s.hostUp = true →
      s.hub.stagedA = some a →
      (wordA a).low ≠ 0 →
      CompletesWith (.submitB b) s (fun t => t.hub = { s.hub with stagedA := none } ∧ t.rd Act.lastDiscard = 5
      ∧ t.rd Act.subDiscards = fit Act.subDiscards (s.rd Act.subDiscards + 1)))
  ∧ (∀ (s : State) (a b : Word64),
      s.hostUp = true →
      s.hub.stagedA = some a →
      s.discardCode false (wordA a) = none →
      CompletesWith (.submitB b) s (fun t => t.hub.tags = s.hub.tags ++ [(wordA a).tag] ∧ t.hub.stagedA = none))
  ∧ (∀ (s : State) (a b : Word64),
      s.hostUp = true →
      s.hub.stagedA = some a →
      s.discardCode false (wordA a) = none →
      (wordA a).sched = true →
      s.noTime = false →
      64 * 1024 ≤ instant1024 b.toNat (wordA a).tick - s.now1024 →
      s.hub.sched.length < 1024 →
      CompletesWith (.submitB b) s (fun t => ∃ e ∈ t.hub.sched, e.txn.tag = some (wordA a).tag ∧ e.txn.act = actOf (wordA a).kind (wordA a).inst
      ∧ e.txn.rung = 8 ∧ e.txn.value = (wordA a).value ∧ e.beat = b.toNat ∧ e.tick = (wordA a).tick))
  ∧ (∀ (s : State) (a b : Word64),
      s.hostUp = true →
      s.hub.stagedA = some a →
      s.discardCode false (wordA a) = none →
      (wordA a).sched = false →
      s.inRange (actOf (wordA a).kind (wordA a).inst) (wordA a).value true = false →
      CompletesWith (.submitB b) s (fun t => t.hub.lad = s.hub.lad ∧ t.hub.ringH = s.hub.ringH ++ [completionRecord (wordA a).tag TxnOutcome.rejectedRange.code
      (s.srcShown (actOf (wordA a).kind (wordA a).inst)).toNat (s.held (actOf (wordA a).kind (wordA a).inst)) s.tick s.beat]))
  ∧ (∀ (s : State),
      s.host.softRst = false →
      CompletesWith .softReset s (fun t => t.host.softRst = true ∧ t.hub.ringH = [] ∧ t.hub.stagedA = none ∧ t.hub.epoch = s.hub.epoch + 1
      ∧ t.rd Irq.irqEnable = 0 ∧ t.hub.ringM = s.hub.ringM ∧ t.hub.lad = s.hub.lad ∧ t.rails = s.rails
      ∧ t.rd (Ring.cqThresh 0) = s.rd (Ring.cqThresh 0) ∧ t.rd Act.tagSplit = s.rd Act.tagSplit))
  ∧ (∀ (s : State),
      CompletesWith .softResetRelease s (fun t => t.host = { s.host with softRst := false } ∧ t.hub = s.hub))
  ∧ (∀ (s : State) (v : BitVec 16),
      s.hostUp = true →
      v.toNat < 2 ^ 14 →
      Completes (.irqClear v) s ((s.fabric 3 0).wr Irq.irqStatus (s.rdN Irq.irqStatus ^^^ (s.rdN Irq.irqStatus &&& v.toNat) : Nat)))
  ∧ (∀ (s : State) (v : BitVec 16),
      s.hostUp = true →
      2 ^ 14 ≤ v.toNat →
      Completes (.irqClear v) s ((s.fabric 3 0).reject Irq.irqClear 0))
  ∧ (∀ (s : State) (v : BitVec 16),
      s.hostUp = true →
      v.toNat < 2 ^ 14 →
      Completes (.irqForce v) s ((s.fabric 3 0).wr Irq.irqStatus (s.rdN Irq.irqStatus ||| v.toNat : Nat)))
  ∧ (∀ (s : State) (v : BitVec 16),
      s.hostUp = true →
      2 ^ 14 ≤ v.toNat →
      Completes (.irqForce v) s ((s.fabric 3 0).reject Irq.irqForce 0))
  ∧ (∀ (s : State),
      CompletesWith (.jtagInstruction .idcode) s (fun t => t.host.tdo = some 0x32C51A6F))
  ∧ (∀ (s : State) (n : Byte),
      CompletesWith (.jtagInstruction (.other n)) s (fun t => t.host.tdo = none
      ∧ t.host.jtag = (if s.rd Lc.lcState = 2 ∨ s.rd Lc.lcState = 3 then .bypass else .other n)))

/-- O37. CURSOR moves the window of one transport, a window write is staged for it, and COMMIT applies or discards what is staged (R93, R95).
Where the manual leaves a point open the clauses follow the model's choices: log 82. -/
def Obligations.BlobAccessesComplete : Prop :=
  (∀ (s : State) (x : Xport) (i : BitVec 16) (v : Word32),
      (if x = .htp then s.hostUp else s.xportOn x) = true →
      isBlob i.toNat = true →
      (s.writeStatus i.toNat 2 0xFF).isNone = true →
      v.toNat % 8 = 0 →
      v.toNat ≤ s.blobLen i.toNat →
      CompletesWith (.blobCursorWrite x i v) s (fun t => tabGet (fun _ => 0) t.host.cursors (xnum x * 65536 + i.toNat) = v.toNat
      ∧ t.host.staged = s.host.staged ∧ t.blob = s.blob))
  ∧ (∀ (s : State) (x : Xport) (i : BitVec 16) (b : Byte) (v : Word64),
      (if x = .htp then s.hostUp else s.xportOn x) = true →
      blobWritable i.toNat = true →
      0x10 ≤ b.toNat →
      (s.writeStatus i.toNat b.toNat 0xFF).isNone = true →
      kettleLive i.toNat (tabGet (fun _ => 0) s.host.cursors (xnum x * 65536 + i.toNat) / 8 + (b.toNat - 0x10)) = false →
      8 * (tabGet (fun _ => 0) s.host.cursors (xnum x * 65536 + i.toNat) / 8 + (b.toNat - 0x10)) < s.blobLen i.toNat →
      CompletesWith (.blobWindowWrite x i b v) s (fun t => t.isStaged (xnum x) i.toNat = true ∧ t.blob = s.blob
      ∧ tabGet (fun _ => 0) t.host.staged (stageKey (xnum x) i.toNat (tabGet (fun _ => 0) s.host.cursors (xnum x * 65536 + i.toNat) / 8 + (b.toNat - 0x10))) = v.toNat))
  ∧ (∀ (s : State) (x : Xport),
      (if x = .htp then s.hostUp else s.xportOn x) = true →
      (s.writeStatus 0xB040 4 0xFF).isNone = true →
      s.isStaged (xnum x) 0xB040 = true →
      0 ≤ s.rd 0xB04003 →
      s.rd 0xB04003 < 2 ^ 32 →
      CompletesWith (.blobCommit x 0xB040 (BitVec.ofInt 32 (s.rd 0xB04003))) s (fun t => t.isStaged (xnum x) 0xB040 = false
      ∧ t.rd 0xB04003 = fit 0xB04003 (s.rd 0xB04003 + 1)))
  ∧ (∀ (s : State) (x : Xport) (i : BitVec 16) (v : Word32),
      (if x = .htp then s.hostUp else s.xportOn x) = true →
      blobWritable i.toNat = true →
      (s.writeStatus i.toNat 4 0xFF).isNone = true →
      (v.toNat : Int) ≠ s.rd (i.toNat * 256 + 3) →
      CompletesWith (.blobCommit x i v) s (fun t => t.isStaged (xnum x) i.toNat = false ∧ t.blob = s.blob
      ∧ t.rd (i.toNat * 256 + 3) = s.rd (i.toNat * 256 + 3)))

/-- O38. READ, WRITE, BLOCK_READ, BLOCK_WRITE, ACT_SUBMIT and CQ_POP are carried out and answered, and packets become messages (R95, R99, R100, R101, R102, R103, R104, R107, R109).
Where the manual leaves a point open the clauses follow the model's choices: log 80, log 82, log 112. -/
def Obligations.MctpDictionaryMessagesComplete : Prop :=
  (∀ (s : State) (x : Xport) (m : DictMsg),
      s.xportOn x = true →
      s.msgTurn x m = true →
      m.idx.toNat < 0xF000 →
      (s.taken x m 1).msgCheck 1 m = none →
      lengthOk m 0 = true →
      (msgSubs m).all (fun u => ((s.taken x m 1).readStatus m.idx.toNat u).isNone) = true →
      CompletesWith (.mctpRead x m) s (fun t => t.host.tx = some ⟨x, m.src.toNat, m.tag.toNat, false, dictBytes 129 0 m.count.toNat m.idx.toNat m.sub.toNat
      ((msgSubs m).flatMap (fun u => leBytes 8 ((s.taken x m 1).slotRead (xnum x) m.idx.toNat u)))⟩))
  ∧ (∀ (s : State) (x : Xport) (m : DictMsg),
      s.xportOn x = true →
      s.msgTurn x m = true →
      m.idx.toNat < 0xF000 →
      ((s.taken x m 2).hostWrites m).xportOn x = true →
      (s.taken x m 2).msgCheck 2 m = none →
      lengthOk m (9 * m.count.toNat) = true →
      ((s.taken x m 2).hostWrites m).writeFail (xnum x) m = none →
      CompletesWith (.mctpWrite x m) s (fun t => t.host.tx = some ⟨x, m.src.toNat, m.tag.toNat, false, dictBytes 130 0 m.count.toNat m.idx.toNat m.sub.toNat []⟩
      ∧ t.dict = ((forEach (List.range m.count.toNat) (fun k u => u.applyWrite ((s.taken x m 2).hostWrites m) (xnum x) m k) ((s.taken x m 2).hostWrites m)).settle).dict))
  ∧ (∀ (s : State) (x : Xport) (m : DictMsg) (w : Int),
      s.xportOn x = true →
      s.msgTurn x m = true →
      m.idx.toNat < 0xF000 →
      ((s.taken x m 2).hostWrites m).xportOn x = true →
      (s.taken x m 2).msgCheck 2 m = none →
      m.count = 1 →
      lengthOk m 9 = true →
      ((s.taken x m 2).hostWrites m).writeStatus m.idx.toNat m.sub.toNat 0xFF = none →
      msgStrobe m 0 = 0xFF →
      storesOnly (m.idx.toNat * 256 + m.sub.toNat) = true →
      ((s.taken x m 2).hostWrites m).ruled (xnum x) (m.idx.toNat * 256 + m.sub.toNat) (reduceTo (tyOf (m.idx.toNat * 256 + m.sub.toNat)) (msgSlot m 0)) = some w →
      CompletesWith (.mctpWrite x m) s (fun t => t.rd (m.idx.toNat * 256 + m.sub.toNat) = fit (m.idx.toNat * 256 + m.sub.toNat) w
      ∧ t.host.tx = some ⟨x, m.src.toNat, m.tag.toNat, false, dictBytes 130 0 1 m.idx.toNat m.sub.toNat []⟩))
  ∧ (∀ (s : State) (x : Xport) (m : DictMsg) (k : Nat) (e : Status),
      s.xportOn x = true →
      s.msgTurn x m = true →
      m.idx.toNat < 0xF000 →
      ((s.taken x m 2).hostWrites m).xportOn x = true →
      (s.taken x m 2).msgCheck 2 m = none →
      lengthOk m (9 * m.count.toNat) = true →
      ((s.taken x m 2).hostWrites m).writeFail (xnum x) m = some (k, e) →
      e ≠ .busy →
      CompletesWith (.mctpWrite x m) s (fun t => t.host.tx = some ⟨x, m.src.toNat, m.tag.toNat, false, dictBytes 130 e.code k m.idx.toNat m.sub.toNat []⟩
      ∧ t.dict = ((((s.taken x m 2).hostWrites m).tryWrite (xnum x) m k).1.settle).dict))
  ∧ (∀ (s : State) (x : Xport) (m : DictMsg),
      s.xportOn x = true →
      s.msgTurn x m = true →
      (s.taken x m 3).msgCheck 3 m = none →
      m.body.length = 6 →
      1 ≤ leNat (m.body.drop 4) →
      leNat (m.body.drop 4) ≤ 2048 →
      (s.taken x m 3).blockStatus m.idx.toNat = none →
      m.idx = 0xA011 →
      CompletesWith (.mctpBlockRead x m) s (fun t => t.host.tx = s.host.tx
      ∧ t.chest.askers = s.chest.askers ++ [{ askerOf x m 0 0 with off := leNat (m.body.take 4), len := leNat (m.body.drop 4) }]))
  ∧ (∀ (s : State) (x : Xport) (m : DictMsg),
      s.xportOn x = true →
      s.msgTurn x m = true →
      m.idx.toNat < 0xF000 →
      (s.taken x m 3).msgCheck 3 m = none →
      m.body.length = 6 →
      1 ≤ leNat (m.body.drop 4) →
      leNat (m.body.drop 4) ≤ 2048 →
      (s.taken x m 3).blockStatus m.idx.toNat = none →
      m.idx ≠ 0xA011 →
      m.idx ≠ 0xA031 →
      CompletesWith (.mctpBlockRead x m) s (fun t => t.host.tx = some ⟨x, m.src.toNat, m.tag.toNat, false,
      dictBytes 131 0 m.count.toNat m.idx.toNat m.sub.toNat ((s.taken x m 3).blobBytes (xnum x) m.idx.toNat (leNat (m.body.take 4)) (leNat (m.body.drop 4)))⟩))
  ∧ (∀ (s : State) (x : Xport) (m : DictMsg),
      s.xportOn x = true →
      s.msgTurn x m = true →
      (s.taken x m 4).msgCheck 4 m = none →
      m.idx = 0xB040 →
      6 ≤ m.body.length →
      (m.body.drop 6).length = leNat ((m.body.drop 4).take 2) →
      (s.taken x m 4).blockStatus 0xB040 = none →
      leNat (m.body.take 4) + leNat ((m.body.drop 4).take 2) ≤ 512 →
      1 ≤ leNat ((m.body.drop 4).take 2) →
      s.blobLen 0xB040 = 512 →
      CompletesWith (.mctpBlockWrite x m) s (fun t => t.isStaged (xnum x) 0xB040 = true ∧ t.blob = s.blob
      ∧ t.blobBytes (xnum x) 0xB040 (leNat (m.body.take 4)) (leNat ((m.body.drop 4).take 2)) = m.body.drop 6))
  ∧ (∀ (s : State) (x : Xport) (m : DictMsg),
      s.xportOn x = true →
      s.msgTurn x m = true →
      (s.taken x m 5).msgCheck 5 m = none →
      m.body.length = 16 →
      CompletesWith (.mctpActSubmit x m) s (fun t => t.host.tx = some ⟨x, m.src.toNat, m.tag.toNat, false, dictBytes 133
      (if (s.discardCode true (wordA (BitVec.ofNat 64 (leNat (m.body.take 8))))).isSome then 4 else 0) m.count.toNat m.idx.toNat m.sub.toNat []⟩
      ∧ (s.discardCode true (wordA (BitVec.ofNat 64 (leNat (m.body.take 8)))) = none → t.hub.tags = s.hub.tags ++ [(wordA (BitVec.ofNat 64 (leNat (m.body.take 8)))).tag])
      ∧ (s.discardCode true (wordA (BitVec.ofNat 64 (leNat (m.body.take 8)))) ≠ none → t.hub = s.hub ∧ t.rd Act.subDiscards = fit Act.subDiscards (s.rd Act.subDiscards + 1))))
  ∧ (∀ (s : State) (x : Xport) (m : DictMsg),
      s.xportOn x = true →
      s.msgTurn x m = true →
      (s.taken x m 6).msgCheck 6 m = none →
      1 ≤ m.count.toNat →
      m.count.toNat ≤ 32 →
      m.body = [] →
      CompletesWith (.mctpCqPop x m) s (fun t => t.hub.ringM = s.hub.ringM.drop m.count.toNat ∧ t.hub.ringH = s.hub.ringH
      ∧ t.host.tx = some ⟨x, m.src.toNat, m.tag.toNat, false, dictBytes 134 0 (min m.count.toNat s.hub.ringM.length) m.idx.toNat m.sub.toNat
      ((s.hub.ringM.take m.count.toNat).flatMap (fun r => leBytes 8 r.toNat))⟩))
  ∧ (∀ (s : State) (pk : Packet),
      s.xportOn .smbus = true →
      pk.pecGood = false →
      CompletesWith (.mctpPacketReceive .smbus pk) s (fun t => t.host = s.host ∧ t.rd Xport.pecErrors = fit Xport.pecErrors (s.rd Xport.pecErrors + 1)))
  ∧ (∀ (s : State) (x : Xport) (pk : Packet) (b : List Byte),
      s.xportOn x = true →
      x ≠ .mailbox →
      pk.pecGood = true →
      pk.som = true →
      pk.eom = true →
      s.forUs pk = true →
      s.host.asm = [] →
      pk.payload = 0x7F :: b →
      pk.payload.length ≤ 64 →
      12 ≤ b.length →
      1 ≤ leNat ((b.drop 5).take 1) →
      leNat ((b.drop 5).take 1) ≤ 6 →
      s.inFlight < 64 →
      CompletesWith (.mctpPacketReceive x pk) s (fun t => t.host.inbox = s.host.inbox ++ [⟨x, pk.src.toNat, pk.tag.toNat, false, b⟩]))

/-- O39. Control messages are answered, the address is assigned, NOTIFY goes out and SMB_ALERT_N is answered (R74, R99, R100, R105).
Where the manual leaves a point open the clauses follow the model's choices: log 62, log 81, log 112. -/
def Obligations.MctpControlAndAlertsComplete : Prop :=
  (∀ (s : State) (x : Xport) (c : Byte) (g : BitVec 3) (e : Byte),
      s.xportOn x = true →
      8 ≤ e.toNat →
      e.toNat ≤ 254 →
      CompletesWith (.setEndpointId x c g e) s (fun t => t.rd Xport.mctpEid = e.toNat
      ∧ ∃ b, t.host.tx = some ⟨x, c.toNat, g.toNat, true, [b, 1, 0, 0, e, 0]⟩))
  ∧ (∀ (s : State) (x : Xport) (c : Byte) (g : BitVec 3) (e : Byte),
      s.xportOn x = true →
      (e.toNat < 8 ∨ e.toNat = 255) →
      CompletesWith (.setEndpointId x c g e) s (fun t => t.rd Xport.mctpEid = s.rd Xport.mctpEid
      ∧ ∃ b, t.host.tx = some ⟨x, c.toNat, g.toNat, true, [b, 1, 2]⟩))
  ∧ (∀ (s : State) (x : Xport) (c : Byte) (g : BitVec 3),
      s.xportOn x = true →
      CompletesWith (.getEndpointId x c g) s (fun t => ∃ b, t.host.tx = some ⟨x, c.toNat, g.toNat, true, [b, 2, 0, BitVec.ofNat 8 (s.rdN Xport.mctpEid), 0, 0]⟩))
  ∧ (∀ (s : State) (x : Xport) (c : Byte) (g : BitVec 3),
      s.xportOn x = true →
      CompletesWith (.getMctpVersionSupport x c g) s (fun t => ∃ b b0 b1 b2 b3, t.host.tx = some ⟨x, c.toNat, g.toNat, true, [b, 4, 0, 1, b0, b1, b2, b3]⟩))
  ∧ (∀ (s : State) (x : Xport) (c : Byte) (g : BitVec 3),
      s.xportOn x = true →
      CompletesWith (.getMessageTypeSupport x c g) s (fun t => ∃ b, t.host.tx = some ⟨x, c.toNat, g.toNat, true, [b, 5, 0, 1, 0x7F]⟩))
  ∧ (∀ (s : State) (a : BitVec 7),
      s.xportOn .i3c = true →
      CompletesWith (.dynamicAddressAssignment a) s (fun t => t.rd Xport.i3cDynAddr = a.toNat))
  ∧ (∀ (s : State),
      s.smbAlert = true →
      s.xportOn .smbus = true →
      CompletesWith .smbAlertResponse s (fun t => t.smbAlert = false ∧ t.host.alertRsp = some (0x58 + s.start.strapSmb)))
  ∧ (∀ (s : State),
      s.rd Xport.notifyEid ≠ 0 →
      s.notifyNow ≠ [] →
      s.xportOn s.notifyXport = true →
      CompletesWith .notifySend s (fun t => (∀ b ∈ s.notifyNow, b ∉ t.notifyNow) ∧ t.host.tx.isSome = true ∧ (s.notifyXport = .smbus → t.smbAlert = true)
      ∧ (t.host.ibi = true ↔ s.notifyXport = .i3c)))

/-- O40. A step runs the command at the front of the queue on the queue's rest; on an empty queue one HCLK passes (the model's choice, logs 1 and 2) (R51, R92, R104).
Where the manual leaves a point open the clauses follow the model's choices: log 1, log 2. -/
def Obligations.StepTakesTheFrontCommand : Prop :=
  (∀ (s : State) (c : Instr) (l : List Instr),
      s.pending = c :: l →
      step s = exec c { s with pending := l })
  ∧ (∀ (s : State),
      s.pending = [] →
      step s = .next s.tickHclk.settle ∧ s.tickHclk.hclk = s.hclk + 1)

/-- O41. In the dictionary range, the byte offset is (index << 11) + (sub << 3): every index and sub has one address, and every slot address one index and sub (R84). -/
def Obligations.DictionaryAddressesFollowR84 : Prop :=
  (∀ (i : BitVec 16) (b : Byte),
      dictAddr (0x08000000 + (i.toNat <<< 11) + (b.toNat <<< 3)) = some (i.toNat, b.toNat))
  ∧ (∀ (a i b : Nat),
      dictAddr a = some (i, b) →
      i < 2 ^ 16 ∧ b < 2 ^ 8 ∧ a = 0x08000000 + (i <<< 11) + (b <<< 3))
  ∧ (∀ (a : Nat),
      (a < 0x08000000 ∨ 0x10000000 ≤ a) →
      dictAddr a = none)

/-- O42. After every step the ladder level is the smallest of rungs 1 to 5 active on any rail, domain or partition, and 6 when none is (R36). -/
def Obligations.LadderLevelFollowsR36 : Prop :=
  ∀ (s t : State),
    step s = .next t →
    (t.rung1 = true → t.rd Ladder.ladderLevel = 1)
    ∧ (t.rung1 = false → (∃ n, n < 8 ∧ (t.rail n).rung2 = true) → t.rd Ladder.ladderLevel = 2)
    ∧ (t.rung1 = false → (∀ n, n < 8 → (t.rail n).rung2 = false) → t.rung3Any = true → t.rd Ladder.ladderLevel = 3)
    ∧ (t.rung1 = false → (∀ n, n < 8 → (t.rail n).rung2 = false) → t.rung3Any = false → (∃ n, n < 8 ∧ (t.loop n).rung4 = true) → t.rd Ladder.ladderLevel = 4)
    ∧ (t.rung1 = false → (∀ n, n < 8 → (t.rail n).rung2 = false) → t.rung3Any = false → (∀ n, n < 8 → (t.loop n).rung4 = false) →
    (∃ n, n < 8 ∧ (t.limiter n).ceil < 16) → t.rd Ladder.ladderLevel = 5)
    ∧ (t.rung1 = false → (∀ n, n < 8 → (t.rail n).rung2 = false) → t.rung3Any = false → (∀ n, n < 8 → (t.loop n).rung4 = false) →
    (∀ n, n < 8 → 16 ≤ (t.limiter n).ceil) → t.rd Ladder.ladderLevel = 6)

/-- O43. After every step IRQ_N is low exactly while a cause is both set and enabled; it rises in the same step (the model's choice, log 16) (R52).
Where the manual leaves a point open the clauses follow the model's choices: log 16. -/
def Obligations.InterruptLineFollowsR52 : Prop :=
  ∀ (s t : State),
    step s = .next t →
    t.irqN = false ↔ ∃ b, (t.rdN Irq.irqStatus).testBit b = true ∧ (t.rdN Irq.irqEnable).testBit b = true

/-- O44. Every step leaves the interrupt line, ladder, alarm, ring, tag, message and fixed-mode levels equal to what the state says (R36, R37, R52, R103, R105, R109, R111, R369).
Where the manual leaves a point open the clauses follow the model's choices: log 16, log 88. -/
def Obligations.LevelsHoldAfterEveryStep : Prop :=
  ∀ (s t : State),
    step s = .next t →
    t.LevelsHold

/-- O45. After reset the registers hold the entry tables' values, nothing is under way, the queue is empty, and the levels hold (R36, R46, R52, R90, R109, R111). -/
def Obligations.ResetLeavesTheValuesOfTheSpec : Prop :=
  State.reset.LevelsHold ∧ State.reset.irqN = true ∧ State.reset.rd Irq.irqStatus = 0 ∧ State.reset.rd Irq.irqEnable = 0
    ∧ State.reset.rd Ladder.ladderLevel = 6 ∧ (∀ n, n < 8 → State.reset.rd (Rail.railState n) = 0) ∧ (∀ p, p < 96 → State.reset.rd (Ph.phState p) = 0)
    ∧ State.reset.rd Gong.gongState = 0 ∧ State.reset.rd Gong.gongLevel = 2000 ∧ State.reset.rd Gong.restartLevel = 1680
    ∧ State.reset.rd Gong.restartMin = 10000000 ∧ State.reset.rd Xport.xportEn = 7 ∧ State.reset.rd Start.startState = 0
    ∧ State.reset.hub.ringH = [] ∧ State.reset.hub.ringM = [] ∧ State.reset.hub.tags = [] ∧ State.reset.hub.sched = []
    ∧ State.reset.shelf.queue = [] ∧ State.reset.pending = [] ∧ State.reset.blob = []

/-- O46. No step faults, and the one refusal is an access to production test, which the manual does not describe (R50, R101, R112).
Where the manual leaves a point open the clauses follow the model's choices: log 83. -/
def Obligations.RunsStopOnlyAtProductionTest : Prop :=
  (∀ (s : State),
      harmlessStop (step s) = true)
  ∧ (∀ (c : Instr) (s : State) (f : Refusal),
      exec c s = .refused f →
      f = .vendorReserved ∧ s.rd Lc.lcState ≠ 2 ∧ s.rd Lc.lcState ≠ 3)

/-- O47. The resolved value is the bounded target of R31's walk over the eight rungs, and the first rung with a range binds it (R31, R32). -/
def Obligations.ResolverFollowsR31 : Prop :=
  (∀ (s : State) (a : Nat),
      s.minCode a ≤ s.maxCode a →
      (let e := [1, 2, 3, 4, 5, 6, 7, 8].foldl (fun (e : Int × Int) r => match (s.contribR r a).range with
      | none => e
      | some (rl, rh) => (max e.1 (min rl e.2), min e.2 (max rh (max e.1 (min rl e.2))))) (s.minCode a, s.maxCode a)
      s.resolved a = min (max (s.targetOf a) e.1) e.2) ∧ s.minCode a ≤ s.resolved a ∧ s.resolved a ≤ s.maxCode a)
  ∧ (∀ (s : State) (a r : Nat) (rl rh : Int),
      1 ≤ r →
      r ≤ 8 →
      (∀ q, 1 ≤ q → q < r → (s.contribR q a).range = none) →
      (s.contribR r a).range = some (rl, rh) →
      s.minCode a ≤ rl →
      rl ≤ rh →
      rh ≤ s.maxCode a →
      rl ≤ s.resolved a ∧ s.resolved a ≤ rh)

/-- O48. A submission is discarded with the code of the first case of R108 that applies, counted, answered RANGE over MCTP; a value outside R26 is no discard (R108). -/
def Obligations.SubmissionsAreDiscardedInTheOrderOfR108 : Prop :=
  (∀ (s : State) (b : Word64),
      s.hostUp = true →
      s.hub.stagedA = none →
      CompletesWith (.submitB b) s (fun t => t.hub = s.hub ∧ t.rd Act.lastDiscard = 6 ∧ t.rd Act.subDiscards = fit Act.subDiscards (s.rd Act.subDiscards + 1)))
  ∧ (∀ (s : State) (a b : Word64),
      s.hostUp = true →
      s.hub.stagedA = some a →
      (wordA a).low ≠ 0 ∨ 2 < (wordA a).kind ∨ kindCount (wordA a).kind ≤ (wordA a).inst ∨ s.rdN Act.tagSplit ≤ (wordA a).tag ∨ (wordA a).tag ∈ s.hub.tags →
      CompletesWith (.submitB b) s (fun t => t.hub = { s.hub with stagedA := none }
      ∧ t.rd Act.subDiscards = fit Act.subDiscards (s.rd Act.subDiscards + 1)
      ∧ t.rd Act.lastDiscard = (if (wordA a).low ≠ 0 then 5 else if 2 < (wordA a).kind then 3 else if kindCount (wordA a).kind ≤ (wordA a).inst then 4
      else if s.rdN Act.tagSplit ≤ (wordA a).tag then 2 else 1)))
  ∧ (∀ (s : State) (x : Xport) (m : DictMsg) (w : WordA),
      s.xportOn x = true →
      s.msgTurn x m = true →
      (s.taken x m 5).msgCheck 5 m = none →
      m.body.length = 16 →
      w = wordA (BitVec.ofNat 64 (leNat (m.body.take 8))) →
      (w.low ≠ 0 ∨ 2 < w.kind ∨ kindCount w.kind ≤ w.inst ∨ w.tag < s.rdN Act.tagSplit ∨ w.tag ∈ s.hub.tags) →
      CompletesWith (.mctpActSubmit x m) s (fun t => t.hub = s.hub ∧ t.rd Act.subDiscards = fit Act.subDiscards (s.rd Act.subDiscards + 1)
      ∧ t.rd Act.lastDiscard = (if w.low ≠ 0 then 5 else if 2 < w.kind then 3 else if kindCount w.kind ≤ w.inst then 4
      else if w.tag < s.rdN Act.tagSplit then 2 else 1)
      ∧ t.host.tx = some ⟨x, m.src.toNat, m.tag.toNat, false, dictBytes 133 4 m.count.toNat m.idx.toNat m.sub.toNat []⟩))
  ∧ (∀ (s : State) (a b : Word64),
      s.hostUp = true →
      s.hub.stagedA = some a →
      s.discardCode false (wordA a) = none →
      (wordA a).sched = false →
      s.inRange (actOf (wordA a).kind (wordA a).inst) (wordA a).value true = false →
      CompletesWith (.submitB b) s (fun t => t.hub.tags = s.hub.tags ++ [(wordA a).tag]
      ∧ ∃ r, t.hub.ringH = s.hub.ringH ++ [r] ∧ getField r.toNat 55 9 = (wordA a).tag ∧ getField r.toNat 51 4 = 4))
  ∧ (∀ (s : State) (x : Xport) (m : DictMsg) (w : WordA),
      s.xportOn x = true →
      s.msgTurn x m = true →
      (s.taken x m 5).msgCheck 5 m = none →
      m.body.length = 16 →
      w = wordA (BitVec.ofNat 64 (leNat (m.body.take 8))) →
      s.discardCode true w = none →
      w.sched = false →
      s.inRange (actOf w.kind w.inst) w.value true = false →
      CompletesWith (.mctpActSubmit x m) s (fun t => t.hub.tags = s.hub.tags ++ [w.tag]
      ∧ ∃ r, t.hub.ringM = s.hub.ringM ++ [r] ∧ getField r.toNat 55 9 = w.tag ∧ getField r.toNat 51 4 = 4))

/-- O49. A scheduled submission completes NOTIME, STALE, LATE or REJECTED_FULL by the first check that applies, else takes one of 1,024 places (R21, R23, R25).
Where the manual leaves a point open the clauses follow the model's choices: log 34. -/
def Obligations.ScheduledSubmissionsAreCheckedInTheOrderOfR21 : Prop :=
  (∀ (s : State) (a b : Word64),
      s.hostUp = true →
      s.hub.stagedA = some a →
      s.discardCode false (wordA a) = none →
      (wordA a).sched = true →
      (s.noTime = true ∨ instant1024 b.toNat (wordA a).tick - s.now1024 < -(1000 * 800 * 1024)) →
      CompletesWith (.submitB b) s (fun t => t.hub.sched = s.hub.sched ∧ t.hub.lad = s.hub.lad
      ∧ ∃ r, t.hub.ringH = s.hub.ringH ++ [r] ∧ getField r.toNat 55 9 = (wordA a).tag ∧ getField r.toNat 51 4 = (if s.noTime then 7 else 6)))
  ∧ (∀ (s : State) (a b : Word64),
      s.hostUp = true →
      s.hub.stagedA = some a →
      s.discardCode false (wordA a) = none →
      (wordA a).sched = true →
      s.noTime = false →
      -(1000 * 800 * 1024) ≤ instant1024 b.toNat (wordA a).tick - s.now1024 →
      instant1024 b.toNat (wordA a).tick - s.now1024 < 64 * 1024 →
      CompletesWith (.submitB b) s (fun t => t.hub.sched = (if s.inRange (actOf (wordA a).kind (wordA a).inst) (wordA a).value true then
      s.hub.sched.filter (fun e => !e.same ⟨some (wordA a).tag, s.hub.epoch, 8, actOf (wordA a).kind (wordA a).inst, (wordA a).value, true⟩ b.toNat (wordA a).tick) else s.hub.sched)
      ∧ ∃ r, t.hub.ringH.getLast? = some r ∧ getField r.toNat 55 9 = (wordA a).tag
      ∧ getField r.toNat 51 4 = (if s.inRange (actOf (wordA a).kind (wordA a).inst) (wordA a).value true then 3 else 4)))
  ∧ (∀ (s : State) (a b : Word64),
      s.hostUp = true →
      s.hub.stagedA = some a →
      s.discardCode false (wordA a) = none →
      (wordA a).sched = true →
      s.noTime = false →
      64 * 1024 ≤ instant1024 b.toNat (wordA a).tick - s.now1024 →
      1024 ≤ s.hub.sched.length →
      CompletesWith (.submitB b) s (fun t => t.hub.sched = s.hub.sched
      ∧ ∃ r, t.hub.ringH = s.hub.ringH ++ [r] ∧ getField r.toNat 55 9 = (wordA a).tag ∧ getField r.toNat 51 4 = 5))
  ∧ (∀ (s : State) (a b : Word64),
      s.hostUp = true →
      s.hub.stagedA = some a →
      s.discardCode false (wordA a) = none →
      (wordA a).sched = true →
      s.noTime = false →
      64 * 1024 ≤ instant1024 b.toNat (wordA a).tick - s.now1024 →
      s.hub.sched.length < 1024 →
      CompletesWith (.submitB b) s (fun t => (s.hub.sched.filter (fun e => e.same ⟨some (wordA a).tag, s.hub.epoch, 8, actOf (wordA a).kind (wordA a).inst, (wordA a).value, true⟩ b.toNat (wordA a).tick) = [] → t.hub.ringH = s.hub.ringH)
      ∧ t.hub.sched = s.hub.sched.filter (fun e => !e.same ⟨some (wordA a).tag, s.hub.epoch, 8, actOf (wordA a).kind (wordA a).inst, (wordA a).value, true⟩ b.toNat (wordA a).tick)
      ++ [⟨⟨some (wordA a).tag, s.hub.epoch, 8, actOf (wordA a).kind (wordA a).inst, (wordA a).value, true⟩, b.toNat, (wordA a).tick, s.hub.schedOrder, false, none⟩]))

/-- O50. A drained record with sequence s occupies slot s mod 64 of its unit's shelf, SHELF_HEAD moves with it, and an unwritten slot reads as zero (R411). -/
def Obligations.ShelvesFollowR411 : Prop :=
  (∀ (s : State) (r : Rec) (l : List Rec),
      s.shelf.queue = r :: l →
      r.source < 128 →
      s.arb.drain.isSome = true →
      CompletesWith .recordDrain s (fun t => t.rd (Shelf.shelfHead r.source) = ((s.rdN (Shelf.shelfHead r.source) + 1) % 2 ^ 32 : Nat)
      ∧ (∃ f, ∀ d, tabGet (fun _ => d) t.shelf.slots (r.source * 64 + s.rdN (Shelf.shelfHead r.source) % 64) = { r with seq := s.rdN (Shelf.shelfHead r.source), flags := f })
      ∧ ∀ d k, k ≠ r.source * 64 + s.rdN (Shelf.shelfHead r.source) % 64 → tabGet (fun _ => d) t.shelf.slots k = tabGet (fun _ => d) s.shelf.slots k))
  ∧ (∀ (s : State) (u j : Nat) (r : Rec),
      u < 128 →
      j < 64 →
      s.shelf.slots = [(u * 64 + j, r)] →
      (List.range 4).flatMap (fun k => leBytes 8 (s.shelfWord u (4 * j + k))) = r.bytes ∧ (∀ w, w / 4 ≠ j → s.shelfWord u w = 0)
      ∧ s.content 0 (0xA080 + u) (4 * j) = s.shelfWord u (4 * j))

/-- O51. Word A and a completion record have their fields where R107 and R109 put them, every field within its range is read back, and the example holds (R105, R107, R109). -/
def Obligations.CompletionRecordsAndWordsFollowTheirLayouts : Prop :=
  (∀ (tag kind inst value tick low : Nat) (sched : Bool),
      tag < 2 ^ 9 →
      kind < 2 ^ 4 →
      inst < 2 ^ 8 →
      value < 2 ^ 16 →
      tick < 2 ^ 10 →
      low < 2 ^ 16 →
      wordA (BitVec.ofNat 64 (tag * 2 ^ 55 + (if sched = true then 2 ^ 54 else 0) + kind * 2 ^ 50 + inst * 2 ^ 42 + value * 2 ^ 26 + tick * 2 ^ 16 + low))
      = ⟨tag, sched, kind, inst, value, tick, low⟩)
  ∧ (∀ (tag outcome source value tick beat : Nat),
      tag < 2 ^ 9 →
      outcome < 2 ^ 4 →
      source < 2 ^ 4 →
      value < 2 ^ 16 →
      tick < 2 ^ 10 →
      getField (completionRecord tag outcome source value tick beat).toNat 55 9 = tag
      ∧ getField (completionRecord tag outcome source value tick beat).toNat 51 4 = outcome
      ∧ getField (completionRecord tag outcome source value tick beat).toNat 47 4 = source
      ∧ getField (completionRecord tag outcome source value tick beat).toNat 31 16 = value
      ∧ getField (completionRecord tag outcome source value tick beat).toNat 21 10 = tick
      ∧ getField (completionRecord tag outcome source value tick beat).toNat 1 20 = beat % 2 ^ 20
      ∧ getField (completionRecord tag outcome source value tick beat).toNat 0 1 = 1)
  ∧ (wordA 0x12C0003340000000 = ⟨37, true, 0, 0, 0xCD0, 0, 0⟩ ∧ completionRecord 37 0 8 0xCD0 0 5000000 = 0x1284066800189681)

/-- O52. The adjustments of a rail's partitions add up to the measured energy less the estimates, and only one partition takes the rest (R339). -/
def Obligations.ReconciliationSharesTheWholeDifference : Prop :=
  ∀ (m : Int) (est : List (Nat × Int)),
    est ≠ [] →
    (est.map (fun x => x.1)).Nodup →
    ((adjustments m est).map (fun x => x.2)).sum = m - (est.map (fun x => x.2)).sum
    ∧ (adjustments m est).map (fun x => x.1) = est.map (fun x => x.1)
    ∧ ∀ x ∈ est, x.1 ≠ restTo est → (x.1, if 0 < (est.map (fun x => x.2)).sum then
    truncDiv ((m - (est.map (fun x => x.2)).sum) * x.2) (est.map (fun x => x.2)).sum
    else truncDiv (m - (est.map (fun x => x.2)).sum) est.length) ∈ adjustments m est

/-- O53. The mode, factor and grant of a collective round, the factor as in the manual's example of a 1,024-chip pod (R325, R326).
Where the manual leaves a point open the clauses follow the model's choices: log 11. -/
def Obligations.CollectiveFactorFollowsR325 : Prop :=
  (collFactor 1400000000 1900000000 700000000 = (1, 19114))
  ∧ (∀ (c : CollInt) (m : Nat × Nat),
      m.1 < 3 →
      collGrant c m = max 10000 (if m.1 = 1 then (c.fOwn * 32768 + m.2 * (c.dOwn - c.fOwn)) / 32768 else if m.1 = 0 then c.dOwn * m.2 / 32768
      else c.fOwn * m.2 / 32768))
  ∧ (∀ (c d f : Int),
      c ≠ 2 ^ 64 - 1 →
      0 ≤ f →
      f ≤ c →
      c < d →
      collFactor c d f = (1, (((c - f) * 32768) / (d - f)).toNat) ∧ (collFactor c d f).2 < 32768)
  ∧ (∀ (c d f : Int),
      0 ≤ c →
      c < f →
      c ≠ 2 ^ 64 - 1 →
      f ≤ d →
      collFactor c d f = (2, (c * 32768 / f).toNat) ∧ (collFactor c d f).2 < 32768)

/-- O54. A die-diode reading at or above 125 °C in a round after a hot round trips Gong: the state, the line, GONG_OUT_N, TRIP_TIME, TRIP_CH, TRIP_TEMP (R285, R286, R289).
Where the manual leaves a point open the clauses follow the model's choices: log 75, log 101. -/
def Obligations.GongTripsOnASecondHotRound : Prop :=
  (∀ (s : State) (i : HkIn),
      s.hkDue = true →
      s.rd (Ch.chKind s.hkChan) = 1 →
      s.rd (Ch.chStatus s.hkChan) = 0 →
      s.hkFault s.hkChan i = false →
      s.rd Gong.gongLevel = 2000 →
      2000 ≤ s.hkRead s.hkChan i →
      s.gong.prevHot = true →
      s.rd Gong.gongState = 0 →
      CompletesWith (.hkConversion i) s (fun t => t.gong.line = true ∧ t.gong.outN = false ∧ t.gong.tripAt = s.hclk
      ∧ t.rd Gong.gongState = (if s.rd Gong.gongMode = 0 then 2 else 1) ∧ t.rd Gong.tripTime = fit Gong.tripTime s.beat
      ∧ t.rd Gong.tripCh = fit Gong.tripCh s.hkChan ∧ t.rd Gong.tripTemp = fit Gong.tripTemp (s.hkRead s.hkChan i)
      ∧ t.rd Gong.trips = fit Gong.trips (s.rd Gong.trips + 1)))
  ∧ (∀ (s : State) (i : HkIn),
      s.hkDue = true →
      s.rd (Ch.chKind s.hkChan) = 1 →
      s.rd (Ch.chStatus s.hkChan) = 0 →
      s.hkFault s.hkChan i = false →
      s.rd Gong.gongLevel = 2000 →
      2000 ≤ s.hkRead s.hkChan i →
      s.gong.prevHot = false →
      CompletesWith (.hkConversion i) s (fun t => t.gong.hotNow = true ∧ t.gong.line = s.gong.line ∧ t.rd Gong.gongState = s.rd Gong.gongState))

/-- O55. A crash with two others within 60,000,000 beats makes the processor DOWN and Zilari enter fixed mode; the ladder's contributions stand (R367, R369, R423).
Where the manual leaves a point open the clauses follow the model's choices: log 67. -/
def Obligations.ThirdCrashMakesAProcessorDown : Prop :=
  ∀ (s : State) (k : Fin 4),
    s.rd (Fp.fpState k) = 2 →
    (s.fp k).halted = false →
    s.fw.act.phase = 0 →
    s.unconfirmed = false →
    (s.crashesNow k).length = 2 →
    CompletesWith (.fpTrap k) s (fun t => t.rd (Fp.fpState k) = 5 ∧ t.rd Fw.fixedMode = 1 ∧ (t.rdN Fw.fpDown).testBit k = true ∧ t.rd (Fp.lastCause k) = 2
    ∧ t.hub.lad = s.hub.lad ∧ t.rd (Fp.restarts k) = s.rd (Fp.restarts k))

/-- O56. Outside shared mode the telemetry bucket fills at the share of the fabric slots and never holds more than 64 row slots after an HCLK (R356, R357).
Where the manual leaves a point open the clauses follow the model's choices: log 49. -/
def Obligations.TelemetryBucketIsBounded : Prop :=
  ∀ (s t : State),
    s.pending = [] →
    s.shared = false →
    step s = .next t →
    t.tel.bucket ≤ 64 * 800000 ∧ t.tel.bucket ≤ s.tel.bucket + s.rdN EnTel.fabricSlots * s.rdN EnTel.telShare * 10

/-- O57. Kettle's update and correction, five phase events, SUBMIT_A, a ring keep-alive, JTAG and the end of SOFT_RST change their own unit only (R49, R51, R132, R134, R135, R277, R279).
Where the manual leaves a point open the clauses follow the model's choices: log 45. -/
def Obligations.SensorPhaseAndPinCommandsTouchOneUnit : Prop :=
  (∀ (s : State),
      ∀ c ∈ [Instr.kettleUpdate, Instr.kettleCorrection], CompletesWith c s (fun t =>
      State.apart { t with hk := s.hk } s = s ∧ ∀ k, k ∉ levelKeys → t.rd k = s.rd k))
  ∧ (∀ (s : State) (p : Fin 96) (i : ImonIn),
      i.phase = p →
      ∀ c ∈ [Instr.zeroCurrentDecision p, Instr.stageDisable p, Instr.diodeEmulationZeroCurrent p, Instr.negativeCurrentLimit i,
      Instr.exclusionTimeout p], CompletesWith c s (fun t =>
      State.apart { t with phs := s.phs } s = s ∧ (∀ q, q ≠ p.val → t.ph q = s.ph q) ∧ ∀ k, k ∉ levelKeys → t.rd k = s.rd k))
  ∧ (∀ (s : State) (v : Word64),
      ∀ c ∈ [Instr.submitA v, Instr.ringKeepalive], CompletesWith c s (fun t =>
      State.apart { t with hub := s.hub, arb := s.arb } s = s ∧ t.arb = (if c = Instr.ringKeepalive then s.arb else (s.hostRow id).arb) ∧ t.hub.ringH = s.hub.ringH ∧ t.hub.ringM = s.hub.ringM ∧ t.hub.tags = s.hub.tags
      ∧ t.hub.lad = s.hub.lad ∧ t.hub.sched = s.hub.sched ∧ t.hub.waiting = s.hub.waiting ∧ ∀ k, k ∉ levelKeys → t.rd k = s.rd k))
  ∧ (∀ (s : State) (j : JtagIr),
      ∀ c ∈ [Instr.jtagInstruction j, Instr.softResetRelease], CompletesWith c s (fun t =>
      State.apart { t with host := s.host } s = s ∧ ∀ k, k ∉ levelKeys → t.rd k = s.rd k))

/-- O58. Six kinds of Drumline frames change the node and the subs of their port and the groups, nothing else of the machine (R302, R309, R314, R317, R321, R325, R327).
Where the manual leaves a point open the clauses follow the model's choices: log 59, log 102. -/
def Obligations.LinkFramesTouchTheirPortAndGroups : Prop :=
  (∀ (s : State) (p : Fin 4) (f : BitVec 80) (cut : Bool) (age : BitVec 12),
      ∀ c ∈ [Instr.dreqFrame p f cut age, Instr.genUpFrame p f cut age, Instr.collDownFrame p f cut age, Instr.bulkDataFrame p f cut age,
      Instr.bulkAck p f cut age, Instr.bulkNak p f cut age], CompletesWith c s (fun t =>
      State.apart { t with drum := s.drum } s = s
      ∧ ∀ k, k ∉ levelKeys → k / 256 ≠ 0x7010 + p.val → (∀ g, k ≠ Grp.gUp g ∧ k ≠ Grp.gChanges g ∧ k ≠ Grp.gDeficit g) →
      (c = Instr.collDownFrame p f cut age → k ≠ Coll.lastMode ∧ k ≠ Coll.lastFactor) →
      (c = Instr.bulkAck p f cut age → k ≠ Upd.fwdPorts) → t.rd k = s.rd k))
  ∧ (∀ (s : State) (p : Fin 4),
      ∀ c ∈ [Instr.beatSend, Instr.dreqSend p, Instr.bulkPauseEnd p], CompletesWith c s (fun t =>
      State.apart { t with drum := s.drum } s = s ∧ ∀ k, k ∉ levelKeys → t.rd k = s.rd k))

/-- O59. A telemetry window's commands change that window and its counters, a reconciliation and a snapshot the energy state, nothing else (R339, R345, R347, R349, R350, R351).
Where the manual leaves a point open the clauses follow the model's choices: log 45, log 103. -/
def Obligations.TelemetryAndEnergyCommandsLeaveTheRest : Prop :=
  (∀ (s : State) (w : Fin 15),
      ∀ c ∈ [Instr.telSampleDue w, Instr.telFlush w, Instr.telRecordIssue w],
      CompletesWith c s (fun t => State.apart { t with tel := s.tel, arb := s.arb } s = s ∧ (∀ v, v ≠ w.val → t.win v = s.win v)
      ∧ (c ≠ Instr.telRecordIssue w → t.arb = s.arb) ∧ t.tel.out = s.tel.out ∧ ∀ k, k ∉ levelKeys → k / 256 ≠ 0x8401 + w.val → k ∉ [EnTel.telDrops, EnTel.slotsUsed] → t.rd k = s.rd k))
  ∧ (∀ (s : State) (tag : BitVec 5) (e : TipWrite),
      s.tipOf tag.toNat = some e →
      ∀ c ∈ [Instr.tipCommit tag false, Instr.tipCommitError tag true],
      CompletesWith c s (fun t => State.apart { t with tel := s.tel } s = s ∧ (∀ v, v ≠ e.win → t.win v = s.win v)
      ∧ t.tel.out = s.tel.out.filter (fun x => x.tag ≠ e.tag)
      ∧ ∀ k, k ∉ levelKeys → k / 256 ≠ 0x8401 + e.win → k ∉ [EnTel.telDrops, EnTel.tipOutstanding, EnTel.tipErrors] → t.rd k = s.rd k))
  ∧ (∀ (s : State) (tag : BitVec 5),
      s.tipOf tag.toNat = none →
      ∀ c ∈ [Instr.tipCommit tag false, Instr.tipCommitError tag true],
      CompletesWith c s (fun t => State.apart t s = s ∧ ∀ k, k ∉ levelKeys → t.rd k = s.rd k))
  ∧ (∀ (s : State),
      CompletesWith .reconcile s (fun t => State.apart { t with energy := s.energy } s = s
      ∧ t.energy.pe = s.energy.pe ∧ t.energy.adj = s.energy.adj ∧ t.energy.rail = s.energy.rail ∧ t.energy.cmd = s.energy.cmd
      ∧ ∀ k, k ∉ levelKeys → (∀ n, n < 8 → k ≠ EnTel.recRatio n) → t.rd k = s.rd k))
  ∧ (∀ (s : State),
      CompletesWith .energySnapshot s (fun t => State.apart { t with energy := s.energy } s = s
      ∧ t.energy.pe = s.energy.pe ∧ t.energy.rail = s.energy.rail ∧ t.energy.qe = s.energy.qe ∧ t.energy.cmd = s.energy.cmd
      ∧ (s.energy.recDue = false → t.energy = { s.energy with snapAt := t.energy.snapAt })
      ∧ ∀ k, k ∉ levelKeys → k ∉ [EnTel.eSnap, EnTel.snapBeat] → (∀ n, k ≠ EnTel.railSnap n) → (∀ n, k ≠ PEn.peSnap n) →
      (∀ n, k ≠ QEn.qeSnap n ∧ k ≠ QEn.cmdSnap n) → t.rd k = s.rd k ∨ t.rd k = s.adjusted.rd k))

/-- O60. Gate requests change their domain, trace commands their loop, heartbeat and stop release the hang unit, IRQ writes the causes: nothing else (R52, R111, R201, R234, R235, R423, R426).
Where the manual leaves a point open the clauses follow the model's choices: log 35, log 45. -/
def Obligations.GateTraceStopAndIrqCommandsLeaveTheRest : Prop :=
  (∀ (s : State) (c : Fin 64) (b : Bool),
      ∀ i ∈ [Instr.gateCtrlRequest c, Instr.gateCtrlWithdraw c, Instr.gateAck c, Instr.fp1GateRequest c b, Instr.dcoLock c],
      CompletesWith i s (fun t => State.apart { t with dcus := s.dcus, arb := s.arb } s = s
      ∧ t.arb = (if i = Instr.gateCtrlRequest c ∨ i = Instr.gateCtrlWithdraw c then (s.hostRow id).arb else s.arb) ∧ (∀ d, d ≠ c.val → t.dcu d = s.dcu d)
      ∧ ∀ k, k ∉ levelKeys → k / 256 ≠ 0x3000 + c.val → t.rd k = s.rd k))
  ∧ (∀ (s : State) (n : Fin 8),
      ∀ i ∈ [Instr.trArm n, Instr.trForce n, Instr.trStop n, Instr.traceDone n],
      CompletesWith i s (fun t => State.apart { t with loops := s.loops, arb := s.arb } s = s
      ∧ t.arb = (if i = Instr.traceDone n then s.arb else (s.hostRow id).arb) ∧ (∀ m, m ≠ n.val → t.loop m = s.loop m)
      ∧ ∀ k, k ∉ levelKeys → k / 256 ≠ 0x4010 + n.val → t.rd k = s.rd k))
  ∧ (∀ (s : State) (v : Byte) (x : Xport),
      ∀ i ∈ [Instr.hbKick v, Instr.stopCtrlRelease x],
      CompletesWith i s (fun t => State.apart { t with hang := s.hang, host := s.host, arb := s.arb } s = s
      ∧ t.arb = (if i = Instr.hbKick v then (s.hostRow id).arb else (s.overPort x id).arb)
      ∧ ∀ k, k ∉ levelKeys → k / 256 ≠ 0xA020 → k ∉ [DictSt.lastReject, DictSt.rejectCount] → t.rd k = s.rd k))
  ∧ (∀ (s : State) (v : BitVec 16),
      ∀ i ∈ [Instr.irqClear v, Instr.irqForce v],
      CompletesWith i s (fun t => State.apart { t with host := s.host, arb := s.arb } s = s
      ∧ t.arb = (s.hostRow id).arb ∧ ∀ k, k ∉ levelKeys → k ∉ [DictSt.lastReject, DictSt.rejectCount] → t.rd k = s.rd k))
end

