-- ==== Sys2Proof/Laws/Table.lean ====
section
/-! SUPPORT. Sparse tables: reading after a replacement, and the canonical form. -/

namespace Sys2Proof.Machine

/-- A replaced key reads the new value. -/
@[simp] theorem tabGet_tabPut_same {α : Type} (d : Nat → α) (t : List (Nat × α)) (k : Nat) (v : α) :
    tabGet d (tabPut t k v) k = v := by
  induction t with
  | nil => simp [tabPut, tabGet]
  | cons e r ih =>
    obtain ⟨k', v'⟩ := e
    unfold tabPut
    split
    · simp [tabGet]
    · split
      · simp [tabGet]
      · rename_i h
        simp [tabGet, h, ih]

/-- Another key reads as before. -/
theorem tabGet_tabPut_ne {α : Type} (d : Nat → α) (t : List (Nat × α)) (k j : Nat) (v : α) (h : j ≠ k) :
    tabGet d (tabPut t k v) j = tabGet d t j := by
  induction t with
  | nil => simp [tabPut, tabGet, h]
  | cons e r ih =>
    obtain ⟨k', v'⟩ := e
    unfold tabPut
    split
    · simp [tabGet, h]
    · split
      · rename_i hk
        subst hk
        simp [tabGet, h]
      · simp [tabGet, ih]

/-- The head of a table after a replacement. -/
theorem tabPut_head {α : Type} (t : List (Nat × α)) (k : Nat) (v : α) (j : Nat)
    (hj : j < k) (h : ∀ e ∈ t.head?, j < e.1) : ∀ e ∈ (tabPut t k v).head?, j < e.1 := by
  cases t with
  | nil => simpa [tabPut] using hj
  | cons e r =>
    obtain ⟨k', v'⟩ := e
    have hk : j < k' := by simpa using h
    unfold tabPut
    split
    · simpa using hj
    · split <;> simpa using (by assumption)

/-- The canonical form of a table with an element in front. -/
theorem tabWf_cons {α : Type} (e : Nat × α) (r : List (Nat × α)) :
    tabWf (e :: r) = true ↔ (∀ x ∈ r.head?, e.1 < x.1) ∧ tabWf r = true := by
  cases r with
  | nil => simp [tabWf]
  | cons x r => simp [tabWf]

/-- A replacement keeps the canonical form. -/
theorem tabWf_tabPut {α : Type} (t : List (Nat × α)) (k : Nat) (v : α) (h : tabWf t = true) : tabWf (tabPut t k v) = true := by
  induction t with
  | nil => simp [tabPut, tabWf]
  | cons e r ih =>
    obtain ⟨k', v'⟩ := e
    have hr := (tabWf_cons _ _).1 h
    unfold tabPut
    split
    · rename_i hlt
      exact (tabWf_cons _ _).2 ⟨by simpa using hlt, h⟩
    · split
      · rename_i heq
        subst heq
        exact (tabWf_cons _ _).2 ⟨by simpa using hr.1, hr.2⟩
      · rename_i h1 h2
        exact (tabWf_cons _ _).2 ⟨tabPut_head r k v k' (by omega) (by simpa using hr.1), ih hr.2⟩

end Sys2Proof.Machine
end

