-- ==== Sys2Proof/Laws/State.lean ====
section
/-! SUPPORT. One lemma per field and update of the state (true by unfolding), so that no later proof unfolds a record update: what
each named update of Machine/Ops.lean leaves as it was. -/

namespace Sys2Proof.Machine

@[simp] theorem wr_blob (s : State) (k : Nat) (v : Int) : (s.wr k v).blob = s.blob := rfl
@[simp] theorem wr_hclk (s : State) (k : Nat) (v : Int) : (s.wr k v).hclk = s.hclk := rfl
@[simp] theorem wr_beatHclk (s : State) (k : Nat) (v : Int) : (s.wr k v).beatHclk = s.beatHclk := rfl
@[simp] theorem wr_free (s : State) (k : Nat) (v : Int) : (s.wr k v).free = s.free := rfl
@[simp] theorem wr_irqN (s : State) (k : Nat) (v : Int) : (s.wr k v).irqN = s.irqN := rfl
@[simp] theorem wr_smbAlert (s : State) (k : Nat) (v : Int) : (s.wr k v).smbAlert = s.smbAlert := rfl
@[simp] theorem wr_notify (s : State) (k : Nat) (v : Int) : (s.wr k v).notify = s.notify := rfl
@[simp] theorem wr_lostNow (s : State) (k : Nat) (v : Int) : (s.wr k v).lostNow = s.lostNow := rfl
@[simp] theorem wr_hub (s : State) (k : Nat) (v : Int) : (s.wr k v).hub = s.hub := rfl
@[simp] theorem wr_rails (s : State) (k : Nat) (v : Int) : (s.wr k v).rails = s.rails := rfl
@[simp] theorem wr_phs (s : State) (k : Nat) (v : Int) : (s.wr k v).phs = s.phs := rfl
@[simp] theorem wr_ibc (s : State) (k : Nat) (v : Int) : (s.wr k v).ibc = s.ibc := rfl
@[simp] theorem wr_loops (s : State) (k : Nat) (v : Int) : (s.wr k v).loops = s.loops := rfl
@[simp] theorem wr_snares (s : State) (k : Nat) (v : Int) : (s.wr k v).snares = s.snares := rfl
@[simp] theorem wr_upbeat (s : State) (k : Nat) (v : Int) : (s.wr k v).upbeat = s.upbeat := rfl
@[simp] theorem wr_dcus (s : State) (k : Nat) (v : Int) : (s.wr k v).dcus = s.dcus := rfl
@[simp] theorem wr_pds (s : State) (k : Nat) (v : Int) : (s.wr k v).pds = s.pds := rfl
@[simp] theorem wr_clk (s : State) (k : Nat) (v : Int) : (s.wr k v).clk = s.clk := rfl
@[simp] theorem wr_obs (s : State) (k : Nat) (v : Int) : (s.wr k v).obs = s.obs := rfl
@[simp] theorem wr_arb (s : State) (k : Nat) (v : Int) : (s.wr k v).arb = s.arb := rfl
@[simp] theorem wr_scrubAt (s : State) (k : Nat) (v : Int) : (s.wr k v).scrubAt = s.scrubAt := rfl
@[simp] theorem wr_chs (s : State) (k : Nat) (v : Int) : (s.wr k v).chs = s.chs := rfl
@[simp] theorem wr_hk (s : State) (k : Nat) (v : Int) : (s.wr k v).hk = s.hk := rfl
@[simp] theorem wr_gong (s : State) (k : Nat) (v : Int) : (s.wr k v).gong = s.gong := rfl
@[simp] theorem wr_energy (s : State) (k : Nat) (v : Int) : (s.wr k v).energy = s.energy := rfl
@[simp] theorem wr_tel (s : State) (k : Nat) (v : Int) : (s.wr k v).tel = s.tel := rfl
@[simp] theorem wr_budget (s : State) (k : Nat) (v : Int) : (s.wr k v).budget = s.budget := rfl
@[simp] theorem wr_drum (s : State) (k : Nat) (v : Int) : (s.wr k v).drum = s.drum := rfl
@[simp] theorem wr_fw (s : State) (k : Nat) (v : Int) : (s.wr k v).fw = s.fw := rfl
@[simp] theorem wr_start (s : State) (k : Nat) (v : Int) : (s.wr k v).start = s.start := rfl
@[simp] theorem wr_lfsr (s : State) (k : Nat) (v : Int) : (s.wr k v).lfsr = s.lfsr := rfl
@[simp] theorem wr_shelf (s : State) (k : Nat) (v : Int) : (s.wr k v).shelf = s.shelf := rfl
@[simp] theorem wr_chest (s : State) (k : Nat) (v : Int) : (s.wr k v).chest = s.chest := rfl
@[simp] theorem wr_hang (s : State) (k : Nat) (v : Int) : (s.wr k v).hang = s.hang := rfl
@[simp] theorem wr_host (s : State) (k : Nat) (v : Int) : (s.wr k v).host = s.host := rfl
@[simp] theorem wr_pending (s : State) (k : Nat) (v : Int) : (s.wr k v).pending = s.pending := rfl

@[simp] theorem useFree_dict (s : State) : (s.useFree).dict = s.dict := rfl
@[simp] theorem useFree_blob (s : State) : (s.useFree).blob = s.blob := rfl
@[simp] theorem useFree_hclk (s : State) : (s.useFree).hclk = s.hclk := rfl
@[simp] theorem useFree_beatHclk (s : State) : (s.useFree).beatHclk = s.beatHclk := rfl
@[simp] theorem useFree_irqN (s : State) : (s.useFree).irqN = s.irqN := rfl
@[simp] theorem useFree_smbAlert (s : State) : (s.useFree).smbAlert = s.smbAlert := rfl
@[simp] theorem useFree_notify (s : State) : (s.useFree).notify = s.notify := rfl
@[simp] theorem useFree_lostNow (s : State) : (s.useFree).lostNow = s.lostNow := rfl
@[simp] theorem useFree_hub (s : State) : (s.useFree).hub = s.hub := rfl
@[simp] theorem useFree_rails (s : State) : (s.useFree).rails = s.rails := rfl
@[simp] theorem useFree_phs (s : State) : (s.useFree).phs = s.phs := rfl
@[simp] theorem useFree_ibc (s : State) : (s.useFree).ibc = s.ibc := rfl
@[simp] theorem useFree_loops (s : State) : (s.useFree).loops = s.loops := rfl
@[simp] theorem useFree_snares (s : State) : (s.useFree).snares = s.snares := rfl
@[simp] theorem useFree_upbeat (s : State) : (s.useFree).upbeat = s.upbeat := rfl
@[simp] theorem useFree_dcus (s : State) : (s.useFree).dcus = s.dcus := rfl
@[simp] theorem useFree_pds (s : State) : (s.useFree).pds = s.pds := rfl
@[simp] theorem useFree_clk (s : State) : (s.useFree).clk = s.clk := rfl
@[simp] theorem useFree_obs (s : State) : (s.useFree).obs = s.obs := rfl
@[simp] theorem useFree_arb (s : State) : (s.useFree).arb = s.arb := rfl
@[simp] theorem useFree_scrubAt (s : State) : (s.useFree).scrubAt = s.scrubAt := rfl
@[simp] theorem useFree_chs (s : State) : (s.useFree).chs = s.chs := rfl
@[simp] theorem useFree_hk (s : State) : (s.useFree).hk = s.hk := rfl
@[simp] theorem useFree_gong (s : State) : (s.useFree).gong = s.gong := rfl
@[simp] theorem useFree_energy (s : State) : (s.useFree).energy = s.energy := rfl
@[simp] theorem useFree_tel (s : State) : (s.useFree).tel = s.tel := rfl
@[simp] theorem useFree_budget (s : State) : (s.useFree).budget = s.budget := rfl
@[simp] theorem useFree_drum (s : State) : (s.useFree).drum = s.drum := rfl
@[simp] theorem useFree_fw (s : State) : (s.useFree).fw = s.fw := rfl
@[simp] theorem useFree_start (s : State) : (s.useFree).start = s.start := rfl
@[simp] theorem useFree_lfsr (s : State) : (s.useFree).lfsr = s.lfsr := rfl
@[simp] theorem useFree_shelf (s : State) : (s.useFree).shelf = s.shelf := rfl
@[simp] theorem useFree_chest (s : State) : (s.useFree).chest = s.chest := rfl
@[simp] theorem useFree_hang (s : State) : (s.useFree).hang = s.hang := rfl
@[simp] theorem useFree_host (s : State) : (s.useFree).host = s.host := rfl
@[simp] theorem useFree_pending (s : State) : (s.useFree).pending = s.pending := rfl

@[simp] theorem setRail_dict (s : State) (n : Nat) (r : RailInt) : (s.setRail n r).dict = s.dict := rfl
@[simp] theorem setRail_blob (s : State) (n : Nat) (r : RailInt) : (s.setRail n r).blob = s.blob := rfl
@[simp] theorem setRail_hclk (s : State) (n : Nat) (r : RailInt) : (s.setRail n r).hclk = s.hclk := rfl
@[simp] theorem setRail_beatHclk (s : State) (n : Nat) (r : RailInt) : (s.setRail n r).beatHclk = s.beatHclk := rfl
@[simp] theorem setRail_free (s : State) (n : Nat) (r : RailInt) : (s.setRail n r).free = s.free := rfl
@[simp] theorem setRail_irqN (s : State) (n : Nat) (r : RailInt) : (s.setRail n r).irqN = s.irqN := rfl
@[simp] theorem setRail_smbAlert (s : State) (n : Nat) (r : RailInt) : (s.setRail n r).smbAlert = s.smbAlert := rfl
@[simp] theorem setRail_notify (s : State) (n : Nat) (r : RailInt) : (s.setRail n r).notify = s.notify := rfl
@[simp] theorem setRail_lostNow (s : State) (n : Nat) (r : RailInt) : (s.setRail n r).lostNow = s.lostNow := rfl
@[simp] theorem setRail_hub (s : State) (n : Nat) (r : RailInt) : (s.setRail n r).hub = s.hub := rfl
@[simp] theorem setRail_phs (s : State) (n : Nat) (r : RailInt) : (s.setRail n r).phs = s.phs := rfl
@[simp] theorem setRail_ibc (s : State) (n : Nat) (r : RailInt) : (s.setRail n r).ibc = s.ibc := rfl
@[simp] theorem setRail_loops (s : State) (n : Nat) (r : RailInt) : (s.setRail n r).loops = s.loops := rfl
@[simp] theorem setRail_snares (s : State) (n : Nat) (r : RailInt) : (s.setRail n r).snares = s.snares := rfl
@[simp] theorem setRail_upbeat (s : State) (n : Nat) (r : RailInt) : (s.setRail n r).upbeat = s.upbeat := rfl
@[simp] theorem setRail_dcus (s : State) (n : Nat) (r : RailInt) : (s.setRail n r).dcus = s.dcus := rfl
@[simp] theorem setRail_pds (s : State) (n : Nat) (r : RailInt) : (s.setRail n r).pds = s.pds := rfl
@[simp] theorem setRail_clk (s : State) (n : Nat) (r : RailInt) : (s.setRail n r).clk = s.clk := rfl
@[simp] theorem setRail_obs (s : State) (n : Nat) (r : RailInt) : (s.setRail n r).obs = s.obs := rfl
@[simp] theorem setRail_arb (s : State) (n : Nat) (r : RailInt) : (s.setRail n r).arb = s.arb := rfl
@[simp] theorem setRail_scrubAt (s : State) (n : Nat) (r : RailInt) : (s.setRail n r).scrubAt = s.scrubAt := rfl
@[simp] theorem setRail_chs (s : State) (n : Nat) (r : RailInt) : (s.setRail n r).chs = s.chs := rfl
@[simp] theorem setRail_hk (s : State) (n : Nat) (r : RailInt) : (s.setRail n r).hk = s.hk := rfl
@[simp] theorem setRail_gong (s : State) (n : Nat) (r : RailInt) : (s.setRail n r).gong = s.gong := rfl
@[simp] theorem setRail_energy (s : State) (n : Nat) (r : RailInt) : (s.setRail n r).energy = s.energy := rfl
@[simp] theorem setRail_tel (s : State) (n : Nat) (r : RailInt) : (s.setRail n r).tel = s.tel := rfl
@[simp] theorem setRail_budget (s : State) (n : Nat) (r : RailInt) : (s.setRail n r).budget = s.budget := rfl
@[simp] theorem setRail_drum (s : State) (n : Nat) (r : RailInt) : (s.setRail n r).drum = s.drum := rfl
@[simp] theorem setRail_fw (s : State) (n : Nat) (r : RailInt) : (s.setRail n r).fw = s.fw := rfl
@[simp] theorem setRail_start (s : State) (n : Nat) (r : RailInt) : (s.setRail n r).start = s.start := rfl
@[simp] theorem setRail_lfsr (s : State) (n : Nat) (r : RailInt) : (s.setRail n r).lfsr = s.lfsr := rfl
@[simp] theorem setRail_shelf (s : State) (n : Nat) (r : RailInt) : (s.setRail n r).shelf = s.shelf := rfl
@[simp] theorem setRail_chest (s : State) (n : Nat) (r : RailInt) : (s.setRail n r).chest = s.chest := rfl
@[simp] theorem setRail_hang (s : State) (n : Nat) (r : RailInt) : (s.setRail n r).hang = s.hang := rfl
@[simp] theorem setRail_host (s : State) (n : Nat) (r : RailInt) : (s.setRail n r).host = s.host := rfl
@[simp] theorem setRail_pending (s : State) (n : Nat) (r : RailInt) : (s.setRail n r).pending = s.pending := rfl

@[simp] theorem setPh_dict (s : State) (n : Nat) (r : PhInt) : (s.setPh n r).dict = s.dict := rfl
@[simp] theorem setPh_blob (s : State) (n : Nat) (r : PhInt) : (s.setPh n r).blob = s.blob := rfl
@[simp] theorem setPh_hclk (s : State) (n : Nat) (r : PhInt) : (s.setPh n r).hclk = s.hclk := rfl
@[simp] theorem setPh_beatHclk (s : State) (n : Nat) (r : PhInt) : (s.setPh n r).beatHclk = s.beatHclk := rfl
@[simp] theorem setPh_free (s : State) (n : Nat) (r : PhInt) : (s.setPh n r).free = s.free := rfl
@[simp] theorem setPh_irqN (s : State) (n : Nat) (r : PhInt) : (s.setPh n r).irqN = s.irqN := rfl
@[simp] theorem setPh_smbAlert (s : State) (n : Nat) (r : PhInt) : (s.setPh n r).smbAlert = s.smbAlert := rfl
@[simp] theorem setPh_notify (s : State) (n : Nat) (r : PhInt) : (s.setPh n r).notify = s.notify := rfl
@[simp] theorem setPh_lostNow (s : State) (n : Nat) (r : PhInt) : (s.setPh n r).lostNow = s.lostNow := rfl
@[simp] theorem setPh_hub (s : State) (n : Nat) (r : PhInt) : (s.setPh n r).hub = s.hub := rfl
@[simp] theorem setPh_rails (s : State) (n : Nat) (r : PhInt) : (s.setPh n r).rails = s.rails := rfl
@[simp] theorem setPh_ibc (s : State) (n : Nat) (r : PhInt) : (s.setPh n r).ibc = s.ibc := rfl
@[simp] theorem setPh_loops (s : State) (n : Nat) (r : PhInt) : (s.setPh n r).loops = s.loops := rfl
@[simp] theorem setPh_snares (s : State) (n : Nat) (r : PhInt) : (s.setPh n r).snares = s.snares := rfl
@[simp] theorem setPh_upbeat (s : State) (n : Nat) (r : PhInt) : (s.setPh n r).upbeat = s.upbeat := rfl
@[simp] theorem setPh_dcus (s : State) (n : Nat) (r : PhInt) : (s.setPh n r).dcus = s.dcus := rfl
@[simp] theorem setPh_pds (s : State) (n : Nat) (r : PhInt) : (s.setPh n r).pds = s.pds := rfl
@[simp] theorem setPh_clk (s : State) (n : Nat) (r : PhInt) : (s.setPh n r).clk = s.clk := rfl
@[simp] theorem setPh_obs (s : State) (n : Nat) (r : PhInt) : (s.setPh n r).obs = s.obs := rfl
@[simp] theorem setPh_arb (s : State) (n : Nat) (r : PhInt) : (s.setPh n r).arb = s.arb := rfl
@[simp] theorem setPh_scrubAt (s : State) (n : Nat) (r : PhInt) : (s.setPh n r).scrubAt = s.scrubAt := rfl
@[simp] theorem setPh_chs (s : State) (n : Nat) (r : PhInt) : (s.setPh n r).chs = s.chs := rfl
@[simp] theorem setPh_hk (s : State) (n : Nat) (r : PhInt) : (s.setPh n r).hk = s.hk := rfl
@[simp] theorem setPh_gong (s : State) (n : Nat) (r : PhInt) : (s.setPh n r).gong = s.gong := rfl
@[simp] theorem setPh_energy (s : State) (n : Nat) (r : PhInt) : (s.setPh n r).energy = s.energy := rfl
@[simp] theorem setPh_tel (s : State) (n : Nat) (r : PhInt) : (s.setPh n r).tel = s.tel := rfl
@[simp] theorem setPh_budget (s : State) (n : Nat) (r : PhInt) : (s.setPh n r).budget = s.budget := rfl
@[simp] theorem setPh_drum (s : State) (n : Nat) (r : PhInt) : (s.setPh n r).drum = s.drum := rfl
@[simp] theorem setPh_fw (s : State) (n : Nat) (r : PhInt) : (s.setPh n r).fw = s.fw := rfl
@[simp] theorem setPh_start (s : State) (n : Nat) (r : PhInt) : (s.setPh n r).start = s.start := rfl
@[simp] theorem setPh_lfsr (s : State) (n : Nat) (r : PhInt) : (s.setPh n r).lfsr = s.lfsr := rfl
@[simp] theorem setPh_shelf (s : State) (n : Nat) (r : PhInt) : (s.setPh n r).shelf = s.shelf := rfl
@[simp] theorem setPh_chest (s : State) (n : Nat) (r : PhInt) : (s.setPh n r).chest = s.chest := rfl
@[simp] theorem setPh_hang (s : State) (n : Nat) (r : PhInt) : (s.setPh n r).hang = s.hang := rfl
@[simp] theorem setPh_host (s : State) (n : Nat) (r : PhInt) : (s.setPh n r).host = s.host := rfl
@[simp] theorem setPh_pending (s : State) (n : Nat) (r : PhInt) : (s.setPh n r).pending = s.pending := rfl

@[simp] theorem setLoop_dict (s : State) (n : Nat) (r : LoopInt) : (s.setLoop n r).dict = s.dict := rfl
@[simp] theorem setLoop_blob (s : State) (n : Nat) (r : LoopInt) : (s.setLoop n r).blob = s.blob := rfl
@[simp] theorem setLoop_hclk (s : State) (n : Nat) (r : LoopInt) : (s.setLoop n r).hclk = s.hclk := rfl
@[simp] theorem setLoop_beatHclk (s : State) (n : Nat) (r : LoopInt) : (s.setLoop n r).beatHclk = s.beatHclk := rfl
@[simp] theorem setLoop_free (s : State) (n : Nat) (r : LoopInt) : (s.setLoop n r).free = s.free := rfl
@[simp] theorem setLoop_irqN (s : State) (n : Nat) (r : LoopInt) : (s.setLoop n r).irqN = s.irqN := rfl
@[simp] theorem setLoop_smbAlert (s : State) (n : Nat) (r : LoopInt) : (s.setLoop n r).smbAlert = s.smbAlert := rfl
@[simp] theorem setLoop_notify (s : State) (n : Nat) (r : LoopInt) : (s.setLoop n r).notify = s.notify := rfl
@[simp] theorem setLoop_lostNow (s : State) (n : Nat) (r : LoopInt) : (s.setLoop n r).lostNow = s.lostNow := rfl
@[simp] theorem setLoop_hub (s : State) (n : Nat) (r : LoopInt) : (s.setLoop n r).hub = s.hub := rfl
@[simp] theorem setLoop_rails (s : State) (n : Nat) (r : LoopInt) : (s.setLoop n r).rails = s.rails := rfl
@[simp] theorem setLoop_phs (s : State) (n : Nat) (r : LoopInt) : (s.setLoop n r).phs = s.phs := rfl
@[simp] theorem setLoop_ibc (s : State) (n : Nat) (r : LoopInt) : (s.setLoop n r).ibc = s.ibc := rfl
@[simp] theorem setLoop_snares (s : State) (n : Nat) (r : LoopInt) : (s.setLoop n r).snares = s.snares := rfl
@[simp] theorem setLoop_upbeat (s : State) (n : Nat) (r : LoopInt) : (s.setLoop n r).upbeat = s.upbeat := rfl
@[simp] theorem setLoop_dcus (s : State) (n : Nat) (r : LoopInt) : (s.setLoop n r).dcus = s.dcus := rfl
@[simp] theorem setLoop_pds (s : State) (n : Nat) (r : LoopInt) : (s.setLoop n r).pds = s.pds := rfl
@[simp] theorem setLoop_clk (s : State) (n : Nat) (r : LoopInt) : (s.setLoop n r).clk = s.clk := rfl
@[simp] theorem setLoop_obs (s : State) (n : Nat) (r : LoopInt) : (s.setLoop n r).obs = s.obs := rfl
@[simp] theorem setLoop_arb (s : State) (n : Nat) (r : LoopInt) : (s.setLoop n r).arb = s.arb := rfl
@[simp] theorem setLoop_scrubAt (s : State) (n : Nat) (r : LoopInt) : (s.setLoop n r).scrubAt = s.scrubAt := rfl
@[simp] theorem setLoop_chs (s : State) (n : Nat) (r : LoopInt) : (s.setLoop n r).chs = s.chs := rfl
@[simp] theorem setLoop_hk (s : State) (n : Nat) (r : LoopInt) : (s.setLoop n r).hk = s.hk := rfl
@[simp] theorem setLoop_gong (s : State) (n : Nat) (r : LoopInt) : (s.setLoop n r).gong = s.gong := rfl
@[simp] theorem setLoop_energy (s : State) (n : Nat) (r : LoopInt) : (s.setLoop n r).energy = s.energy := rfl
@[simp] theorem setLoop_tel (s : State) (n : Nat) (r : LoopInt) : (s.setLoop n r).tel = s.tel := rfl
@[simp] theorem setLoop_budget (s : State) (n : Nat) (r : LoopInt) : (s.setLoop n r).budget = s.budget := rfl
@[simp] theorem setLoop_drum (s : State) (n : Nat) (r : LoopInt) : (s.setLoop n r).drum = s.drum := rfl
@[simp] theorem setLoop_fw (s : State) (n : Nat) (r : LoopInt) : (s.setLoop n r).fw = s.fw := rfl
@[simp] theorem setLoop_start (s : State) (n : Nat) (r : LoopInt) : (s.setLoop n r).start = s.start := rfl
@[simp] theorem setLoop_lfsr (s : State) (n : Nat) (r : LoopInt) : (s.setLoop n r).lfsr = s.lfsr := rfl
@[simp] theorem setLoop_shelf (s : State) (n : Nat) (r : LoopInt) : (s.setLoop n r).shelf = s.shelf := rfl
@[simp] theorem setLoop_chest (s : State) (n : Nat) (r : LoopInt) : (s.setLoop n r).chest = s.chest := rfl
@[simp] theorem setLoop_hang (s : State) (n : Nat) (r : LoopInt) : (s.setLoop n r).hang = s.hang := rfl
@[simp] theorem setLoop_host (s : State) (n : Nat) (r : LoopInt) : (s.setLoop n r).host = s.host := rfl
@[simp] theorem setLoop_pending (s : State) (n : Nat) (r : LoopInt) : (s.setLoop n r).pending = s.pending := rfl

@[simp] theorem setSnare_dict (s : State) (n : Nat) (r : SnareInt) : (s.setSnare n r).dict = s.dict := rfl
@[simp] theorem setSnare_blob (s : State) (n : Nat) (r : SnareInt) : (s.setSnare n r).blob = s.blob := rfl
@[simp] theorem setSnare_hclk (s : State) (n : Nat) (r : SnareInt) : (s.setSnare n r).hclk = s.hclk := rfl
@[simp] theorem setSnare_beatHclk (s : State) (n : Nat) (r : SnareInt) : (s.setSnare n r).beatHclk = s.beatHclk := rfl
@[simp] theorem setSnare_free (s : State) (n : Nat) (r : SnareInt) : (s.setSnare n r).free = s.free := rfl
@[simp] theorem setSnare_irqN (s : State) (n : Nat) (r : SnareInt) : (s.setSnare n r).irqN = s.irqN := rfl
@[simp] theorem setSnare_smbAlert (s : State) (n : Nat) (r : SnareInt) : (s.setSnare n r).smbAlert = s.smbAlert := rfl
@[simp] theorem setSnare_notify (s : State) (n : Nat) (r : SnareInt) : (s.setSnare n r).notify = s.notify := rfl
@[simp] theorem setSnare_lostNow (s : State) (n : Nat) (r : SnareInt) : (s.setSnare n r).lostNow = s.lostNow := rfl
@[simp] theorem setSnare_hub (s : State) (n : Nat) (r : SnareInt) : (s.setSnare n r).hub = s.hub := rfl
@[simp] theorem setSnare_rails (s : State) (n : Nat) (r : SnareInt) : (s.setSnare n r).rails = s.rails := rfl
@[simp] theorem setSnare_phs (s : State) (n : Nat) (r : SnareInt) : (s.setSnare n r).phs = s.phs := rfl
@[simp] theorem setSnare_ibc (s : State) (n : Nat) (r : SnareInt) : (s.setSnare n r).ibc = s.ibc := rfl
@[simp] theorem setSnare_loops (s : State) (n : Nat) (r : SnareInt) : (s.setSnare n r).loops = s.loops := rfl
@[simp] theorem setSnare_upbeat (s : State) (n : Nat) (r : SnareInt) : (s.setSnare n r).upbeat = s.upbeat := rfl
@[simp] theorem setSnare_dcus (s : State) (n : Nat) (r : SnareInt) : (s.setSnare n r).dcus = s.dcus := rfl
@[simp] theorem setSnare_pds (s : State) (n : Nat) (r : SnareInt) : (s.setSnare n r).pds = s.pds := rfl
@[simp] theorem setSnare_clk (s : State) (n : Nat) (r : SnareInt) : (s.setSnare n r).clk = s.clk := rfl
@[simp] theorem setSnare_obs (s : State) (n : Nat) (r : SnareInt) : (s.setSnare n r).obs = s.obs := rfl
@[simp] theorem setSnare_arb (s : State) (n : Nat) (r : SnareInt) : (s.setSnare n r).arb = s.arb := rfl
@[simp] theorem setSnare_scrubAt (s : State) (n : Nat) (r : SnareInt) : (s.setSnare n r).scrubAt = s.scrubAt := rfl
@[simp] theorem setSnare_chs (s : State) (n : Nat) (r : SnareInt) : (s.setSnare n r).chs = s.chs := rfl
@[simp] theorem setSnare_hk (s : State) (n : Nat) (r : SnareInt) : (s.setSnare n r).hk = s.hk := rfl
@[simp] theorem setSnare_gong (s : State) (n : Nat) (r : SnareInt) : (s.setSnare n r).gong = s.gong := rfl
@[simp] theorem setSnare_energy (s : State) (n : Nat) (r : SnareInt) : (s.setSnare n r).energy = s.energy := rfl
@[simp] theorem setSnare_tel (s : State) (n : Nat) (r : SnareInt) : (s.setSnare n r).tel = s.tel := rfl
@[simp] theorem setSnare_budget (s : State) (n : Nat) (r : SnareInt) : (s.setSnare n r).budget = s.budget := rfl
@[simp] theorem setSnare_drum (s : State) (n : Nat) (r : SnareInt) : (s.setSnare n r).drum = s.drum := rfl
@[simp] theorem setSnare_fw (s : State) (n : Nat) (r : SnareInt) : (s.setSnare n r).fw = s.fw := rfl
@[simp] theorem setSnare_start (s : State) (n : Nat) (r : SnareInt) : (s.setSnare n r).start = s.start := rfl
@[simp] theorem setSnare_lfsr (s : State) (n : Nat) (r : SnareInt) : (s.setSnare n r).lfsr = s.lfsr := rfl
@[simp] theorem setSnare_shelf (s : State) (n : Nat) (r : SnareInt) : (s.setSnare n r).shelf = s.shelf := rfl
@[simp] theorem setSnare_chest (s : State) (n : Nat) (r : SnareInt) : (s.setSnare n r).chest = s.chest := rfl
@[simp] theorem setSnare_hang (s : State) (n : Nat) (r : SnareInt) : (s.setSnare n r).hang = s.hang := rfl
@[simp] theorem setSnare_host (s : State) (n : Nat) (r : SnareInt) : (s.setSnare n r).host = s.host := rfl
@[simp] theorem setSnare_pending (s : State) (n : Nat) (r : SnareInt) : (s.setSnare n r).pending = s.pending := rfl

@[simp] theorem setDcu_dict (s : State) (n : Nat) (r : DcuInt) : (s.setDcu n r).dict = s.dict := rfl
@[simp] theorem setDcu_blob (s : State) (n : Nat) (r : DcuInt) : (s.setDcu n r).blob = s.blob := rfl
@[simp] theorem setDcu_hclk (s : State) (n : Nat) (r : DcuInt) : (s.setDcu n r).hclk = s.hclk := rfl
@[simp] theorem setDcu_beatHclk (s : State) (n : Nat) (r : DcuInt) : (s.setDcu n r).beatHclk = s.beatHclk := rfl
@[simp] theorem setDcu_free (s : State) (n : Nat) (r : DcuInt) : (s.setDcu n r).free = s.free := rfl
@[simp] theorem setDcu_irqN (s : State) (n : Nat) (r : DcuInt) : (s.setDcu n r).irqN = s.irqN := rfl
@[simp] theorem setDcu_smbAlert (s : State) (n : Nat) (r : DcuInt) : (s.setDcu n r).smbAlert = s.smbAlert := rfl
@[simp] theorem setDcu_notify (s : State) (n : Nat) (r : DcuInt) : (s.setDcu n r).notify = s.notify := rfl
@[simp] theorem setDcu_lostNow (s : State) (n : Nat) (r : DcuInt) : (s.setDcu n r).lostNow = s.lostNow := rfl
@[simp] theorem setDcu_hub (s : State) (n : Nat) (r : DcuInt) : (s.setDcu n r).hub = s.hub := rfl
@[simp] theorem setDcu_rails (s : State) (n : Nat) (r : DcuInt) : (s.setDcu n r).rails = s.rails := rfl
@[simp] theorem setDcu_phs (s : State) (n : Nat) (r : DcuInt) : (s.setDcu n r).phs = s.phs := rfl
@[simp] theorem setDcu_ibc (s : State) (n : Nat) (r : DcuInt) : (s.setDcu n r).ibc = s.ibc := rfl
@[simp] theorem setDcu_loops (s : State) (n : Nat) (r : DcuInt) : (s.setDcu n r).loops = s.loops := rfl
@[simp] theorem setDcu_snares (s : State) (n : Nat) (r : DcuInt) : (s.setDcu n r).snares = s.snares := rfl
@[simp] theorem setDcu_upbeat (s : State) (n : Nat) (r : DcuInt) : (s.setDcu n r).upbeat = s.upbeat := rfl
@[simp] theorem setDcu_pds (s : State) (n : Nat) (r : DcuInt) : (s.setDcu n r).pds = s.pds := rfl
@[simp] theorem setDcu_clk (s : State) (n : Nat) (r : DcuInt) : (s.setDcu n r).clk = s.clk := rfl
@[simp] theorem setDcu_obs (s : State) (n : Nat) (r : DcuInt) : (s.setDcu n r).obs = s.obs := rfl
@[simp] theorem setDcu_arb (s : State) (n : Nat) (r : DcuInt) : (s.setDcu n r).arb = s.arb := rfl
@[simp] theorem setDcu_scrubAt (s : State) (n : Nat) (r : DcuInt) : (s.setDcu n r).scrubAt = s.scrubAt := rfl
@[simp] theorem setDcu_chs (s : State) (n : Nat) (r : DcuInt) : (s.setDcu n r).chs = s.chs := rfl
@[simp] theorem setDcu_hk (s : State) (n : Nat) (r : DcuInt) : (s.setDcu n r).hk = s.hk := rfl
@[simp] theorem setDcu_gong (s : State) (n : Nat) (r : DcuInt) : (s.setDcu n r).gong = s.gong := rfl
@[simp] theorem setDcu_energy (s : State) (n : Nat) (r : DcuInt) : (s.setDcu n r).energy = s.energy := rfl
@[simp] theorem setDcu_tel (s : State) (n : Nat) (r : DcuInt) : (s.setDcu n r).tel = s.tel := rfl
@[simp] theorem setDcu_budget (s : State) (n : Nat) (r : DcuInt) : (s.setDcu n r).budget = s.budget := rfl
@[simp] theorem setDcu_drum (s : State) (n : Nat) (r : DcuInt) : (s.setDcu n r).drum = s.drum := rfl
@[simp] theorem setDcu_fw (s : State) (n : Nat) (r : DcuInt) : (s.setDcu n r).fw = s.fw := rfl
@[simp] theorem setDcu_start (s : State) (n : Nat) (r : DcuInt) : (s.setDcu n r).start = s.start := rfl
@[simp] theorem setDcu_lfsr (s : State) (n : Nat) (r : DcuInt) : (s.setDcu n r).lfsr = s.lfsr := rfl
@[simp] theorem setDcu_shelf (s : State) (n : Nat) (r : DcuInt) : (s.setDcu n r).shelf = s.shelf := rfl
@[simp] theorem setDcu_chest (s : State) (n : Nat) (r : DcuInt) : (s.setDcu n r).chest = s.chest := rfl
@[simp] theorem setDcu_hang (s : State) (n : Nat) (r : DcuInt) : (s.setDcu n r).hang = s.hang := rfl
@[simp] theorem setDcu_host (s : State) (n : Nat) (r : DcuInt) : (s.setDcu n r).host = s.host := rfl
@[simp] theorem setDcu_pending (s : State) (n : Nat) (r : DcuInt) : (s.setDcu n r).pending = s.pending := rfl

@[simp] theorem setPd_dict (s : State) (n : Nat) (r : PdInt) : (s.setPd n r).dict = s.dict := rfl
@[simp] theorem setPd_blob (s : State) (n : Nat) (r : PdInt) : (s.setPd n r).blob = s.blob := rfl
@[simp] theorem setPd_hclk (s : State) (n : Nat) (r : PdInt) : (s.setPd n r).hclk = s.hclk := rfl
@[simp] theorem setPd_beatHclk (s : State) (n : Nat) (r : PdInt) : (s.setPd n r).beatHclk = s.beatHclk := rfl
@[simp] theorem setPd_free (s : State) (n : Nat) (r : PdInt) : (s.setPd n r).free = s.free := rfl
@[simp] theorem setPd_irqN (s : State) (n : Nat) (r : PdInt) : (s.setPd n r).irqN = s.irqN := rfl
@[simp] theorem setPd_smbAlert (s : State) (n : Nat) (r : PdInt) : (s.setPd n r).smbAlert = s.smbAlert := rfl
@[simp] theorem setPd_notify (s : State) (n : Nat) (r : PdInt) : (s.setPd n r).notify = s.notify := rfl
@[simp] theorem setPd_lostNow (s : State) (n : Nat) (r : PdInt) : (s.setPd n r).lostNow = s.lostNow := rfl
@[simp] theorem setPd_hub (s : State) (n : Nat) (r : PdInt) : (s.setPd n r).hub = s.hub := rfl
@[simp] theorem setPd_rails (s : State) (n : Nat) (r : PdInt) : (s.setPd n r).rails = s.rails := rfl
@[simp] theorem setPd_phs (s : State) (n : Nat) (r : PdInt) : (s.setPd n r).phs = s.phs := rfl
@[simp] theorem setPd_ibc (s : State) (n : Nat) (r : PdInt) : (s.setPd n r).ibc = s.ibc := rfl
@[simp] theorem setPd_loops (s : State) (n : Nat) (r : PdInt) : (s.setPd n r).loops = s.loops := rfl
@[simp] theorem setPd_snares (s : State) (n : Nat) (r : PdInt) : (s.setPd n r).snares = s.snares := rfl
@[simp] theorem setPd_upbeat (s : State) (n : Nat) (r : PdInt) : (s.setPd n r).upbeat = s.upbeat := rfl
@[simp] theorem setPd_dcus (s : State) (n : Nat) (r : PdInt) : (s.setPd n r).dcus = s.dcus := rfl
@[simp] theorem setPd_clk (s : State) (n : Nat) (r : PdInt) : (s.setPd n r).clk = s.clk := rfl
@[simp] theorem setPd_obs (s : State) (n : Nat) (r : PdInt) : (s.setPd n r).obs = s.obs := rfl
@[simp] theorem setPd_arb (s : State) (n : Nat) (r : PdInt) : (s.setPd n r).arb = s.arb := rfl
@[simp] theorem setPd_scrubAt (s : State) (n : Nat) (r : PdInt) : (s.setPd n r).scrubAt = s.scrubAt := rfl
@[simp] theorem setPd_chs (s : State) (n : Nat) (r : PdInt) : (s.setPd n r).chs = s.chs := rfl
@[simp] theorem setPd_hk (s : State) (n : Nat) (r : PdInt) : (s.setPd n r).hk = s.hk := rfl
@[simp] theorem setPd_gong (s : State) (n : Nat) (r : PdInt) : (s.setPd n r).gong = s.gong := rfl
@[simp] theorem setPd_energy (s : State) (n : Nat) (r : PdInt) : (s.setPd n r).energy = s.energy := rfl
@[simp] theorem setPd_tel (s : State) (n : Nat) (r : PdInt) : (s.setPd n r).tel = s.tel := rfl
@[simp] theorem setPd_budget (s : State) (n : Nat) (r : PdInt) : (s.setPd n r).budget = s.budget := rfl
@[simp] theorem setPd_drum (s : State) (n : Nat) (r : PdInt) : (s.setPd n r).drum = s.drum := rfl
@[simp] theorem setPd_fw (s : State) (n : Nat) (r : PdInt) : (s.setPd n r).fw = s.fw := rfl
@[simp] theorem setPd_start (s : State) (n : Nat) (r : PdInt) : (s.setPd n r).start = s.start := rfl
@[simp] theorem setPd_lfsr (s : State) (n : Nat) (r : PdInt) : (s.setPd n r).lfsr = s.lfsr := rfl
@[simp] theorem setPd_shelf (s : State) (n : Nat) (r : PdInt) : (s.setPd n r).shelf = s.shelf := rfl
@[simp] theorem setPd_chest (s : State) (n : Nat) (r : PdInt) : (s.setPd n r).chest = s.chest := rfl
@[simp] theorem setPd_hang (s : State) (n : Nat) (r : PdInt) : (s.setPd n r).hang = s.hang := rfl
@[simp] theorem setPd_host (s : State) (n : Nat) (r : PdInt) : (s.setPd n r).host = s.host := rfl
@[simp] theorem setPd_pending (s : State) (n : Nat) (r : PdInt) : (s.setPd n r).pending = s.pending := rfl

@[simp] theorem setCh_dict (s : State) (n : Nat) (r : ChInt) : (s.setCh n r).dict = s.dict := rfl
@[simp] theorem setCh_blob (s : State) (n : Nat) (r : ChInt) : (s.setCh n r).blob = s.blob := rfl
@[simp] theorem setCh_hclk (s : State) (n : Nat) (r : ChInt) : (s.setCh n r).hclk = s.hclk := rfl
@[simp] theorem setCh_beatHclk (s : State) (n : Nat) (r : ChInt) : (s.setCh n r).beatHclk = s.beatHclk := rfl
@[simp] theorem setCh_free (s : State) (n : Nat) (r : ChInt) : (s.setCh n r).free = s.free := rfl
@[simp] theorem setCh_irqN (s : State) (n : Nat) (r : ChInt) : (s.setCh n r).irqN = s.irqN := rfl
@[simp] theorem setCh_smbAlert (s : State) (n : Nat) (r : ChInt) : (s.setCh n r).smbAlert = s.smbAlert := rfl
@[simp] theorem setCh_notify (s : State) (n : Nat) (r : ChInt) : (s.setCh n r).notify = s.notify := rfl
@[simp] theorem setCh_lostNow (s : State) (n : Nat) (r : ChInt) : (s.setCh n r).lostNow = s.lostNow := rfl
@[simp] theorem setCh_hub (s : State) (n : Nat) (r : ChInt) : (s.setCh n r).hub = s.hub := rfl
@[simp] theorem setCh_rails (s : State) (n : Nat) (r : ChInt) : (s.setCh n r).rails = s.rails := rfl
@[simp] theorem setCh_phs (s : State) (n : Nat) (r : ChInt) : (s.setCh n r).phs = s.phs := rfl
@[simp] theorem setCh_ibc (s : State) (n : Nat) (r : ChInt) : (s.setCh n r).ibc = s.ibc := rfl
@[simp] theorem setCh_loops (s : State) (n : Nat) (r : ChInt) : (s.setCh n r).loops = s.loops := rfl
@[simp] theorem setCh_snares (s : State) (n : Nat) (r : ChInt) : (s.setCh n r).snares = s.snares := rfl
@[simp] theorem setCh_upbeat (s : State) (n : Nat) (r : ChInt) : (s.setCh n r).upbeat = s.upbeat := rfl
@[simp] theorem setCh_dcus (s : State) (n : Nat) (r : ChInt) : (s.setCh n r).dcus = s.dcus := rfl
@[simp] theorem setCh_pds (s : State) (n : Nat) (r : ChInt) : (s.setCh n r).pds = s.pds := rfl
@[simp] theorem setCh_clk (s : State) (n : Nat) (r : ChInt) : (s.setCh n r).clk = s.clk := rfl
@[simp] theorem setCh_obs (s : State) (n : Nat) (r : ChInt) : (s.setCh n r).obs = s.obs := rfl
@[simp] theorem setCh_arb (s : State) (n : Nat) (r : ChInt) : (s.setCh n r).arb = s.arb := rfl
@[simp] theorem setCh_scrubAt (s : State) (n : Nat) (r : ChInt) : (s.setCh n r).scrubAt = s.scrubAt := rfl
@[simp] theorem setCh_hk (s : State) (n : Nat) (r : ChInt) : (s.setCh n r).hk = s.hk := rfl
@[simp] theorem setCh_gong (s : State) (n : Nat) (r : ChInt) : (s.setCh n r).gong = s.gong := rfl
@[simp] theorem setCh_energy (s : State) (n : Nat) (r : ChInt) : (s.setCh n r).energy = s.energy := rfl
@[simp] theorem setCh_tel (s : State) (n : Nat) (r : ChInt) : (s.setCh n r).tel = s.tel := rfl
@[simp] theorem setCh_budget (s : State) (n : Nat) (r : ChInt) : (s.setCh n r).budget = s.budget := rfl
@[simp] theorem setCh_drum (s : State) (n : Nat) (r : ChInt) : (s.setCh n r).drum = s.drum := rfl
@[simp] theorem setCh_fw (s : State) (n : Nat) (r : ChInt) : (s.setCh n r).fw = s.fw := rfl
@[simp] theorem setCh_start (s : State) (n : Nat) (r : ChInt) : (s.setCh n r).start = s.start := rfl
@[simp] theorem setCh_lfsr (s : State) (n : Nat) (r : ChInt) : (s.setCh n r).lfsr = s.lfsr := rfl
@[simp] theorem setCh_shelf (s : State) (n : Nat) (r : ChInt) : (s.setCh n r).shelf = s.shelf := rfl
@[simp] theorem setCh_chest (s : State) (n : Nat) (r : ChInt) : (s.setCh n r).chest = s.chest := rfl
@[simp] theorem setCh_hang (s : State) (n : Nat) (r : ChInt) : (s.setCh n r).hang = s.hang := rfl
@[simp] theorem setCh_host (s : State) (n : Nat) (r : ChInt) : (s.setCh n r).host = s.host := rfl
@[simp] theorem setCh_pending (s : State) (n : Nat) (r : ChInt) : (s.setCh n r).pending = s.pending := rfl

@[simp] theorem setSat_dict (s : State) (n : Nat) (r : SatInt) : (s.setSat n r).dict = s.dict := rfl
@[simp] theorem setSat_blob (s : State) (n : Nat) (r : SatInt) : (s.setSat n r).blob = s.blob := rfl
@[simp] theorem setSat_hclk (s : State) (n : Nat) (r : SatInt) : (s.setSat n r).hclk = s.hclk := rfl
@[simp] theorem setSat_beatHclk (s : State) (n : Nat) (r : SatInt) : (s.setSat n r).beatHclk = s.beatHclk := rfl
@[simp] theorem setSat_free (s : State) (n : Nat) (r : SatInt) : (s.setSat n r).free = s.free := rfl
@[simp] theorem setSat_irqN (s : State) (n : Nat) (r : SatInt) : (s.setSat n r).irqN = s.irqN := rfl
@[simp] theorem setSat_smbAlert (s : State) (n : Nat) (r : SatInt) : (s.setSat n r).smbAlert = s.smbAlert := rfl
@[simp] theorem setSat_notify (s : State) (n : Nat) (r : SatInt) : (s.setSat n r).notify = s.notify := rfl
@[simp] theorem setSat_lostNow (s : State) (n : Nat) (r : SatInt) : (s.setSat n r).lostNow = s.lostNow := rfl
@[simp] theorem setSat_rails (s : State) (n : Nat) (r : SatInt) : (s.setSat n r).rails = s.rails := rfl
@[simp] theorem setSat_phs (s : State) (n : Nat) (r : SatInt) : (s.setSat n r).phs = s.phs := rfl
@[simp] theorem setSat_ibc (s : State) (n : Nat) (r : SatInt) : (s.setSat n r).ibc = s.ibc := rfl
@[simp] theorem setSat_loops (s : State) (n : Nat) (r : SatInt) : (s.setSat n r).loops = s.loops := rfl
@[simp] theorem setSat_snares (s : State) (n : Nat) (r : SatInt) : (s.setSat n r).snares = s.snares := rfl
@[simp] theorem setSat_upbeat (s : State) (n : Nat) (r : SatInt) : (s.setSat n r).upbeat = s.upbeat := rfl
@[simp] theorem setSat_dcus (s : State) (n : Nat) (r : SatInt) : (s.setSat n r).dcus = s.dcus := rfl
@[simp] theorem setSat_pds (s : State) (n : Nat) (r : SatInt) : (s.setSat n r).pds = s.pds := rfl
@[simp] theorem setSat_clk (s : State) (n : Nat) (r : SatInt) : (s.setSat n r).clk = s.clk := rfl
@[simp] theorem setSat_obs (s : State) (n : Nat) (r : SatInt) : (s.setSat n r).obs = s.obs := rfl
@[simp] theorem setSat_arb (s : State) (n : Nat) (r : SatInt) : (s.setSat n r).arb = s.arb := rfl
@[simp] theorem setSat_scrubAt (s : State) (n : Nat) (r : SatInt) : (s.setSat n r).scrubAt = s.scrubAt := rfl
@[simp] theorem setSat_chs (s : State) (n : Nat) (r : SatInt) : (s.setSat n r).chs = s.chs := rfl
@[simp] theorem setSat_hk (s : State) (n : Nat) (r : SatInt) : (s.setSat n r).hk = s.hk := rfl
@[simp] theorem setSat_gong (s : State) (n : Nat) (r : SatInt) : (s.setSat n r).gong = s.gong := rfl
@[simp] theorem setSat_energy (s : State) (n : Nat) (r : SatInt) : (s.setSat n r).energy = s.energy := rfl
@[simp] theorem setSat_tel (s : State) (n : Nat) (r : SatInt) : (s.setSat n r).tel = s.tel := rfl
@[simp] theorem setSat_budget (s : State) (n : Nat) (r : SatInt) : (s.setSat n r).budget = s.budget := rfl
@[simp] theorem setSat_drum (s : State) (n : Nat) (r : SatInt) : (s.setSat n r).drum = s.drum := rfl
@[simp] theorem setSat_fw (s : State) (n : Nat) (r : SatInt) : (s.setSat n r).fw = s.fw := rfl
@[simp] theorem setSat_start (s : State) (n : Nat) (r : SatInt) : (s.setSat n r).start = s.start := rfl
@[simp] theorem setSat_lfsr (s : State) (n : Nat) (r : SatInt) : (s.setSat n r).lfsr = s.lfsr := rfl
@[simp] theorem setSat_shelf (s : State) (n : Nat) (r : SatInt) : (s.setSat n r).shelf = s.shelf := rfl
@[simp] theorem setSat_chest (s : State) (n : Nat) (r : SatInt) : (s.setSat n r).chest = s.chest := rfl
@[simp] theorem setSat_hang (s : State) (n : Nat) (r : SatInt) : (s.setSat n r).hang = s.hang := rfl
@[simp] theorem setSat_host (s : State) (n : Nat) (r : SatInt) : (s.setSat n r).host = s.host := rfl
@[simp] theorem setSat_pending (s : State) (n : Nat) (r : SatInt) : (s.setSat n r).pending = s.pending := rfl

@[simp] theorem setLimiter_dict (s : State) (n : Nat) (r : Limiter) : (s.setLimiter n r).dict = s.dict := rfl
@[simp] theorem setLimiter_blob (s : State) (n : Nat) (r : Limiter) : (s.setLimiter n r).blob = s.blob := rfl
@[simp] theorem setLimiter_hclk (s : State) (n : Nat) (r : Limiter) : (s.setLimiter n r).hclk = s.hclk := rfl
@[simp] theorem setLimiter_beatHclk (s : State) (n : Nat) (r : Limiter) : (s.setLimiter n r).beatHclk = s.beatHclk := rfl
@[simp] theorem setLimiter_free (s : State) (n : Nat) (r : Limiter) : (s.setLimiter n r).free = s.free := rfl
@[simp] theorem setLimiter_irqN (s : State) (n : Nat) (r : Limiter) : (s.setLimiter n r).irqN = s.irqN := rfl
@[simp] theorem setLimiter_smbAlert (s : State) (n : Nat) (r : Limiter) : (s.setLimiter n r).smbAlert = s.smbAlert := rfl
@[simp] theorem setLimiter_notify (s : State) (n : Nat) (r : Limiter) : (s.setLimiter n r).notify = s.notify := rfl
@[simp] theorem setLimiter_lostNow (s : State) (n : Nat) (r : Limiter) : (s.setLimiter n r).lostNow = s.lostNow := rfl
@[simp] theorem setLimiter_hub (s : State) (n : Nat) (r : Limiter) : (s.setLimiter n r).hub = s.hub := rfl
@[simp] theorem setLimiter_rails (s : State) (n : Nat) (r : Limiter) : (s.setLimiter n r).rails = s.rails := rfl
@[simp] theorem setLimiter_phs (s : State) (n : Nat) (r : Limiter) : (s.setLimiter n r).phs = s.phs := rfl
@[simp] theorem setLimiter_ibc (s : State) (n : Nat) (r : Limiter) : (s.setLimiter n r).ibc = s.ibc := rfl
@[simp] theorem setLimiter_loops (s : State) (n : Nat) (r : Limiter) : (s.setLimiter n r).loops = s.loops := rfl
@[simp] theorem setLimiter_snares (s : State) (n : Nat) (r : Limiter) : (s.setLimiter n r).snares = s.snares := rfl
@[simp] theorem setLimiter_upbeat (s : State) (n : Nat) (r : Limiter) : (s.setLimiter n r).upbeat = s.upbeat := rfl
@[simp] theorem setLimiter_dcus (s : State) (n : Nat) (r : Limiter) : (s.setLimiter n r).dcus = s.dcus := rfl
@[simp] theorem setLimiter_pds (s : State) (n : Nat) (r : Limiter) : (s.setLimiter n r).pds = s.pds := rfl
@[simp] theorem setLimiter_clk (s : State) (n : Nat) (r : Limiter) : (s.setLimiter n r).clk = s.clk := rfl
@[simp] theorem setLimiter_obs (s : State) (n : Nat) (r : Limiter) : (s.setLimiter n r).obs = s.obs := rfl
@[simp] theorem setLimiter_arb (s : State) (n : Nat) (r : Limiter) : (s.setLimiter n r).arb = s.arb := rfl
@[simp] theorem setLimiter_scrubAt (s : State) (n : Nat) (r : Limiter) : (s.setLimiter n r).scrubAt = s.scrubAt := rfl
@[simp] theorem setLimiter_chs (s : State) (n : Nat) (r : Limiter) : (s.setLimiter n r).chs = s.chs := rfl
@[simp] theorem setLimiter_hk (s : State) (n : Nat) (r : Limiter) : (s.setLimiter n r).hk = s.hk := rfl
@[simp] theorem setLimiter_gong (s : State) (n : Nat) (r : Limiter) : (s.setLimiter n r).gong = s.gong := rfl
@[simp] theorem setLimiter_energy (s : State) (n : Nat) (r : Limiter) : (s.setLimiter n r).energy = s.energy := rfl
@[simp] theorem setLimiter_tel (s : State) (n : Nat) (r : Limiter) : (s.setLimiter n r).tel = s.tel := rfl
@[simp] theorem setLimiter_drum (s : State) (n : Nat) (r : Limiter) : (s.setLimiter n r).drum = s.drum := rfl
@[simp] theorem setLimiter_fw (s : State) (n : Nat) (r : Limiter) : (s.setLimiter n r).fw = s.fw := rfl
@[simp] theorem setLimiter_start (s : State) (n : Nat) (r : Limiter) : (s.setLimiter n r).start = s.start := rfl
@[simp] theorem setLimiter_lfsr (s : State) (n : Nat) (r : Limiter) : (s.setLimiter n r).lfsr = s.lfsr := rfl
@[simp] theorem setLimiter_shelf (s : State) (n : Nat) (r : Limiter) : (s.setLimiter n r).shelf = s.shelf := rfl
@[simp] theorem setLimiter_chest (s : State) (n : Nat) (r : Limiter) : (s.setLimiter n r).chest = s.chest := rfl
@[simp] theorem setLimiter_hang (s : State) (n : Nat) (r : Limiter) : (s.setLimiter n r).hang = s.hang := rfl
@[simp] theorem setLimiter_host (s : State) (n : Nat) (r : Limiter) : (s.setLimiter n r).host = s.host := rfl
@[simp] theorem setLimiter_pending (s : State) (n : Nat) (r : Limiter) : (s.setLimiter n r).pending = s.pending := rfl

@[simp] theorem setFp_dict (s : State) (n : Nat) (r : FpInt) : (s.setFp n r).dict = s.dict := rfl
@[simp] theorem setFp_blob (s : State) (n : Nat) (r : FpInt) : (s.setFp n r).blob = s.blob := rfl
@[simp] theorem setFp_hclk (s : State) (n : Nat) (r : FpInt) : (s.setFp n r).hclk = s.hclk := rfl
@[simp] theorem setFp_beatHclk (s : State) (n : Nat) (r : FpInt) : (s.setFp n r).beatHclk = s.beatHclk := rfl
@[simp] theorem setFp_free (s : State) (n : Nat) (r : FpInt) : (s.setFp n r).free = s.free := rfl
@[simp] theorem setFp_irqN (s : State) (n : Nat) (r : FpInt) : (s.setFp n r).irqN = s.irqN := rfl
@[simp] theorem setFp_smbAlert (s : State) (n : Nat) (r : FpInt) : (s.setFp n r).smbAlert = s.smbAlert := rfl
@[simp] theorem setFp_notify (s : State) (n : Nat) (r : FpInt) : (s.setFp n r).notify = s.notify := rfl
@[simp] theorem setFp_lostNow (s : State) (n : Nat) (r : FpInt) : (s.setFp n r).lostNow = s.lostNow := rfl
@[simp] theorem setFp_hub (s : State) (n : Nat) (r : FpInt) : (s.setFp n r).hub = s.hub := rfl
@[simp] theorem setFp_rails (s : State) (n : Nat) (r : FpInt) : (s.setFp n r).rails = s.rails := rfl
@[simp] theorem setFp_phs (s : State) (n : Nat) (r : FpInt) : (s.setFp n r).phs = s.phs := rfl
@[simp] theorem setFp_ibc (s : State) (n : Nat) (r : FpInt) : (s.setFp n r).ibc = s.ibc := rfl
@[simp] theorem setFp_loops (s : State) (n : Nat) (r : FpInt) : (s.setFp n r).loops = s.loops := rfl
@[simp] theorem setFp_snares (s : State) (n : Nat) (r : FpInt) : (s.setFp n r).snares = s.snares := rfl
@[simp] theorem setFp_upbeat (s : State) (n : Nat) (r : FpInt) : (s.setFp n r).upbeat = s.upbeat := rfl
@[simp] theorem setFp_dcus (s : State) (n : Nat) (r : FpInt) : (s.setFp n r).dcus = s.dcus := rfl
@[simp] theorem setFp_pds (s : State) (n : Nat) (r : FpInt) : (s.setFp n r).pds = s.pds := rfl
@[simp] theorem setFp_clk (s : State) (n : Nat) (r : FpInt) : (s.setFp n r).clk = s.clk := rfl
@[simp] theorem setFp_obs (s : State) (n : Nat) (r : FpInt) : (s.setFp n r).obs = s.obs := rfl
@[simp] theorem setFp_arb (s : State) (n : Nat) (r : FpInt) : (s.setFp n r).arb = s.arb := rfl
@[simp] theorem setFp_scrubAt (s : State) (n : Nat) (r : FpInt) : (s.setFp n r).scrubAt = s.scrubAt := rfl
@[simp] theorem setFp_chs (s : State) (n : Nat) (r : FpInt) : (s.setFp n r).chs = s.chs := rfl
@[simp] theorem setFp_hk (s : State) (n : Nat) (r : FpInt) : (s.setFp n r).hk = s.hk := rfl
@[simp] theorem setFp_gong (s : State) (n : Nat) (r : FpInt) : (s.setFp n r).gong = s.gong := rfl
@[simp] theorem setFp_energy (s : State) (n : Nat) (r : FpInt) : (s.setFp n r).energy = s.energy := rfl
@[simp] theorem setFp_tel (s : State) (n : Nat) (r : FpInt) : (s.setFp n r).tel = s.tel := rfl
@[simp] theorem setFp_budget (s : State) (n : Nat) (r : FpInt) : (s.setFp n r).budget = s.budget := rfl
@[simp] theorem setFp_drum (s : State) (n : Nat) (r : FpInt) : (s.setFp n r).drum = s.drum := rfl
@[simp] theorem setFp_start (s : State) (n : Nat) (r : FpInt) : (s.setFp n r).start = s.start := rfl
@[simp] theorem setFp_lfsr (s : State) (n : Nat) (r : FpInt) : (s.setFp n r).lfsr = s.lfsr := rfl
@[simp] theorem setFp_shelf (s : State) (n : Nat) (r : FpInt) : (s.setFp n r).shelf = s.shelf := rfl
@[simp] theorem setFp_chest (s : State) (n : Nat) (r : FpInt) : (s.setFp n r).chest = s.chest := rfl
@[simp] theorem setFp_hang (s : State) (n : Nat) (r : FpInt) : (s.setFp n r).hang = s.hang := rfl
@[simp] theorem setFp_host (s : State) (n : Nat) (r : FpInt) : (s.setFp n r).host = s.host := rfl
@[simp] theorem setFp_pending (s : State) (n : Nat) (r : FpInt) : (s.setFp n r).pending = s.pending := rfl

@[simp] theorem setPort_dict (s : State) (n : Nat) (r : PortInt) : (s.setPort n r).dict = s.dict := rfl
@[simp] theorem setPort_blob (s : State) (n : Nat) (r : PortInt) : (s.setPort n r).blob = s.blob := rfl
@[simp] theorem setPort_hclk (s : State) (n : Nat) (r : PortInt) : (s.setPort n r).hclk = s.hclk := rfl
@[simp] theorem setPort_beatHclk (s : State) (n : Nat) (r : PortInt) : (s.setPort n r).beatHclk = s.beatHclk := rfl
@[simp] theorem setPort_free (s : State) (n : Nat) (r : PortInt) : (s.setPort n r).free = s.free := rfl
@[simp] theorem setPort_irqN (s : State) (n : Nat) (r : PortInt) : (s.setPort n r).irqN = s.irqN := rfl
@[simp] theorem setPort_smbAlert (s : State) (n : Nat) (r : PortInt) : (s.setPort n r).smbAlert = s.smbAlert := rfl
@[simp] theorem setPort_notify (s : State) (n : Nat) (r : PortInt) : (s.setPort n r).notify = s.notify := rfl
@[simp] theorem setPort_lostNow (s : State) (n : Nat) (r : PortInt) : (s.setPort n r).lostNow = s.lostNow := rfl
@[simp] theorem setPort_hub (s : State) (n : Nat) (r : PortInt) : (s.setPort n r).hub = s.hub := rfl
@[simp] theorem setPort_rails (s : State) (n : Nat) (r : PortInt) : (s.setPort n r).rails = s.rails := rfl
@[simp] theorem setPort_phs (s : State) (n : Nat) (r : PortInt) : (s.setPort n r).phs = s.phs := rfl
@[simp] theorem setPort_ibc (s : State) (n : Nat) (r : PortInt) : (s.setPort n r).ibc = s.ibc := rfl
@[simp] theorem setPort_loops (s : State) (n : Nat) (r : PortInt) : (s.setPort n r).loops = s.loops := rfl
@[simp] theorem setPort_snares (s : State) (n : Nat) (r : PortInt) : (s.setPort n r).snares = s.snares := rfl
@[simp] theorem setPort_upbeat (s : State) (n : Nat) (r : PortInt) : (s.setPort n r).upbeat = s.upbeat := rfl
@[simp] theorem setPort_dcus (s : State) (n : Nat) (r : PortInt) : (s.setPort n r).dcus = s.dcus := rfl
@[simp] theorem setPort_pds (s : State) (n : Nat) (r : PortInt) : (s.setPort n r).pds = s.pds := rfl
@[simp] theorem setPort_clk (s : State) (n : Nat) (r : PortInt) : (s.setPort n r).clk = s.clk := rfl
@[simp] theorem setPort_obs (s : State) (n : Nat) (r : PortInt) : (s.setPort n r).obs = s.obs := rfl
@[simp] theorem setPort_arb (s : State) (n : Nat) (r : PortInt) : (s.setPort n r).arb = s.arb := rfl
@[simp] theorem setPort_scrubAt (s : State) (n : Nat) (r : PortInt) : (s.setPort n r).scrubAt = s.scrubAt := rfl
@[simp] theorem setPort_chs (s : State) (n : Nat) (r : PortInt) : (s.setPort n r).chs = s.chs := rfl
@[simp] theorem setPort_hk (s : State) (n : Nat) (r : PortInt) : (s.setPort n r).hk = s.hk := rfl
@[simp] theorem setPort_gong (s : State) (n : Nat) (r : PortInt) : (s.setPort n r).gong = s.gong := rfl
@[simp] theorem setPort_energy (s : State) (n : Nat) (r : PortInt) : (s.setPort n r).energy = s.energy := rfl
@[simp] theorem setPort_tel (s : State) (n : Nat) (r : PortInt) : (s.setPort n r).tel = s.tel := rfl
@[simp] theorem setPort_budget (s : State) (n : Nat) (r : PortInt) : (s.setPort n r).budget = s.budget := rfl
@[simp] theorem setPort_fw (s : State) (n : Nat) (r : PortInt) : (s.setPort n r).fw = s.fw := rfl
@[simp] theorem setPort_start (s : State) (n : Nat) (r : PortInt) : (s.setPort n r).start = s.start := rfl
@[simp] theorem setPort_lfsr (s : State) (n : Nat) (r : PortInt) : (s.setPort n r).lfsr = s.lfsr := rfl
@[simp] theorem setPort_shelf (s : State) (n : Nat) (r : PortInt) : (s.setPort n r).shelf = s.shelf := rfl
@[simp] theorem setPort_chest (s : State) (n : Nat) (r : PortInt) : (s.setPort n r).chest = s.chest := rfl
@[simp] theorem setPort_hang (s : State) (n : Nat) (r : PortInt) : (s.setPort n r).hang = s.hang := rfl
@[simp] theorem setPort_host (s : State) (n : Nat) (r : PortInt) : (s.setPort n r).host = s.host := rfl
@[simp] theorem setPort_pending (s : State) (n : Nat) (r : PortInt) : (s.setPort n r).pending = s.pending := rfl

/-! ### What the operations over subs and records leave -/

@[simp] theorem bump_blob (s : State) (k : Nat) (n : Int) : (s.bump k n).blob = s.blob := rfl
@[simp] theorem bump_hclk (s : State) (k : Nat) (n : Int) : (s.bump k n).hclk = s.hclk := rfl
@[simp] theorem bump_beatHclk (s : State) (k : Nat) (n : Int) : (s.bump k n).beatHclk = s.beatHclk := rfl
@[simp] theorem bump_free (s : State) (k : Nat) (n : Int) : (s.bump k n).free = s.free := rfl
@[simp] theorem bump_irqN (s : State) (k : Nat) (n : Int) : (s.bump k n).irqN = s.irqN := rfl
@[simp] theorem bump_smbAlert (s : State) (k : Nat) (n : Int) : (s.bump k n).smbAlert = s.smbAlert := rfl
@[simp] theorem bump_notify (s : State) (k : Nat) (n : Int) : (s.bump k n).notify = s.notify := rfl
@[simp] theorem bump_lostNow (s : State) (k : Nat) (n : Int) : (s.bump k n).lostNow = s.lostNow := rfl
@[simp] theorem bump_hub (s : State) (k : Nat) (n : Int) : (s.bump k n).hub = s.hub := rfl
@[simp] theorem bump_rails (s : State) (k : Nat) (n : Int) : (s.bump k n).rails = s.rails := rfl
@[simp] theorem bump_phs (s : State) (k : Nat) (n : Int) : (s.bump k n).phs = s.phs := rfl
@[simp] theorem bump_ibc (s : State) (k : Nat) (n : Int) : (s.bump k n).ibc = s.ibc := rfl
@[simp] theorem bump_loops (s : State) (k : Nat) (n : Int) : (s.bump k n).loops = s.loops := rfl
@[simp] theorem bump_snares (s : State) (k : Nat) (n : Int) : (s.bump k n).snares = s.snares := rfl
@[simp] theorem bump_upbeat (s : State) (k : Nat) (n : Int) : (s.bump k n).upbeat = s.upbeat := rfl
@[simp] theorem bump_dcus (s : State) (k : Nat) (n : Int) : (s.bump k n).dcus = s.dcus := rfl
@[simp] theorem bump_pds (s : State) (k : Nat) (n : Int) : (s.bump k n).pds = s.pds := rfl
@[simp] theorem bump_clk (s : State) (k : Nat) (n : Int) : (s.bump k n).clk = s.clk := rfl
@[simp] theorem bump_obs (s : State) (k : Nat) (n : Int) : (s.bump k n).obs = s.obs := rfl
@[simp] theorem bump_arb (s : State) (k : Nat) (n : Int) : (s.bump k n).arb = s.arb := rfl
@[simp] theorem bump_scrubAt (s : State) (k : Nat) (n : Int) : (s.bump k n).scrubAt = s.scrubAt := rfl
@[simp] theorem bump_chs (s : State) (k : Nat) (n : Int) : (s.bump k n).chs = s.chs := rfl
@[simp] theorem bump_hk (s : State) (k : Nat) (n : Int) : (s.bump k n).hk = s.hk := rfl
@[simp] theorem bump_gong (s : State) (k : Nat) (n : Int) : (s.bump k n).gong = s.gong := rfl
@[simp] theorem bump_energy (s : State) (k : Nat) (n : Int) : (s.bump k n).energy = s.energy := rfl
@[simp] theorem bump_tel (s : State) (k : Nat) (n : Int) : (s.bump k n).tel = s.tel := rfl
@[simp] theorem bump_budget (s : State) (k : Nat) (n : Int) : (s.bump k n).budget = s.budget := rfl
@[simp] theorem bump_drum (s : State) (k : Nat) (n : Int) : (s.bump k n).drum = s.drum := rfl
@[simp] theorem bump_fw (s : State) (k : Nat) (n : Int) : (s.bump k n).fw = s.fw := rfl
@[simp] theorem bump_start (s : State) (k : Nat) (n : Int) : (s.bump k n).start = s.start := rfl
@[simp] theorem bump_lfsr (s : State) (k : Nat) (n : Int) : (s.bump k n).lfsr = s.lfsr := rfl
@[simp] theorem bump_shelf (s : State) (k : Nat) (n : Int) : (s.bump k n).shelf = s.shelf := rfl
@[simp] theorem bump_chest (s : State) (k : Nat) (n : Int) : (s.bump k n).chest = s.chest := rfl
@[simp] theorem bump_hang (s : State) (k : Nat) (n : Int) : (s.bump k n).hang = s.hang := rfl
@[simp] theorem bump_host (s : State) (k : Nat) (n : Int) : (s.bump k n).host = s.host := rfl
@[simp] theorem bump_pending (s : State) (k : Nat) (n : Int) : (s.bump k n).pending = s.pending := rfl

@[simp] theorem wrBit_blob (s : State) (k i : Nat) (b : Bool) : (s.wrBit k i b).blob = s.blob := rfl
@[simp] theorem wrBit_hclk (s : State) (k i : Nat) (b : Bool) : (s.wrBit k i b).hclk = s.hclk := rfl
@[simp] theorem wrBit_beatHclk (s : State) (k i : Nat) (b : Bool) : (s.wrBit k i b).beatHclk = s.beatHclk := rfl
@[simp] theorem wrBit_free (s : State) (k i : Nat) (b : Bool) : (s.wrBit k i b).free = s.free := rfl
@[simp] theorem wrBit_irqN (s : State) (k i : Nat) (b : Bool) : (s.wrBit k i b).irqN = s.irqN := rfl
@[simp] theorem wrBit_smbAlert (s : State) (k i : Nat) (b : Bool) : (s.wrBit k i b).smbAlert = s.smbAlert := rfl
@[simp] theorem wrBit_notify (s : State) (k i : Nat) (b : Bool) : (s.wrBit k i b).notify = s.notify := rfl
@[simp] theorem wrBit_lostNow (s : State) (k i : Nat) (b : Bool) : (s.wrBit k i b).lostNow = s.lostNow := rfl
@[simp] theorem wrBit_hub (s : State) (k i : Nat) (b : Bool) : (s.wrBit k i b).hub = s.hub := rfl
@[simp] theorem wrBit_rails (s : State) (k i : Nat) (b : Bool) : (s.wrBit k i b).rails = s.rails := rfl
@[simp] theorem wrBit_phs (s : State) (k i : Nat) (b : Bool) : (s.wrBit k i b).phs = s.phs := rfl
@[simp] theorem wrBit_ibc (s : State) (k i : Nat) (b : Bool) : (s.wrBit k i b).ibc = s.ibc := rfl
@[simp] theorem wrBit_loops (s : State) (k i : Nat) (b : Bool) : (s.wrBit k i b).loops = s.loops := rfl
@[simp] theorem wrBit_snares (s : State) (k i : Nat) (b : Bool) : (s.wrBit k i b).snares = s.snares := rfl
@[simp] theorem wrBit_upbeat (s : State) (k i : Nat) (b : Bool) : (s.wrBit k i b).upbeat = s.upbeat := rfl
@[simp] theorem wrBit_dcus (s : State) (k i : Nat) (b : Bool) : (s.wrBit k i b).dcus = s.dcus := rfl
@[simp] theorem wrBit_pds (s : State) (k i : Nat) (b : Bool) : (s.wrBit k i b).pds = s.pds := rfl
@[simp] theorem wrBit_clk (s : State) (k i : Nat) (b : Bool) : (s.wrBit k i b).clk = s.clk := rfl
@[simp] theorem wrBit_obs (s : State) (k i : Nat) (b : Bool) : (s.wrBit k i b).obs = s.obs := rfl
@[simp] theorem wrBit_arb (s : State) (k i : Nat) (b : Bool) : (s.wrBit k i b).arb = s.arb := rfl
@[simp] theorem wrBit_scrubAt (s : State) (k i : Nat) (b : Bool) : (s.wrBit k i b).scrubAt = s.scrubAt := rfl
@[simp] theorem wrBit_chs (s : State) (k i : Nat) (b : Bool) : (s.wrBit k i b).chs = s.chs := rfl
@[simp] theorem wrBit_hk (s : State) (k i : Nat) (b : Bool) : (s.wrBit k i b).hk = s.hk := rfl
@[simp] theorem wrBit_gong (s : State) (k i : Nat) (b : Bool) : (s.wrBit k i b).gong = s.gong := rfl
@[simp] theorem wrBit_energy (s : State) (k i : Nat) (b : Bool) : (s.wrBit k i b).energy = s.energy := rfl
@[simp] theorem wrBit_tel (s : State) (k i : Nat) (b : Bool) : (s.wrBit k i b).tel = s.tel := rfl
@[simp] theorem wrBit_budget (s : State) (k i : Nat) (b : Bool) : (s.wrBit k i b).budget = s.budget := rfl
@[simp] theorem wrBit_drum (s : State) (k i : Nat) (b : Bool) : (s.wrBit k i b).drum = s.drum := rfl
@[simp] theorem wrBit_fw (s : State) (k i : Nat) (b : Bool) : (s.wrBit k i b).fw = s.fw := rfl
@[simp] theorem wrBit_start (s : State) (k i : Nat) (b : Bool) : (s.wrBit k i b).start = s.start := rfl
@[simp] theorem wrBit_lfsr (s : State) (k i : Nat) (b : Bool) : (s.wrBit k i b).lfsr = s.lfsr := rfl
@[simp] theorem wrBit_shelf (s : State) (k i : Nat) (b : Bool) : (s.wrBit k i b).shelf = s.shelf := rfl
@[simp] theorem wrBit_chest (s : State) (k i : Nat) (b : Bool) : (s.wrBit k i b).chest = s.chest := rfl
@[simp] theorem wrBit_hang (s : State) (k i : Nat) (b : Bool) : (s.wrBit k i b).hang = s.hang := rfl
@[simp] theorem wrBit_host (s : State) (k i : Nat) (b : Bool) : (s.wrBit k i b).host = s.host := rfl
@[simp] theorem wrBit_pending (s : State) (k i : Nat) (b : Bool) : (s.wrBit k i b).pending = s.pending := rfl

@[simp] theorem cause_blob (s : State) (b : Nat) : (s.cause b).blob = s.blob := rfl
@[simp] theorem cause_hclk (s : State) (b : Nat) : (s.cause b).hclk = s.hclk := rfl
@[simp] theorem cause_beatHclk (s : State) (b : Nat) : (s.cause b).beatHclk = s.beatHclk := rfl
@[simp] theorem cause_free (s : State) (b : Nat) : (s.cause b).free = s.free := rfl
@[simp] theorem cause_irqN (s : State) (b : Nat) : (s.cause b).irqN = s.irqN := rfl
@[simp] theorem cause_smbAlert (s : State) (b : Nat) : (s.cause b).smbAlert = s.smbAlert := rfl
@[simp] theorem cause_notify (s : State) (b : Nat) : (s.cause b).notify = s.notify := rfl
@[simp] theorem cause_lostNow (s : State) (b : Nat) : (s.cause b).lostNow = s.lostNow := rfl
@[simp] theorem cause_hub (s : State) (b : Nat) : (s.cause b).hub = s.hub := rfl
@[simp] theorem cause_rails (s : State) (b : Nat) : (s.cause b).rails = s.rails := rfl
@[simp] theorem cause_phs (s : State) (b : Nat) : (s.cause b).phs = s.phs := rfl
@[simp] theorem cause_ibc (s : State) (b : Nat) : (s.cause b).ibc = s.ibc := rfl
@[simp] theorem cause_loops (s : State) (b : Nat) : (s.cause b).loops = s.loops := rfl
@[simp] theorem cause_snares (s : State) (b : Nat) : (s.cause b).snares = s.snares := rfl
@[simp] theorem cause_upbeat (s : State) (b : Nat) : (s.cause b).upbeat = s.upbeat := rfl
@[simp] theorem cause_dcus (s : State) (b : Nat) : (s.cause b).dcus = s.dcus := rfl
@[simp] theorem cause_pds (s : State) (b : Nat) : (s.cause b).pds = s.pds := rfl
@[simp] theorem cause_clk (s : State) (b : Nat) : (s.cause b).clk = s.clk := rfl
@[simp] theorem cause_obs (s : State) (b : Nat) : (s.cause b).obs = s.obs := rfl
@[simp] theorem cause_arb (s : State) (b : Nat) : (s.cause b).arb = s.arb := rfl
@[simp] theorem cause_scrubAt (s : State) (b : Nat) : (s.cause b).scrubAt = s.scrubAt := rfl
@[simp] theorem cause_chs (s : State) (b : Nat) : (s.cause b).chs = s.chs := rfl
@[simp] theorem cause_hk (s : State) (b : Nat) : (s.cause b).hk = s.hk := rfl
@[simp] theorem cause_gong (s : State) (b : Nat) : (s.cause b).gong = s.gong := rfl
@[simp] theorem cause_energy (s : State) (b : Nat) : (s.cause b).energy = s.energy := rfl
@[simp] theorem cause_tel (s : State) (b : Nat) : (s.cause b).tel = s.tel := rfl
@[simp] theorem cause_budget (s : State) (b : Nat) : (s.cause b).budget = s.budget := rfl
@[simp] theorem cause_drum (s : State) (b : Nat) : (s.cause b).drum = s.drum := rfl
@[simp] theorem cause_fw (s : State) (b : Nat) : (s.cause b).fw = s.fw := rfl
@[simp] theorem cause_start (s : State) (b : Nat) : (s.cause b).start = s.start := rfl
@[simp] theorem cause_lfsr (s : State) (b : Nat) : (s.cause b).lfsr = s.lfsr := rfl
@[simp] theorem cause_shelf (s : State) (b : Nat) : (s.cause b).shelf = s.shelf := rfl
@[simp] theorem cause_chest (s : State) (b : Nat) : (s.cause b).chest = s.chest := rfl
@[simp] theorem cause_hang (s : State) (b : Nat) : (s.cause b).hang = s.hang := rfl
@[simp] theorem cause_host (s : State) (b : Nat) : (s.cause b).host = s.host := rfl
@[simp] theorem cause_pending (s : State) (b : Nat) : (s.cause b).pending = s.pending := rfl

@[simp] theorem cmdDone_blob (s : State) (k : Nat) (v : Int) : (s.cmdDone k v).blob = s.blob := rfl
@[simp] theorem cmdDone_hclk (s : State) (k : Nat) (v : Int) : (s.cmdDone k v).hclk = s.hclk := rfl
@[simp] theorem cmdDone_beatHclk (s : State) (k : Nat) (v : Int) : (s.cmdDone k v).beatHclk = s.beatHclk := rfl
@[simp] theorem cmdDone_free (s : State) (k : Nat) (v : Int) : (s.cmdDone k v).free = s.free := rfl
@[simp] theorem cmdDone_irqN (s : State) (k : Nat) (v : Int) : (s.cmdDone k v).irqN = s.irqN := rfl
@[simp] theorem cmdDone_smbAlert (s : State) (k : Nat) (v : Int) : (s.cmdDone k v).smbAlert = s.smbAlert := rfl
@[simp] theorem cmdDone_notify (s : State) (k : Nat) (v : Int) : (s.cmdDone k v).notify = s.notify := rfl
@[simp] theorem cmdDone_lostNow (s : State) (k : Nat) (v : Int) : (s.cmdDone k v).lostNow = s.lostNow := rfl
@[simp] theorem cmdDone_hub (s : State) (k : Nat) (v : Int) : (s.cmdDone k v).hub = s.hub := rfl
@[simp] theorem cmdDone_rails (s : State) (k : Nat) (v : Int) : (s.cmdDone k v).rails = s.rails := rfl
@[simp] theorem cmdDone_phs (s : State) (k : Nat) (v : Int) : (s.cmdDone k v).phs = s.phs := rfl
@[simp] theorem cmdDone_ibc (s : State) (k : Nat) (v : Int) : (s.cmdDone k v).ibc = s.ibc := rfl
@[simp] theorem cmdDone_loops (s : State) (k : Nat) (v : Int) : (s.cmdDone k v).loops = s.loops := rfl
@[simp] theorem cmdDone_snares (s : State) (k : Nat) (v : Int) : (s.cmdDone k v).snares = s.snares := rfl
@[simp] theorem cmdDone_upbeat (s : State) (k : Nat) (v : Int) : (s.cmdDone k v).upbeat = s.upbeat := rfl
@[simp] theorem cmdDone_dcus (s : State) (k : Nat) (v : Int) : (s.cmdDone k v).dcus = s.dcus := rfl
@[simp] theorem cmdDone_pds (s : State) (k : Nat) (v : Int) : (s.cmdDone k v).pds = s.pds := rfl
@[simp] theorem cmdDone_clk (s : State) (k : Nat) (v : Int) : (s.cmdDone k v).clk = s.clk := rfl
@[simp] theorem cmdDone_obs (s : State) (k : Nat) (v : Int) : (s.cmdDone k v).obs = s.obs := rfl
@[simp] theorem cmdDone_arb (s : State) (k : Nat) (v : Int) : (s.cmdDone k v).arb = s.arb := rfl
@[simp] theorem cmdDone_scrubAt (s : State) (k : Nat) (v : Int) : (s.cmdDone k v).scrubAt = s.scrubAt := rfl
@[simp] theorem cmdDone_chs (s : State) (k : Nat) (v : Int) : (s.cmdDone k v).chs = s.chs := rfl
@[simp] theorem cmdDone_hk (s : State) (k : Nat) (v : Int) : (s.cmdDone k v).hk = s.hk := rfl
@[simp] theorem cmdDone_gong (s : State) (k : Nat) (v : Int) : (s.cmdDone k v).gong = s.gong := rfl
@[simp] theorem cmdDone_energy (s : State) (k : Nat) (v : Int) : (s.cmdDone k v).energy = s.energy := rfl
@[simp] theorem cmdDone_tel (s : State) (k : Nat) (v : Int) : (s.cmdDone k v).tel = s.tel := rfl
@[simp] theorem cmdDone_budget (s : State) (k : Nat) (v : Int) : (s.cmdDone k v).budget = s.budget := rfl
@[simp] theorem cmdDone_drum (s : State) (k : Nat) (v : Int) : (s.cmdDone k v).drum = s.drum := rfl
@[simp] theorem cmdDone_fw (s : State) (k : Nat) (v : Int) : (s.cmdDone k v).fw = s.fw := rfl
@[simp] theorem cmdDone_start (s : State) (k : Nat) (v : Int) : (s.cmdDone k v).start = s.start := rfl
@[simp] theorem cmdDone_lfsr (s : State) (k : Nat) (v : Int) : (s.cmdDone k v).lfsr = s.lfsr := rfl
@[simp] theorem cmdDone_shelf (s : State) (k : Nat) (v : Int) : (s.cmdDone k v).shelf = s.shelf := rfl
@[simp] theorem cmdDone_chest (s : State) (k : Nat) (v : Int) : (s.cmdDone k v).chest = s.chest := rfl
@[simp] theorem cmdDone_hang (s : State) (k : Nat) (v : Int) : (s.cmdDone k v).hang = s.hang := rfl
@[simp] theorem cmdDone_host (s : State) (k : Nat) (v : Int) : (s.cmdDone k v).host = s.host := rfl
@[simp] theorem cmdDone_pending (s : State) (k : Nat) (v : Int) : (s.cmdDone k v).pending = s.pending := rfl

@[simp] theorem recordAt_blob (s : State) (i : Stamp) (fw : Bool) (c e : Nat) (p1 p2 p3 : Int) : (s.recordAt i fw c e p1 p2 p3).blob = s.blob := by unfold State.recordAt; simp only; split <;> rfl
@[simp] theorem recordAt_hclk (s : State) (i : Stamp) (fw : Bool) (c e : Nat) (p1 p2 p3 : Int) : (s.recordAt i fw c e p1 p2 p3).hclk = s.hclk := by unfold State.recordAt; simp only; split <;> rfl
@[simp] theorem recordAt_beatHclk (s : State) (i : Stamp) (fw : Bool) (c e : Nat) (p1 p2 p3 : Int) : (s.recordAt i fw c e p1 p2 p3).beatHclk = s.beatHclk := by unfold State.recordAt; simp only; split <;> rfl
@[simp] theorem recordAt_free (s : State) (i : Stamp) (fw : Bool) (c e : Nat) (p1 p2 p3 : Int) : (s.recordAt i fw c e p1 p2 p3).free = s.free := by unfold State.recordAt; simp only; split <;> rfl
@[simp] theorem recordAt_irqN (s : State) (i : Stamp) (fw : Bool) (c e : Nat) (p1 p2 p3 : Int) : (s.recordAt i fw c e p1 p2 p3).irqN = s.irqN := by unfold State.recordAt; simp only; split <;> rfl
@[simp] theorem recordAt_smbAlert (s : State) (i : Stamp) (fw : Bool) (c e : Nat) (p1 p2 p3 : Int) : (s.recordAt i fw c e p1 p2 p3).smbAlert = s.smbAlert := by unfold State.recordAt; simp only; split <;> rfl
@[simp] theorem recordAt_notify (s : State) (i : Stamp) (fw : Bool) (c e : Nat) (p1 p2 p3 : Int) : (s.recordAt i fw c e p1 p2 p3).notify = s.notify := by unfold State.recordAt; simp only; split <;> rfl
@[simp] theorem recordAt_lostNow (s : State) (i : Stamp) (fw : Bool) (c e : Nat) (p1 p2 p3 : Int) : (s.recordAt i fw c e p1 p2 p3).lostNow = s.lostNow := by unfold State.recordAt; simp only; split <;> rfl
@[simp] theorem recordAt_hub (s : State) (i : Stamp) (fw : Bool) (c e : Nat) (p1 p2 p3 : Int) : (s.recordAt i fw c e p1 p2 p3).hub = s.hub := by unfold State.recordAt; simp only; split <;> rfl
@[simp] theorem recordAt_rails (s : State) (i : Stamp) (fw : Bool) (c e : Nat) (p1 p2 p3 : Int) : (s.recordAt i fw c e p1 p2 p3).rails = s.rails := by unfold State.recordAt; simp only; split <;> rfl
@[simp] theorem recordAt_phs (s : State) (i : Stamp) (fw : Bool) (c e : Nat) (p1 p2 p3 : Int) : (s.recordAt i fw c e p1 p2 p3).phs = s.phs := by unfold State.recordAt; simp only; split <;> rfl
@[simp] theorem recordAt_ibc (s : State) (i : Stamp) (fw : Bool) (c e : Nat) (p1 p2 p3 : Int) : (s.recordAt i fw c e p1 p2 p3).ibc = s.ibc := by unfold State.recordAt; simp only; split <;> rfl
@[simp] theorem recordAt_loops (s : State) (i : Stamp) (fw : Bool) (c e : Nat) (p1 p2 p3 : Int) : (s.recordAt i fw c e p1 p2 p3).loops = s.loops := by unfold State.recordAt; simp only; split <;> rfl
@[simp] theorem recordAt_snares (s : State) (i : Stamp) (fw : Bool) (c e : Nat) (p1 p2 p3 : Int) : (s.recordAt i fw c e p1 p2 p3).snares = s.snares := by unfold State.recordAt; simp only; split <;> rfl
@[simp] theorem recordAt_upbeat (s : State) (i : Stamp) (fw : Bool) (c e : Nat) (p1 p2 p3 : Int) : (s.recordAt i fw c e p1 p2 p3).upbeat = s.upbeat := by unfold State.recordAt; simp only; split <;> rfl
@[simp] theorem recordAt_dcus (s : State) (i : Stamp) (fw : Bool) (c e : Nat) (p1 p2 p3 : Int) : (s.recordAt i fw c e p1 p2 p3).dcus = s.dcus := by unfold State.recordAt; simp only; split <;> rfl
@[simp] theorem recordAt_pds (s : State) (i : Stamp) (fw : Bool) (c e : Nat) (p1 p2 p3 : Int) : (s.recordAt i fw c e p1 p2 p3).pds = s.pds := by unfold State.recordAt; simp only; split <;> rfl
@[simp] theorem recordAt_clk (s : State) (i : Stamp) (fw : Bool) (c e : Nat) (p1 p2 p3 : Int) : (s.recordAt i fw c e p1 p2 p3).clk = s.clk := by unfold State.recordAt; simp only; split <;> rfl
@[simp] theorem recordAt_obs (s : State) (i : Stamp) (fw : Bool) (c e : Nat) (p1 p2 p3 : Int) : (s.recordAt i fw c e p1 p2 p3).obs = s.obs := by unfold State.recordAt; simp only; split <;> rfl
@[simp] theorem recordAt_arb (s : State) (i : Stamp) (fw : Bool) (c e : Nat) (p1 p2 p3 : Int) : (s.recordAt i fw c e p1 p2 p3).arb = s.arb := by unfold State.recordAt; simp only; split <;> rfl
@[simp] theorem recordAt_scrubAt (s : State) (i : Stamp) (fw : Bool) (c e : Nat) (p1 p2 p3 : Int) : (s.recordAt i fw c e p1 p2 p3).scrubAt = s.scrubAt := by unfold State.recordAt; simp only; split <;> rfl
@[simp] theorem recordAt_chs (s : State) (i : Stamp) (fw : Bool) (c e : Nat) (p1 p2 p3 : Int) : (s.recordAt i fw c e p1 p2 p3).chs = s.chs := by unfold State.recordAt; simp only; split <;> rfl
@[simp] theorem recordAt_hk (s : State) (i : Stamp) (fw : Bool) (c e : Nat) (p1 p2 p3 : Int) : (s.recordAt i fw c e p1 p2 p3).hk = s.hk := by unfold State.recordAt; simp only; split <;> rfl
@[simp] theorem recordAt_gong (s : State) (i : Stamp) (fw : Bool) (c e : Nat) (p1 p2 p3 : Int) : (s.recordAt i fw c e p1 p2 p3).gong = s.gong := by unfold State.recordAt; simp only; split <;> rfl
@[simp] theorem recordAt_energy (s : State) (i : Stamp) (fw : Bool) (c e : Nat) (p1 p2 p3 : Int) : (s.recordAt i fw c e p1 p2 p3).energy = s.energy := by unfold State.recordAt; simp only; split <;> rfl
@[simp] theorem recordAt_tel (s : State) (i : Stamp) (fw : Bool) (c e : Nat) (p1 p2 p3 : Int) : (s.recordAt i fw c e p1 p2 p3).tel = s.tel := by unfold State.recordAt; simp only; split <;> rfl
@[simp] theorem recordAt_budget (s : State) (i : Stamp) (fw : Bool) (c e : Nat) (p1 p2 p3 : Int) : (s.recordAt i fw c e p1 p2 p3).budget = s.budget := by unfold State.recordAt; simp only; split <;> rfl
@[simp] theorem recordAt_drum (s : State) (i : Stamp) (fw : Bool) (c e : Nat) (p1 p2 p3 : Int) : (s.recordAt i fw c e p1 p2 p3).drum = s.drum := by unfold State.recordAt; simp only; split <;> rfl
@[simp] theorem recordAt_fw (s : State) (i : Stamp) (fw : Bool) (c e : Nat) (p1 p2 p3 : Int) : (s.recordAt i fw c e p1 p2 p3).fw = s.fw := by unfold State.recordAt; simp only; split <;> rfl
@[simp] theorem recordAt_start (s : State) (i : Stamp) (fw : Bool) (c e : Nat) (p1 p2 p3 : Int) : (s.recordAt i fw c e p1 p2 p3).start = s.start := by unfold State.recordAt; simp only; split <;> rfl
@[simp] theorem recordAt_lfsr (s : State) (i : Stamp) (fw : Bool) (c e : Nat) (p1 p2 p3 : Int) : (s.recordAt i fw c e p1 p2 p3).lfsr = s.lfsr := by unfold State.recordAt; simp only; split <;> rfl
@[simp] theorem recordAt_chest (s : State) (i : Stamp) (fw : Bool) (c e : Nat) (p1 p2 p3 : Int) : (s.recordAt i fw c e p1 p2 p3).chest = s.chest := by unfold State.recordAt; simp only; split <;> rfl
@[simp] theorem recordAt_hang (s : State) (i : Stamp) (fw : Bool) (c e : Nat) (p1 p2 p3 : Int) : (s.recordAt i fw c e p1 p2 p3).hang = s.hang := by unfold State.recordAt; simp only; split <;> rfl
@[simp] theorem recordAt_host (s : State) (i : Stamp) (fw : Bool) (c e : Nat) (p1 p2 p3 : Int) : (s.recordAt i fw c e p1 p2 p3).host = s.host := by unfold State.recordAt; simp only; split <;> rfl
@[simp] theorem recordAt_pending (s : State) (i : Stamp) (fw : Bool) (c e : Nat) (p1 p2 p3 : Int) : (s.recordAt i fw c e p1 p2 p3).pending = s.pending := by unfold State.recordAt; simp only; split <;> rfl

@[simp] theorem record_blob (s : State) (c e : Nat) (p1 p2 p3 : Int) : (s.record c e p1 p2 p3).blob = s.blob := recordAt_blob _ _ _ _ _ _ _ _
@[simp] theorem record_hclk (s : State) (c e : Nat) (p1 p2 p3 : Int) : (s.record c e p1 p2 p3).hclk = s.hclk := recordAt_hclk _ _ _ _ _ _ _ _
@[simp] theorem record_beatHclk (s : State) (c e : Nat) (p1 p2 p3 : Int) : (s.record c e p1 p2 p3).beatHclk = s.beatHclk := recordAt_beatHclk _ _ _ _ _ _ _ _
@[simp] theorem record_free (s : State) (c e : Nat) (p1 p2 p3 : Int) : (s.record c e p1 p2 p3).free = s.free := recordAt_free _ _ _ _ _ _ _ _
@[simp] theorem record_irqN (s : State) (c e : Nat) (p1 p2 p3 : Int) : (s.record c e p1 p2 p3).irqN = s.irqN := recordAt_irqN _ _ _ _ _ _ _ _
@[simp] theorem record_smbAlert (s : State) (c e : Nat) (p1 p2 p3 : Int) : (s.record c e p1 p2 p3).smbAlert = s.smbAlert := recordAt_smbAlert _ _ _ _ _ _ _ _
@[simp] theorem record_notify (s : State) (c e : Nat) (p1 p2 p3 : Int) : (s.record c e p1 p2 p3).notify = s.notify := recordAt_notify _ _ _ _ _ _ _ _
@[simp] theorem record_lostNow (s : State) (c e : Nat) (p1 p2 p3 : Int) : (s.record c e p1 p2 p3).lostNow = s.lostNow := recordAt_lostNow _ _ _ _ _ _ _ _
@[simp] theorem record_hub (s : State) (c e : Nat) (p1 p2 p3 : Int) : (s.record c e p1 p2 p3).hub = s.hub := recordAt_hub _ _ _ _ _ _ _ _
@[simp] theorem record_rails (s : State) (c e : Nat) (p1 p2 p3 : Int) : (s.record c e p1 p2 p3).rails = s.rails := recordAt_rails _ _ _ _ _ _ _ _
@[simp] theorem record_phs (s : State) (c e : Nat) (p1 p2 p3 : Int) : (s.record c e p1 p2 p3).phs = s.phs := recordAt_phs _ _ _ _ _ _ _ _
@[simp] theorem record_ibc (s : State) (c e : Nat) (p1 p2 p3 : Int) : (s.record c e p1 p2 p3).ibc = s.ibc := recordAt_ibc _ _ _ _ _ _ _ _
@[simp] theorem record_loops (s : State) (c e : Nat) (p1 p2 p3 : Int) : (s.record c e p1 p2 p3).loops = s.loops := recordAt_loops _ _ _ _ _ _ _ _
@[simp] theorem record_snares (s : State) (c e : Nat) (p1 p2 p3 : Int) : (s.record c e p1 p2 p3).snares = s.snares := recordAt_snares _ _ _ _ _ _ _ _
@[simp] theorem record_upbeat (s : State) (c e : Nat) (p1 p2 p3 : Int) : (s.record c e p1 p2 p3).upbeat = s.upbeat := recordAt_upbeat _ _ _ _ _ _ _ _
@[simp] theorem record_dcus (s : State) (c e : Nat) (p1 p2 p3 : Int) : (s.record c e p1 p2 p3).dcus = s.dcus := recordAt_dcus _ _ _ _ _ _ _ _
@[simp] theorem record_pds (s : State) (c e : Nat) (p1 p2 p3 : Int) : (s.record c e p1 p2 p3).pds = s.pds := recordAt_pds _ _ _ _ _ _ _ _
@[simp] theorem record_clk (s : State) (c e : Nat) (p1 p2 p3 : Int) : (s.record c e p1 p2 p3).clk = s.clk := recordAt_clk _ _ _ _ _ _ _ _
@[simp] theorem record_obs (s : State) (c e : Nat) (p1 p2 p3 : Int) : (s.record c e p1 p2 p3).obs = s.obs := recordAt_obs _ _ _ _ _ _ _ _
@[simp] theorem record_arb (s : State) (c e : Nat) (p1 p2 p3 : Int) : (s.record c e p1 p2 p3).arb = s.arb := recordAt_arb _ _ _ _ _ _ _ _
@[simp] theorem record_scrubAt (s : State) (c e : Nat) (p1 p2 p3 : Int) : (s.record c e p1 p2 p3).scrubAt = s.scrubAt := recordAt_scrubAt _ _ _ _ _ _ _ _
@[simp] theorem record_chs (s : State) (c e : Nat) (p1 p2 p3 : Int) : (s.record c e p1 p2 p3).chs = s.chs := recordAt_chs _ _ _ _ _ _ _ _
@[simp] theorem record_hk (s : State) (c e : Nat) (p1 p2 p3 : Int) : (s.record c e p1 p2 p3).hk = s.hk := recordAt_hk _ _ _ _ _ _ _ _
@[simp] theorem record_gong (s : State) (c e : Nat) (p1 p2 p3 : Int) : (s.record c e p1 p2 p3).gong = s.gong := recordAt_gong _ _ _ _ _ _ _ _
@[simp] theorem record_energy (s : State) (c e : Nat) (p1 p2 p3 : Int) : (s.record c e p1 p2 p3).energy = s.energy := recordAt_energy _ _ _ _ _ _ _ _
@[simp] theorem record_tel (s : State) (c e : Nat) (p1 p2 p3 : Int) : (s.record c e p1 p2 p3).tel = s.tel := recordAt_tel _ _ _ _ _ _ _ _
@[simp] theorem record_budget (s : State) (c e : Nat) (p1 p2 p3 : Int) : (s.record c e p1 p2 p3).budget = s.budget := recordAt_budget _ _ _ _ _ _ _ _
@[simp] theorem record_drum (s : State) (c e : Nat) (p1 p2 p3 : Int) : (s.record c e p1 p2 p3).drum = s.drum := recordAt_drum _ _ _ _ _ _ _ _
@[simp] theorem record_fw (s : State) (c e : Nat) (p1 p2 p3 : Int) : (s.record c e p1 p2 p3).fw = s.fw := recordAt_fw _ _ _ _ _ _ _ _
@[simp] theorem record_start (s : State) (c e : Nat) (p1 p2 p3 : Int) : (s.record c e p1 p2 p3).start = s.start := recordAt_start _ _ _ _ _ _ _ _
@[simp] theorem record_lfsr (s : State) (c e : Nat) (p1 p2 p3 : Int) : (s.record c e p1 p2 p3).lfsr = s.lfsr := recordAt_lfsr _ _ _ _ _ _ _ _
@[simp] theorem record_chest (s : State) (c e : Nat) (p1 p2 p3 : Int) : (s.record c e p1 p2 p3).chest = s.chest := recordAt_chest _ _ _ _ _ _ _ _
@[simp] theorem record_hang (s : State) (c e : Nat) (p1 p2 p3 : Int) : (s.record c e p1 p2 p3).hang = s.hang := recordAt_hang _ _ _ _ _ _ _ _
@[simp] theorem record_host (s : State) (c e : Nat) (p1 p2 p3 : Int) : (s.record c e p1 p2 p3).host = s.host := recordAt_host _ _ _ _ _ _ _ _
@[simp] theorem record_pending (s : State) (c e : Nat) (p1 p2 p3 : Int) : (s.record c e p1 p2 p3).pending = s.pending := recordAt_pending _ _ _ _ _ _ _ _

@[simp] theorem recordFw_blob (s : State) (c e : Nat) (p1 p2 p3 : Int) : (s.recordFw c e p1 p2 p3).blob = s.blob := recordAt_blob _ _ _ _ _ _ _ _
@[simp] theorem recordFw_hclk (s : State) (c e : Nat) (p1 p2 p3 : Int) : (s.recordFw c e p1 p2 p3).hclk = s.hclk := recordAt_hclk _ _ _ _ _ _ _ _
@[simp] theorem recordFw_beatHclk (s : State) (c e : Nat) (p1 p2 p3 : Int) : (s.recordFw c e p1 p2 p3).beatHclk = s.beatHclk := recordAt_beatHclk _ _ _ _ _ _ _ _
@[simp] theorem recordFw_free (s : State) (c e : Nat) (p1 p2 p3 : Int) : (s.recordFw c e p1 p2 p3).free = s.free := recordAt_free _ _ _ _ _ _ _ _
@[simp] theorem recordFw_irqN (s : State) (c e : Nat) (p1 p2 p3 : Int) : (s.recordFw c e p1 p2 p3).irqN = s.irqN := recordAt_irqN _ _ _ _ _ _ _ _
@[simp] theorem recordFw_smbAlert (s : State) (c e : Nat) (p1 p2 p3 : Int) : (s.recordFw c e p1 p2 p3).smbAlert = s.smbAlert := recordAt_smbAlert _ _ _ _ _ _ _ _
@[simp] theorem recordFw_notify (s : State) (c e : Nat) (p1 p2 p3 : Int) : (s.recordFw c e p1 p2 p3).notify = s.notify := recordAt_notify _ _ _ _ _ _ _ _
@[simp] theorem recordFw_lostNow (s : State) (c e : Nat) (p1 p2 p3 : Int) : (s.recordFw c e p1 p2 p3).lostNow = s.lostNow := recordAt_lostNow _ _ _ _ _ _ _ _
@[simp] theorem recordFw_hub (s : State) (c e : Nat) (p1 p2 p3 : Int) : (s.recordFw c e p1 p2 p3).hub = s.hub := recordAt_hub _ _ _ _ _ _ _ _
@[simp] theorem recordFw_rails (s : State) (c e : Nat) (p1 p2 p3 : Int) : (s.recordFw c e p1 p2 p3).rails = s.rails := recordAt_rails _ _ _ _ _ _ _ _
@[simp] theorem recordFw_phs (s : State) (c e : Nat) (p1 p2 p3 : Int) : (s.recordFw c e p1 p2 p3).phs = s.phs := recordAt_phs _ _ _ _ _ _ _ _
@[simp] theorem recordFw_ibc (s : State) (c e : Nat) (p1 p2 p3 : Int) : (s.recordFw c e p1 p2 p3).ibc = s.ibc := recordAt_ibc _ _ _ _ _ _ _ _
@[simp] theorem recordFw_loops (s : State) (c e : Nat) (p1 p2 p3 : Int) : (s.recordFw c e p1 p2 p3).loops = s.loops := recordAt_loops _ _ _ _ _ _ _ _
@[simp] theorem recordFw_snares (s : State) (c e : Nat) (p1 p2 p3 : Int) : (s.recordFw c e p1 p2 p3).snares = s.snares := recordAt_snares _ _ _ _ _ _ _ _
@[simp] theorem recordFw_upbeat (s : State) (c e : Nat) (p1 p2 p3 : Int) : (s.recordFw c e p1 p2 p3).upbeat = s.upbeat := recordAt_upbeat _ _ _ _ _ _ _ _
@[simp] theorem recordFw_dcus (s : State) (c e : Nat) (p1 p2 p3 : Int) : (s.recordFw c e p1 p2 p3).dcus = s.dcus := recordAt_dcus _ _ _ _ _ _ _ _
@[simp] theorem recordFw_pds (s : State) (c e : Nat) (p1 p2 p3 : Int) : (s.recordFw c e p1 p2 p3).pds = s.pds := recordAt_pds _ _ _ _ _ _ _ _
@[simp] theorem recordFw_clk (s : State) (c e : Nat) (p1 p2 p3 : Int) : (s.recordFw c e p1 p2 p3).clk = s.clk := recordAt_clk _ _ _ _ _ _ _ _
@[simp] theorem recordFw_obs (s : State) (c e : Nat) (p1 p2 p3 : Int) : (s.recordFw c e p1 p2 p3).obs = s.obs := recordAt_obs _ _ _ _ _ _ _ _
@[simp] theorem recordFw_arb (s : State) (c e : Nat) (p1 p2 p3 : Int) : (s.recordFw c e p1 p2 p3).arb = s.arb := recordAt_arb _ _ _ _ _ _ _ _
@[simp] theorem recordFw_scrubAt (s : State) (c e : Nat) (p1 p2 p3 : Int) : (s.recordFw c e p1 p2 p3).scrubAt = s.scrubAt := recordAt_scrubAt _ _ _ _ _ _ _ _
@[simp] theorem recordFw_chs (s : State) (c e : Nat) (p1 p2 p3 : Int) : (s.recordFw c e p1 p2 p3).chs = s.chs := recordAt_chs _ _ _ _ _ _ _ _
@[simp] theorem recordFw_hk (s : State) (c e : Nat) (p1 p2 p3 : Int) : (s.recordFw c e p1 p2 p3).hk = s.hk := recordAt_hk _ _ _ _ _ _ _ _
@[simp] theorem recordFw_gong (s : State) (c e : Nat) (p1 p2 p3 : Int) : (s.recordFw c e p1 p2 p3).gong = s.gong := recordAt_gong _ _ _ _ _ _ _ _
@[simp] theorem recordFw_energy (s : State) (c e : Nat) (p1 p2 p3 : Int) : (s.recordFw c e p1 p2 p3).energy = s.energy := recordAt_energy _ _ _ _ _ _ _ _
@[simp] theorem recordFw_tel (s : State) (c e : Nat) (p1 p2 p3 : Int) : (s.recordFw c e p1 p2 p3).tel = s.tel := recordAt_tel _ _ _ _ _ _ _ _
@[simp] theorem recordFw_budget (s : State) (c e : Nat) (p1 p2 p3 : Int) : (s.recordFw c e p1 p2 p3).budget = s.budget := recordAt_budget _ _ _ _ _ _ _ _
@[simp] theorem recordFw_drum (s : State) (c e : Nat) (p1 p2 p3 : Int) : (s.recordFw c e p1 p2 p3).drum = s.drum := recordAt_drum _ _ _ _ _ _ _ _
@[simp] theorem recordFw_fw (s : State) (c e : Nat) (p1 p2 p3 : Int) : (s.recordFw c e p1 p2 p3).fw = s.fw := recordAt_fw _ _ _ _ _ _ _ _
@[simp] theorem recordFw_start (s : State) (c e : Nat) (p1 p2 p3 : Int) : (s.recordFw c e p1 p2 p3).start = s.start := recordAt_start _ _ _ _ _ _ _ _
@[simp] theorem recordFw_lfsr (s : State) (c e : Nat) (p1 p2 p3 : Int) : (s.recordFw c e p1 p2 p3).lfsr = s.lfsr := recordAt_lfsr _ _ _ _ _ _ _ _
@[simp] theorem recordFw_chest (s : State) (c e : Nat) (p1 p2 p3 : Int) : (s.recordFw c e p1 p2 p3).chest = s.chest := recordAt_chest _ _ _ _ _ _ _ _
@[simp] theorem recordFw_hang (s : State) (c e : Nat) (p1 p2 p3 : Int) : (s.recordFw c e p1 p2 p3).hang = s.hang := recordAt_hang _ _ _ _ _ _ _ _
@[simp] theorem recordFw_host (s : State) (c e : Nat) (p1 p2 p3 : Int) : (s.recordFw c e p1 p2 p3).host = s.host := recordAt_host _ _ _ _ _ _ _ _
@[simp] theorem recordFw_pending (s : State) (c e : Nat) (p1 p2 p3 : Int) : (s.recordFw c e p1 p2 p3).pending = s.pending := recordAt_pending _ _ _ _ _ _ _ _

/-! ### A record just stored is read back -/

@[simp] theorem rail_setRail_same (s : State) (n : Nat) (r) : (s.setRail n r).rail n = r := by simp [State.rail, State.setRail]
theorem rail_setRail_ne (s : State) (n m : Nat) (r) (h : m ≠ n) : (s.setRail n r).rail m = s.rail m := by simp [State.rail, State.setRail, tabGet_tabPut_ne _ _ _ _ _ h]
@[simp] theorem ph_setPh_same (s : State) (n : Nat) (r) : (s.setPh n r).ph n = r := by simp [State.ph, State.setPh]
theorem ph_setPh_ne (s : State) (n m : Nat) (r) (h : m ≠ n) : (s.setPh n r).ph m = s.ph m := by simp [State.ph, State.setPh, tabGet_tabPut_ne _ _ _ _ _ h]
@[simp] theorem loop_setLoop_same (s : State) (n : Nat) (r) : (s.setLoop n r).loop n = r := by simp [State.loop, State.setLoop]
theorem loop_setLoop_ne (s : State) (n m : Nat) (r) (h : m ≠ n) : (s.setLoop n r).loop m = s.loop m := by simp [State.loop, State.setLoop, tabGet_tabPut_ne _ _ _ _ _ h]
@[simp] theorem snare_setSnare_same (s : State) (n : Nat) (r) : (s.setSnare n r).snare n = r := by simp [State.snare, State.setSnare]
theorem snare_setSnare_ne (s : State) (n m : Nat) (r) (h : m ≠ n) : (s.setSnare n r).snare m = s.snare m := by simp [State.snare, State.setSnare, tabGet_tabPut_ne _ _ _ _ _ h]
@[simp] theorem dcu_setDcu_same (s : State) (n : Nat) (r) : (s.setDcu n r).dcu n = r := by simp [State.dcu, State.setDcu]
theorem dcu_setDcu_ne (s : State) (n m : Nat) (r) (h : m ≠ n) : (s.setDcu n r).dcu m = s.dcu m := by simp [State.dcu, State.setDcu, tabGet_tabPut_ne _ _ _ _ _ h]
@[simp] theorem pd_setPd_same (s : State) (n : Nat) (r) : (s.setPd n r).pd n = r := by simp [State.pd, State.setPd]
theorem pd_setPd_ne (s : State) (n m : Nat) (r) (h : m ≠ n) : (s.setPd n r).pd m = s.pd m := by simp [State.pd, State.setPd, tabGet_tabPut_ne _ _ _ _ _ h]
@[simp] theorem ch_setCh_same (s : State) (n : Nat) (r) : (s.setCh n r).ch n = r := by simp [State.ch, State.setCh]
theorem ch_setCh_ne (s : State) (n m : Nat) (r) (h : m ≠ n) : (s.setCh n r).ch m = s.ch m := by simp [State.ch, State.setCh, tabGet_tabPut_ne _ _ _ _ _ h]
@[simp] theorem sat_setSat_same (s : State) (n : Nat) (r) : (s.setSat n r).sat n = r := by simp [State.sat, State.setSat]
theorem sat_setSat_ne (s : State) (n m : Nat) (r) (h : m ≠ n) : (s.setSat n r).sat m = s.sat m := by simp [State.sat, State.setSat, tabGet_tabPut_ne _ _ _ _ _ h]
@[simp] theorem limiter_setLimiter_same (s : State) (n : Nat) (r) : (s.setLimiter n r).limiter n = r := by simp [State.limiter, State.setLimiter]
theorem limiter_setLimiter_ne (s : State) (n m : Nat) (r) (h : m ≠ n) : (s.setLimiter n r).limiter m = s.limiter m := by simp [State.limiter, State.setLimiter, tabGet_tabPut_ne _ _ _ _ _ h]
@[simp] theorem fp_setFp_same (s : State) (n : Nat) (r) : (s.setFp n r).fp n = r := by simp [State.fp, State.setFp]
theorem fp_setFp_ne (s : State) (n m : Nat) (r) (h : m ≠ n) : (s.setFp n r).fp m = s.fp m := by simp [State.fp, State.setFp, tabGet_tabPut_ne _ _ _ _ _ h]
@[simp] theorem port_setPort_same (s : State) (n : Nat) (r) : (s.setPort n r).port n = r := by simp [State.port, State.setPort]
theorem port_setPort_ne (s : State) (n m : Nat) (r) (h : m ≠ n) : (s.setPort n r).port m = s.port m := by simp [State.port, State.setPort, tabGet_tabPut_ne _ _ _ _ _ h]

/-! ### A record reads the same after an operation over subs -/

@[simp] theorem rail_wr (s : State) (k : Nat) (v : Int) (m : Nat) : (s.wr k v).rail m = s.rail m := by simp [State.rail]
@[simp] theorem rail_bump (s : State) (k : Nat) (n : Int) (m : Nat) : (s.bump k n).rail m = s.rail m := by simp [State.rail]
@[simp] theorem rail_wrBit (s : State) (k i : Nat) (b : Bool) (m : Nat) : (s.wrBit k i b).rail m = s.rail m := by simp [State.rail]
@[simp] theorem rail_cause (s : State) (b : Nat) (m : Nat) : (s.cause b).rail m = s.rail m := by simp [State.rail]
@[simp] theorem rail_cmdDone (s : State) (k : Nat) (v : Int) (m : Nat) : (s.cmdDone k v).rail m = s.rail m := by simp [State.rail]
@[simp] theorem rail_recordAt (s : State) (i : Stamp) (fw : Bool) (c e : Nat) (p1 p2 p3 : Int) (m : Nat) : (s.recordAt i fw c e p1 p2 p3).rail m = s.rail m := by simp [State.rail]
@[simp] theorem rail_record (s : State) (c e : Nat) (p1 p2 p3 : Int) (m : Nat) : (s.record c e p1 p2 p3).rail m = s.rail m := by simp [State.rail]
@[simp] theorem rail_recordFw (s : State) (c e : Nat) (p1 p2 p3 : Int) (m : Nat) : (s.recordFw c e p1 p2 p3).rail m = s.rail m := by simp [State.rail]
@[simp] theorem ph_wr (s : State) (k : Nat) (v : Int) (m : Nat) : (s.wr k v).ph m = s.ph m := by simp [State.ph]
@[simp] theorem ph_bump (s : State) (k : Nat) (n : Int) (m : Nat) : (s.bump k n).ph m = s.ph m := by simp [State.ph]
@[simp] theorem ph_wrBit (s : State) (k i : Nat) (b : Bool) (m : Nat) : (s.wrBit k i b).ph m = s.ph m := by simp [State.ph]
@[simp] theorem ph_cause (s : State) (b : Nat) (m : Nat) : (s.cause b).ph m = s.ph m := by simp [State.ph]
@[simp] theorem ph_cmdDone (s : State) (k : Nat) (v : Int) (m : Nat) : (s.cmdDone k v).ph m = s.ph m := by simp [State.ph]
@[simp] theorem ph_recordAt (s : State) (i : Stamp) (fw : Bool) (c e : Nat) (p1 p2 p3 : Int) (m : Nat) : (s.recordAt i fw c e p1 p2 p3).ph m = s.ph m := by simp [State.ph]
@[simp] theorem ph_record (s : State) (c e : Nat) (p1 p2 p3 : Int) (m : Nat) : (s.record c e p1 p2 p3).ph m = s.ph m := by simp [State.ph]
@[simp] theorem ph_recordFw (s : State) (c e : Nat) (p1 p2 p3 : Int) (m : Nat) : (s.recordFw c e p1 p2 p3).ph m = s.ph m := by simp [State.ph]
@[simp] theorem loop_wr (s : State) (k : Nat) (v : Int) (m : Nat) : (s.wr k v).loop m = s.loop m := by simp [State.loop]
@[simp] theorem loop_bump (s : State) (k : Nat) (n : Int) (m : Nat) : (s.bump k n).loop m = s.loop m := by simp [State.loop]
@[simp] theorem loop_wrBit (s : State) (k i : Nat) (b : Bool) (m : Nat) : (s.wrBit k i b).loop m = s.loop m := by simp [State.loop]
@[simp] theorem loop_cause (s : State) (b : Nat) (m : Nat) : (s.cause b).loop m = s.loop m := by simp [State.loop]
@[simp] theorem loop_cmdDone (s : State) (k : Nat) (v : Int) (m : Nat) : (s.cmdDone k v).loop m = s.loop m := by simp [State.loop]
@[simp] theorem loop_recordAt (s : State) (i : Stamp) (fw : Bool) (c e : Nat) (p1 p2 p3 : Int) (m : Nat) : (s.recordAt i fw c e p1 p2 p3).loop m = s.loop m := by simp [State.loop]
@[simp] theorem loop_record (s : State) (c e : Nat) (p1 p2 p3 : Int) (m : Nat) : (s.record c e p1 p2 p3).loop m = s.loop m := by simp [State.loop]
@[simp] theorem loop_recordFw (s : State) (c e : Nat) (p1 p2 p3 : Int) (m : Nat) : (s.recordFw c e p1 p2 p3).loop m = s.loop m := by simp [State.loop]
@[simp] theorem snare_wr (s : State) (k : Nat) (v : Int) (m : Nat) : (s.wr k v).snare m = s.snare m := by simp [State.snare]
@[simp] theorem snare_bump (s : State) (k : Nat) (n : Int) (m : Nat) : (s.bump k n).snare m = s.snare m := by simp [State.snare]
@[simp] theorem snare_wrBit (s : State) (k i : Nat) (b : Bool) (m : Nat) : (s.wrBit k i b).snare m = s.snare m := by simp [State.snare]
@[simp] theorem snare_cause (s : State) (b : Nat) (m : Nat) : (s.cause b).snare m = s.snare m := by simp [State.snare]
@[simp] theorem snare_cmdDone (s : State) (k : Nat) (v : Int) (m : Nat) : (s.cmdDone k v).snare m = s.snare m := by simp [State.snare]
@[simp] theorem snare_recordAt (s : State) (i : Stamp) (fw : Bool) (c e : Nat) (p1 p2 p3 : Int) (m : Nat) : (s.recordAt i fw c e p1 p2 p3).snare m = s.snare m := by simp [State.snare]
@[simp] theorem snare_record (s : State) (c e : Nat) (p1 p2 p3 : Int) (m : Nat) : (s.record c e p1 p2 p3).snare m = s.snare m := by simp [State.snare]
@[simp] theorem snare_recordFw (s : State) (c e : Nat) (p1 p2 p3 : Int) (m : Nat) : (s.recordFw c e p1 p2 p3).snare m = s.snare m := by simp [State.snare]
@[simp] theorem dcu_wr (s : State) (k : Nat) (v : Int) (m : Nat) : (s.wr k v).dcu m = s.dcu m := by simp [State.dcu]
@[simp] theorem dcu_bump (s : State) (k : Nat) (n : Int) (m : Nat) : (s.bump k n).dcu m = s.dcu m := by simp [State.dcu]
@[simp] theorem dcu_wrBit (s : State) (k i : Nat) (b : Bool) (m : Nat) : (s.wrBit k i b).dcu m = s.dcu m := by simp [State.dcu]
@[simp] theorem dcu_cause (s : State) (b : Nat) (m : Nat) : (s.cause b).dcu m = s.dcu m := by simp [State.dcu]
@[simp] theorem dcu_cmdDone (s : State) (k : Nat) (v : Int) (m : Nat) : (s.cmdDone k v).dcu m = s.dcu m := by simp [State.dcu]
@[simp] theorem dcu_recordAt (s : State) (i : Stamp) (fw : Bool) (c e : Nat) (p1 p2 p3 : Int) (m : Nat) : (s.recordAt i fw c e p1 p2 p3).dcu m = s.dcu m := by simp [State.dcu]
@[simp] theorem dcu_record (s : State) (c e : Nat) (p1 p2 p3 : Int) (m : Nat) : (s.record c e p1 p2 p3).dcu m = s.dcu m := by simp [State.dcu]
@[simp] theorem dcu_recordFw (s : State) (c e : Nat) (p1 p2 p3 : Int) (m : Nat) : (s.recordFw c e p1 p2 p3).dcu m = s.dcu m := by simp [State.dcu]
@[simp] theorem pd_wr (s : State) (k : Nat) (v : Int) (m : Nat) : (s.wr k v).pd m = s.pd m := by simp [State.pd]
@[simp] theorem pd_bump (s : State) (k : Nat) (n : Int) (m : Nat) : (s.bump k n).pd m = s.pd m := by simp [State.pd]
@[simp] theorem pd_wrBit (s : State) (k i : Nat) (b : Bool) (m : Nat) : (s.wrBit k i b).pd m = s.pd m := by simp [State.pd]
@[simp] theorem pd_cause (s : State) (b : Nat) (m : Nat) : (s.cause b).pd m = s.pd m := by simp [State.pd]
@[simp] theorem pd_cmdDone (s : State) (k : Nat) (v : Int) (m : Nat) : (s.cmdDone k v).pd m = s.pd m := by simp [State.pd]
@[simp] theorem pd_recordAt (s : State) (i : Stamp) (fw : Bool) (c e : Nat) (p1 p2 p3 : Int) (m : Nat) : (s.recordAt i fw c e p1 p2 p3).pd m = s.pd m := by simp [State.pd]
@[simp] theorem pd_record (s : State) (c e : Nat) (p1 p2 p3 : Int) (m : Nat) : (s.record c e p1 p2 p3).pd m = s.pd m := by simp [State.pd]
@[simp] theorem pd_recordFw (s : State) (c e : Nat) (p1 p2 p3 : Int) (m : Nat) : (s.recordFw c e p1 p2 p3).pd m = s.pd m := by simp [State.pd]
@[simp] theorem ch_wr (s : State) (k : Nat) (v : Int) (m : Nat) : (s.wr k v).ch m = s.ch m := by simp [State.ch]
@[simp] theorem ch_bump (s : State) (k : Nat) (n : Int) (m : Nat) : (s.bump k n).ch m = s.ch m := by simp [State.ch]
@[simp] theorem ch_wrBit (s : State) (k i : Nat) (b : Bool) (m : Nat) : (s.wrBit k i b).ch m = s.ch m := by simp [State.ch]
@[simp] theorem ch_cause (s : State) (b : Nat) (m : Nat) : (s.cause b).ch m = s.ch m := by simp [State.ch]
@[simp] theorem ch_cmdDone (s : State) (k : Nat) (v : Int) (m : Nat) : (s.cmdDone k v).ch m = s.ch m := by simp [State.ch]
@[simp] theorem ch_recordAt (s : State) (i : Stamp) (fw : Bool) (c e : Nat) (p1 p2 p3 : Int) (m : Nat) : (s.recordAt i fw c e p1 p2 p3).ch m = s.ch m := by simp [State.ch]
@[simp] theorem ch_record (s : State) (c e : Nat) (p1 p2 p3 : Int) (m : Nat) : (s.record c e p1 p2 p3).ch m = s.ch m := by simp [State.ch]
@[simp] theorem ch_recordFw (s : State) (c e : Nat) (p1 p2 p3 : Int) (m : Nat) : (s.recordFw c e p1 p2 p3).ch m = s.ch m := by simp [State.ch]
@[simp] theorem sat_wr (s : State) (k : Nat) (v : Int) (m : Nat) : (s.wr k v).sat m = s.sat m := by simp [State.sat]
@[simp] theorem sat_bump (s : State) (k : Nat) (n : Int) (m : Nat) : (s.bump k n).sat m = s.sat m := by simp [State.sat]
@[simp] theorem sat_wrBit (s : State) (k i : Nat) (b : Bool) (m : Nat) : (s.wrBit k i b).sat m = s.sat m := by simp [State.sat]
@[simp] theorem sat_cause (s : State) (b : Nat) (m : Nat) : (s.cause b).sat m = s.sat m := by simp [State.sat]
@[simp] theorem sat_cmdDone (s : State) (k : Nat) (v : Int) (m : Nat) : (s.cmdDone k v).sat m = s.sat m := by simp [State.sat]
@[simp] theorem sat_recordAt (s : State) (i : Stamp) (fw : Bool) (c e : Nat) (p1 p2 p3 : Int) (m : Nat) : (s.recordAt i fw c e p1 p2 p3).sat m = s.sat m := by simp [State.sat]
@[simp] theorem sat_record (s : State) (c e : Nat) (p1 p2 p3 : Int) (m : Nat) : (s.record c e p1 p2 p3).sat m = s.sat m := by simp [State.sat]
@[simp] theorem sat_recordFw (s : State) (c e : Nat) (p1 p2 p3 : Int) (m : Nat) : (s.recordFw c e p1 p2 p3).sat m = s.sat m := by simp [State.sat]
@[simp] theorem limiter_wr (s : State) (k : Nat) (v : Int) (m : Nat) : (s.wr k v).limiter m = s.limiter m := by simp [State.limiter]
@[simp] theorem limiter_bump (s : State) (k : Nat) (n : Int) (m : Nat) : (s.bump k n).limiter m = s.limiter m := by simp [State.limiter]
@[simp] theorem limiter_wrBit (s : State) (k i : Nat) (b : Bool) (m : Nat) : (s.wrBit k i b).limiter m = s.limiter m := by simp [State.limiter]
@[simp] theorem limiter_cause (s : State) (b : Nat) (m : Nat) : (s.cause b).limiter m = s.limiter m := by simp [State.limiter]
@[simp] theorem limiter_cmdDone (s : State) (k : Nat) (v : Int) (m : Nat) : (s.cmdDone k v).limiter m = s.limiter m := by simp [State.limiter]
@[simp] theorem limiter_recordAt (s : State) (i : Stamp) (fw : Bool) (c e : Nat) (p1 p2 p3 : Int) (m : Nat) : (s.recordAt i fw c e p1 p2 p3).limiter m = s.limiter m := by simp [State.limiter]
@[simp] theorem limiter_record (s : State) (c e : Nat) (p1 p2 p3 : Int) (m : Nat) : (s.record c e p1 p2 p3).limiter m = s.limiter m := by simp [State.limiter]
@[simp] theorem limiter_recordFw (s : State) (c e : Nat) (p1 p2 p3 : Int) (m : Nat) : (s.recordFw c e p1 p2 p3).limiter m = s.limiter m := by simp [State.limiter]
@[simp] theorem fp_wr (s : State) (k : Nat) (v : Int) (m : Nat) : (s.wr k v).fp m = s.fp m := by simp [State.fp]
@[simp] theorem fp_bump (s : State) (k : Nat) (n : Int) (m : Nat) : (s.bump k n).fp m = s.fp m := by simp [State.fp]
@[simp] theorem fp_wrBit (s : State) (k i : Nat) (b : Bool) (m : Nat) : (s.wrBit k i b).fp m = s.fp m := by simp [State.fp]
@[simp] theorem fp_cause (s : State) (b : Nat) (m : Nat) : (s.cause b).fp m = s.fp m := by simp [State.fp]
@[simp] theorem fp_cmdDone (s : State) (k : Nat) (v : Int) (m : Nat) : (s.cmdDone k v).fp m = s.fp m := by simp [State.fp]
@[simp] theorem fp_recordAt (s : State) (i : Stamp) (fw : Bool) (c e : Nat) (p1 p2 p3 : Int) (m : Nat) : (s.recordAt i fw c e p1 p2 p3).fp m = s.fp m := by simp [State.fp]
@[simp] theorem fp_record (s : State) (c e : Nat) (p1 p2 p3 : Int) (m : Nat) : (s.record c e p1 p2 p3).fp m = s.fp m := by simp [State.fp]
@[simp] theorem fp_recordFw (s : State) (c e : Nat) (p1 p2 p3 : Int) (m : Nat) : (s.recordFw c e p1 p2 p3).fp m = s.fp m := by simp [State.fp]
@[simp] theorem port_wr (s : State) (k : Nat) (v : Int) (m : Nat) : (s.wr k v).port m = s.port m := by simp [State.port]
@[simp] theorem port_bump (s : State) (k : Nat) (n : Int) (m : Nat) : (s.bump k n).port m = s.port m := by simp [State.port]
@[simp] theorem port_wrBit (s : State) (k i : Nat) (b : Bool) (m : Nat) : (s.wrBit k i b).port m = s.port m := by simp [State.port]
@[simp] theorem port_cause (s : State) (b : Nat) (m : Nat) : (s.cause b).port m = s.port m := by simp [State.port]
@[simp] theorem port_cmdDone (s : State) (k : Nat) (v : Int) (m : Nat) : (s.cmdDone k v).port m = s.port m := by simp [State.port]
@[simp] theorem port_recordAt (s : State) (i : Stamp) (fw : Bool) (c e : Nat) (p1 p2 p3 : Int) (m : Nat) : (s.recordAt i fw c e p1 p2 p3).port m = s.port m := by simp [State.port]
@[simp] theorem port_record (s : State) (c e : Nat) (p1 p2 p3 : Int) (m : Nat) : (s.record c e p1 p2 p3).port m = s.port m := by simp [State.port]
@[simp] theorem port_recordFw (s : State) (c e : Nat) (p1 p2 p3 : Int) (m : Nat) : (s.recordFw c e p1 p2 p3).port m = s.port m := by simp [State.port]

/-! ### A sub, and a record, of a state written out by its fields -/

@[simp] theorem rd_mk (dict') (blob') (hclk') (beatHclk') (free') (irqN') (smbAlert') (notify') (lostNow') (hub') (rails') (phs') (ibc') (loops') (snares') (upbeat') (dcus') (pds') (clk') (obs') (arb') (scrubAt') (chs') (hk') (gong') (energy') (tel') (budget') (drum') (fw') (start') (lfsr') (shelf') (chest') (hang') (host') (pending') (k : Nat) :
    (State.mk dict' blob' hclk' beatHclk' free' irqN' smbAlert' notify' lostNow' hub' rails' phs' ibc' loops' snares' upbeat' dcus' pds' clk' obs' arb' scrubAt' chs' hk' gong' energy' tel' budget' drum' fw' start' lfsr' shelf' chest' hang' host' pending').rd k = tabGet dictDefault dict' k := rfl
@[simp] theorem tabGet_dict (s : State) (k : Nat) : tabGet dictDefault s.dict k = s.rd k := rfl
@[simp] theorem rail_mk (dict') (blob') (hclk') (beatHclk') (free') (irqN') (smbAlert') (notify') (lostNow') (hub') (rails') (phs') (ibc') (loops') (snares') (upbeat') (dcus') (pds') (clk') (obs') (arb') (scrubAt') (chs') (hk') (gong') (energy') (tel') (budget') (drum') (fw') (start') (lfsr') (shelf') (chest') (hang') (host') (pending') (n : Nat) :
    (State.mk dict' blob' hclk' beatHclk' free' irqN' smbAlert' notify' lostNow' hub' rails' phs' ibc' loops' snares' upbeat' dcus' pds' clk' obs' arb' scrubAt' chs' hk' gong' energy' tel' budget' drum' fw' start' lfsr' shelf' chest' hang' host' pending').rail n = tabGet (fun _ => {}) rails' n := rfl
@[simp] theorem tabGet_rails (s : State) (n : Nat) : tabGet (fun _ => ({} : RailInt)) s.rails n = s.rail n := rfl
@[simp] theorem ph_mk (dict') (blob') (hclk') (beatHclk') (free') (irqN') (smbAlert') (notify') (lostNow') (hub') (rails') (phs') (ibc') (loops') (snares') (upbeat') (dcus') (pds') (clk') (obs') (arb') (scrubAt') (chs') (hk') (gong') (energy') (tel') (budget') (drum') (fw') (start') (lfsr') (shelf') (chest') (hang') (host') (pending') (n : Nat) :
    (State.mk dict' blob' hclk' beatHclk' free' irqN' smbAlert' notify' lostNow' hub' rails' phs' ibc' loops' snares' upbeat' dcus' pds' clk' obs' arb' scrubAt' chs' hk' gong' energy' tel' budget' drum' fw' start' lfsr' shelf' chest' hang' host' pending').ph n = tabGet (fun _ => {}) phs' n := rfl
@[simp] theorem tabGet_phs (s : State) (n : Nat) : tabGet (fun _ => ({} : PhInt)) s.phs n = s.ph n := rfl
@[simp] theorem loop_mk (dict') (blob') (hclk') (beatHclk') (free') (irqN') (smbAlert') (notify') (lostNow') (hub') (rails') (phs') (ibc') (loops') (snares') (upbeat') (dcus') (pds') (clk') (obs') (arb') (scrubAt') (chs') (hk') (gong') (energy') (tel') (budget') (drum') (fw') (start') (lfsr') (shelf') (chest') (hang') (host') (pending') (n : Nat) :
    (State.mk dict' blob' hclk' beatHclk' free' irqN' smbAlert' notify' lostNow' hub' rails' phs' ibc' loops' snares' upbeat' dcus' pds' clk' obs' arb' scrubAt' chs' hk' gong' energy' tel' budget' drum' fw' start' lfsr' shelf' chest' hang' host' pending').loop n = tabGet (fun _ => {}) loops' n := rfl
@[simp] theorem tabGet_loops (s : State) (n : Nat) : tabGet (fun _ => ({} : LoopInt)) s.loops n = s.loop n := rfl
@[simp] theorem snare_mk (dict') (blob') (hclk') (beatHclk') (free') (irqN') (smbAlert') (notify') (lostNow') (hub') (rails') (phs') (ibc') (loops') (snares') (upbeat') (dcus') (pds') (clk') (obs') (arb') (scrubAt') (chs') (hk') (gong') (energy') (tel') (budget') (drum') (fw') (start') (lfsr') (shelf') (chest') (hang') (host') (pending') (n : Nat) :
    (State.mk dict' blob' hclk' beatHclk' free' irqN' smbAlert' notify' lostNow' hub' rails' phs' ibc' loops' snares' upbeat' dcus' pds' clk' obs' arb' scrubAt' chs' hk' gong' energy' tel' budget' drum' fw' start' lfsr' shelf' chest' hang' host' pending').snare n = tabGet (fun _ => {}) snares' n := rfl
@[simp] theorem tabGet_snares (s : State) (n : Nat) : tabGet (fun _ => ({} : SnareInt)) s.snares n = s.snare n := rfl
@[simp] theorem dcu_mk (dict') (blob') (hclk') (beatHclk') (free') (irqN') (smbAlert') (notify') (lostNow') (hub') (rails') (phs') (ibc') (loops') (snares') (upbeat') (dcus') (pds') (clk') (obs') (arb') (scrubAt') (chs') (hk') (gong') (energy') (tel') (budget') (drum') (fw') (start') (lfsr') (shelf') (chest') (hang') (host') (pending') (n : Nat) :
    (State.mk dict' blob' hclk' beatHclk' free' irqN' smbAlert' notify' lostNow' hub' rails' phs' ibc' loops' snares' upbeat' dcus' pds' clk' obs' arb' scrubAt' chs' hk' gong' energy' tel' budget' drum' fw' start' lfsr' shelf' chest' hang' host' pending').dcu n = tabGet (fun _ => {}) dcus' n := rfl
@[simp] theorem tabGet_dcus (s : State) (n : Nat) : tabGet (fun _ => ({} : DcuInt)) s.dcus n = s.dcu n := rfl
@[simp] theorem pd_mk (dict') (blob') (hclk') (beatHclk') (free') (irqN') (smbAlert') (notify') (lostNow') (hub') (rails') (phs') (ibc') (loops') (snares') (upbeat') (dcus') (pds') (clk') (obs') (arb') (scrubAt') (chs') (hk') (gong') (energy') (tel') (budget') (drum') (fw') (start') (lfsr') (shelf') (chest') (hang') (host') (pending') (n : Nat) :
    (State.mk dict' blob' hclk' beatHclk' free' irqN' smbAlert' notify' lostNow' hub' rails' phs' ibc' loops' snares' upbeat' dcus' pds' clk' obs' arb' scrubAt' chs' hk' gong' energy' tel' budget' drum' fw' start' lfsr' shelf' chest' hang' host' pending').pd n = tabGet (fun _ => {}) pds' n := rfl
@[simp] theorem tabGet_pds (s : State) (n : Nat) : tabGet (fun _ => ({} : PdInt)) s.pds n = s.pd n := rfl
@[simp] theorem ch_mk (dict') (blob') (hclk') (beatHclk') (free') (irqN') (smbAlert') (notify') (lostNow') (hub') (rails') (phs') (ibc') (loops') (snares') (upbeat') (dcus') (pds') (clk') (obs') (arb') (scrubAt') (chs') (hk') (gong') (energy') (tel') (budget') (drum') (fw') (start') (lfsr') (shelf') (chest') (hang') (host') (pending') (n : Nat) :
    (State.mk dict' blob' hclk' beatHclk' free' irqN' smbAlert' notify' lostNow' hub' rails' phs' ibc' loops' snares' upbeat' dcus' pds' clk' obs' arb' scrubAt' chs' hk' gong' energy' tel' budget' drum' fw' start' lfsr' shelf' chest' hang' host' pending').ch n = tabGet (fun _ => {}) chs' n := rfl
@[simp] theorem tabGet_chs (s : State) (n : Nat) : tabGet (fun _ => ({} : ChInt)) s.chs n = s.ch n := rfl

/-! ### A sub reads the same after every update of another field -/

@[simp] theorem rd_useFree (s : State) (k' : Nat) : (s.useFree).rd k' = s.rd k' := rfl
@[simp] theorem rd_setRail (s : State) (n : Nat) (r : RailInt) (k' : Nat) : (s.setRail n r).rd k' = s.rd k' := rfl
@[simp] theorem rd_setPh (s : State) (n : Nat) (r : PhInt) (k' : Nat) : (s.setPh n r).rd k' = s.rd k' := rfl
@[simp] theorem rd_setLoop (s : State) (n : Nat) (r : LoopInt) (k' : Nat) : (s.setLoop n r).rd k' = s.rd k' := rfl
@[simp] theorem rd_setSnare (s : State) (n : Nat) (r : SnareInt) (k' : Nat) : (s.setSnare n r).rd k' = s.rd k' := rfl
@[simp] theorem rd_setDcu (s : State) (n : Nat) (r : DcuInt) (k' : Nat) : (s.setDcu n r).rd k' = s.rd k' := rfl
@[simp] theorem rd_setPd (s : State) (n : Nat) (r : PdInt) (k' : Nat) : (s.setPd n r).rd k' = s.rd k' := rfl
@[simp] theorem rd_setCh (s : State) (n : Nat) (r : ChInt) (k' : Nat) : (s.setCh n r).rd k' = s.rd k' := rfl
@[simp] theorem rd_setSat (s : State) (n : Nat) (r : SatInt) (k' : Nat) : (s.setSat n r).rd k' = s.rd k' := rfl
@[simp] theorem rd_setLimiter (s : State) (n : Nat) (r : Limiter) (k' : Nat) : (s.setLimiter n r).rd k' = s.rd k' := rfl
@[simp] theorem rd_setFp (s : State) (n : Nat) (r : FpInt) (k' : Nat) : (s.setFp n r).rd k' = s.rd k' := rfl
@[simp] theorem rd_setPort (s : State) (n : Nat) (r : PortInt) (k' : Nat) : (s.setPort n r).rd k' = s.rd k' := rfl

end Sys2Proof.Machine
end

