-- ==== Sys2Proof/Laws/Ops.lean ====
section
/-! SUPPORT. What the named operations on subs and records do: a written sub reads the value its type holds, every other sub reads as
before. -/

namespace Sys2Proof.Machine

/-- A written sub reads what its type holds of the value. -/
@[simp] theorem rd_wr_same (s : State) (k : Nat) (v : Int) : (s.wr k v).rd k = fit k v := tabGet_tabPut_same _ _ _ _

/-- A write leaves every other sub. -/
theorem rd_wr_ne (s : State) (k j : Nat) (v : Int) (h : j ≠ k) : (s.wr k v).rd j = s.rd j := tabGet_tabPut_ne _ _ _ _ _ h

/-- A value that the type of a sub holds is stored as it is (R86). -/
theorem fit_of_fits (k : Nat) (v : Int) (h : reduceTo (tyOf k) v = v) : fit k v = v := by simp [fit, h]

/-- Reducing twice reduces once. -/
theorem reduceTo_reduceTo (ty : Ty) (v : Int) : reduceTo ty (reduceTo ty v) = reduceTo ty v := by
  cases ty with
  | u b => simp [reduceTo]
  | s b => simp only [reduceTo]; rw [Int.sub_add_cancel, Int.emod_emod_of_dvd _ (Int.dvd_refl _)]

/-- Whatever is written to a sub, it holds a value of its type (R86). -/
theorem reduceTo_fit (k : Nat) (v : Int) : reduceTo (tyOf k) (fit k v) = fit k v := by
  unfold fit
  split
  · assumption
  · split <;> exact reduceTo_reduceTo _ _

/-- A counter after it counts. -/
@[simp] theorem rd_bump_same (s : State) (k : Nat) (n : Int) : (s.bump k n).rd k = fit k (s.rd k + n) := by simp [State.bump]

theorem rd_bump_ne (s : State) (k j : Nat) (n : Int) (h : j ≠ k) : (s.bump k n).rd j = s.rd j := rd_wr_ne _ _ _ _ h

/-- A cause touches IRQ_STATUS alone (R111). -/
theorem rd_cause_ne (s : State) (b j : Nat) (h : j ≠ Irq.irqStatus) : (s.cause b).rd j = s.rd j := rd_wr_ne _ _ _ _ h

theorem rd_wrBit_ne (s : State) (k i j : Nat) (b : Bool) (h : j ≠ k) : (s.wrBit k i b).rd j = s.rd j := rd_wr_ne _ _ _ _ h

/-- A finished command: its status value and IRQ_STATUS (R111). -/
theorem rd_cmdDone_ne (s : State) (k j : Nat) (v : Int) (h : j ≠ k) (hi : j ≠ Irq.irqStatus) : (s.cmdDone k v).rd j = s.rd j := by
  simp only [State.cmdDone]; rw [rd_cause_ne _ _ _ hi, rd_wr_ne _ _ _ _ h]

theorem rd_cmdDone_same (s : State) (k : Nat) (v : Int) (hi : k ≠ Irq.irqStatus) : (s.cmdDone k v).rd k = fit k v := by
  simp only [State.cmdDone]; rw [rd_cause_ne _ _ _ hi, rd_wr_same]

/-- A record that is lost is counted in RECQ_LOST and SHELF_LOST of its unit; no other sub changes (R412). -/
theorem rd_loseRecord_ne (s : State) (r : Rec) (j : Nat) (h1 : j ≠ Ev.recqLost) (h2 : ∀ u, j ≠ Shelf.shelfLost (u % 128)) :
    (s.loseRecord r).rd j = s.rd j := by
  unfold State.loseRecord
  rw [rd_bump_ne _ _ _ _ (h2 _), rd_bump_ne _ _ _ _ h1]; rfl

/-- A record enters the queue, and at most one, of whatever unit, is counted lost (R412). -/
theorem rd_recordAt_ne (s : State) (i : Stamp) (fw : Bool) (src code : Nat) (p1 p2 p3 : Int) (j : Nat) (h1 : j ≠ Ev.recqLost)
    (h2 : ∀ u, j ≠ Shelf.shelfLost (u % 128)) : (s.recordAt i fw src code p1 p2 p3).rd j = s.rd j := by
  unfold State.recordAt
  simp only
  split
  · rfl
  · exact rd_loseRecord_ne _ _ _ h1 h2

theorem rd_record_ne (s : State) (src code : Nat) (p1 p2 p3 : Int) (j : Nat) (h1 : j ≠ Ev.recqLost)
    (h2 : ∀ u, j ≠ Shelf.shelfLost (u % 128)) : (s.record src code p1 p2 p3).rd j = s.rd j := rd_recordAt_ne _ _ _ _ _ _ _ _ _ h1 h2

theorem rd_recordFw_ne (s : State) (src code : Nat) (p1 p2 p3 : Int) (j : Nat) (h1 : j ≠ Ev.recqLost)
    (h2 : ∀ u, j ≠ Shelf.shelfLost (u % 128)) : (s.recordFw src code p1 p2 p3).rd j = s.rd j := rd_recordAt_ne _ _ _ _ _ _ _ _ _ h1 h2

/-- A write keeps the canonical form of the dictionary. -/
theorem wf_wr (s : State) (k : Nat) (v : Int) (h : tabWf s.dict = true) : tabWf (s.wr k v).dict = true := tabWf_tabPut _ _ _ h

/-- A record keeps the canonical form of the dictionary. -/
theorem wf_recordAt (s : State) (i : Stamp) (fw : Bool) (src code : Nat) (p1 p2 p3 : Int) (h : tabWf s.dict = true) :
    tabWf (s.recordAt i fw src code p1 p2 p3).dict = true := by
  unfold State.recordAt
  simp only
  split
  · exact h
  · exact wf_wr _ _ _ (wf_wr _ _ _ h)

/-- A condition that does not hold changes nothing. -/
@[simp] theorem when_false (f : State → State) (s : State) : when false f s = s := rfl

/-- A condition that holds applies the change. -/
@[simp] theorem when_true (f : State → State) (s : State) : when true f s = f s := rfl

/-- What a loop over a list keeps, if each of its steps does. -/
theorem forEach_keeps {α : Type} (P : State → Prop) (l : List α) (f : α → State → State) (s : State)
    (hf : ∀ a s, P s → P (f a s)) (h : P s) : P (forEach l f s) := by
  unfold forEach
  induction l generalizing s with
  | nil => exact h
  | cons a r ih => exact ih _ (hf _ _ h)

/-- A sub that no step of a loop changes. -/
theorem rd_forEach {α : Type} (l : List α) (f : α → State → State) (s : State) (k : Nat) (hf : ∀ a s, (f a s).rd k = s.rd k) :
    (forEach l f s).rd k = s.rd k :=
  forEach_keeps (fun t => t.rd k = s.rd k) l f s (fun a t h => by rw [hf, h]) rfl

end Sys2Proof.Machine
end

