-- ==== Sys2Proof/Laws/Ring.lean ====
section
/-! SUPPORT. What the operations shared by the ring, the fabric and the ports can do: each changes one part of the machine and no sub. -/

namespace Sys2Proof.Machine

/-- An access asked of the hub fabric changes the fabric alone (R236). -/
theorem fabric_eq (s : State) (l w : Nat) : s.fabric l w = { s with arb := (s.fabric l w).arb } := rfl

@[simp] theorem rd_fabric (s : State) (l w k : Nat) : (s.fabric l w).rd k = s.rd k := rfl

/-- A free value taken advances its count alone. -/
theorem useFree_eq (s : State) : s.useFree = { s with free := s.useFree.free } := rfl

/-- A write that is noted changes the host side alone (R11, R92). -/
theorem noteWrite_eq (s : State) (k : Nat) : s.noteWrite k = { s with host := (s.noteWrite k).host } := rfl

@[simp] theorem rd_noteWrite (s : State) (k j : Nat) : (s.noteWrite k).rd j = s.rd j := rfl

@[simp] theorem rd_noteEarly (s : State) (k j : Nat) : (s.noteEarly k).rd j = s.rd j := rfl

/-- A sub that was noted in an HCLK is among those written in it. -/
theorem writtenNow_noteWrite (s : State) (k : Nat) : (s.noteWrite k).writtenNow = s.writtenNow ++ [k] := by
  simp [State.noteWrite, State.writtenNow]

/-- A value sent to a satellite changes the hub alone (R15). -/
theorem sendRing_eq (s : State) (sat item : Nat) (v : Int) : s.sendRing sat item v = { s with hub := (s.sendRing sat item v).hub } := by
  unfold State.sendRing State.sendNow; split <;> rfl

@[simp] theorem rd_sendRing (s : State) (sat item : Nat) (v : Int) (k : Nat) : (s.sendRing sat item v).rd k = s.rd k := by
  rw [sendRing_eq]; rfl

/-- Copies taken off the ring change the hub alone. -/
theorem dropCopies_eq (s : State) (sat item : Nat) : s.dropCopies sat item = { s with hub := (s.dropCopies sat item).hub } := rfl

@[simp] theorem rd_dropCopies (s : State) (sat item k : Nat) : (s.dropCopies sat item).rd k = s.rd k := rfl

end Sys2Proof.Machine
end

