-- ==== Sys2Proof/Laws/Host.lean ====
section
/-! SUPPORT. What a request over a transport does before its effect (R42, R46, R47, R236): the fabric access it waits for, and nothing else;
no request is taken while the host side is down. -/

namespace Sys2Proof.Machine

/-! ### What an access that waits leaves -/

@[simp] theorem fabric_dict (s : State) (l w : Nat) : (s.fabric l w).dict = s.dict := rfl
@[simp] theorem fabric_blob (s : State) (l w : Nat) : (s.fabric l w).blob = s.blob := rfl
@[simp] theorem fabric_hclk (s : State) (l w : Nat) : (s.fabric l w).hclk = s.hclk := rfl
@[simp] theorem fabric_beatHclk (s : State) (l w : Nat) : (s.fabric l w).beatHclk = s.beatHclk := rfl
@[simp] theorem fabric_free (s : State) (l w : Nat) : (s.fabric l w).free = s.free := rfl
@[simp] theorem fabric_irqN (s : State) (l w : Nat) : (s.fabric l w).irqN = s.irqN := rfl
@[simp] theorem fabric_smbAlert (s : State) (l w : Nat) : (s.fabric l w).smbAlert = s.smbAlert := rfl
@[simp] theorem fabric_notify (s : State) (l w : Nat) : (s.fabric l w).notify = s.notify := rfl
@[simp] theorem fabric_lostNow (s : State) (l w : Nat) : (s.fabric l w).lostNow = s.lostNow := rfl
@[simp] theorem fabric_hub (s : State) (l w : Nat) : (s.fabric l w).hub = s.hub := rfl
@[simp] theorem fabric_rails (s : State) (l w : Nat) : (s.fabric l w).rails = s.rails := rfl
@[simp] theorem fabric_phs (s : State) (l w : Nat) : (s.fabric l w).phs = s.phs := rfl
@[simp] theorem fabric_ibc (s : State) (l w : Nat) : (s.fabric l w).ibc = s.ibc := rfl
@[simp] theorem fabric_loops (s : State) (l w : Nat) : (s.fabric l w).loops = s.loops := rfl
@[simp] theorem fabric_snares (s : State) (l w : Nat) : (s.fabric l w).snares = s.snares := rfl
@[simp] theorem fabric_upbeat (s : State) (l w : Nat) : (s.fabric l w).upbeat = s.upbeat := rfl
@[simp] theorem fabric_dcus (s : State) (l w : Nat) : (s.fabric l w).dcus = s.dcus := rfl
@[simp] theorem fabric_pds (s : State) (l w : Nat) : (s.fabric l w).pds = s.pds := rfl
@[simp] theorem fabric_clk (s : State) (l w : Nat) : (s.fabric l w).clk = s.clk := rfl
@[simp] theorem fabric_obs (s : State) (l w : Nat) : (s.fabric l w).obs = s.obs := rfl
@[simp] theorem fabric_scrubAt (s : State) (l w : Nat) : (s.fabric l w).scrubAt = s.scrubAt := rfl
@[simp] theorem fabric_chs (s : State) (l w : Nat) : (s.fabric l w).chs = s.chs := rfl
@[simp] theorem fabric_hk (s : State) (l w : Nat) : (s.fabric l w).hk = s.hk := rfl
@[simp] theorem fabric_gong (s : State) (l w : Nat) : (s.fabric l w).gong = s.gong := rfl
@[simp] theorem fabric_energy (s : State) (l w : Nat) : (s.fabric l w).energy = s.energy := rfl
@[simp] theorem fabric_tel (s : State) (l w : Nat) : (s.fabric l w).tel = s.tel := rfl
@[simp] theorem fabric_budget (s : State) (l w : Nat) : (s.fabric l w).budget = s.budget := rfl
@[simp] theorem fabric_drum (s : State) (l w : Nat) : (s.fabric l w).drum = s.drum := rfl
@[simp] theorem fabric_fw (s : State) (l w : Nat) : (s.fabric l w).fw = s.fw := rfl
@[simp] theorem fabric_start (s : State) (l w : Nat) : (s.fabric l w).start = s.start := rfl
@[simp] theorem fabric_lfsr (s : State) (l w : Nat) : (s.fabric l w).lfsr = s.lfsr := rfl
@[simp] theorem fabric_shelf (s : State) (l w : Nat) : (s.fabric l w).shelf = s.shelf := rfl
@[simp] theorem fabric_chest (s : State) (l w : Nat) : (s.fabric l w).chest = s.chest := rfl
@[simp] theorem fabric_hang (s : State) (l w : Nat) : (s.fabric l w).hang = s.hang := rfl
@[simp] theorem fabric_host (s : State) (l w : Nat) : (s.fabric l w).host = s.host := rfl
@[simp] theorem fabric_pending (s : State) (l w : Nat) : (s.fabric l w).pending = s.pending := rfl

/-! ### What does not look at the fabric -/

@[simp] theorem rail_fabric (s : State) (l w : Nat) (n : Nat) : (s.fabric l w).rail n = s.rail n := rfl
@[simp] theorem ph_fabric (s : State) (l w : Nat) (p : Nat) : (s.fabric l w).ph p = s.ph p := rfl
@[simp] theorem loop_fabric (s : State) (l w : Nat) (n : Nat) : (s.fabric l w).loop n = s.loop n := rfl
@[simp] theorem snare_fabric (s : State) (l w : Nat) (c : Nat) : (s.fabric l w).snare c = s.snare c := rfl
@[simp] theorem dcu_fabric (s : State) (l w : Nat) (c : Nat) : (s.fabric l w).dcu c = s.dcu c := rfl
@[simp] theorem pd_fabric (s : State) (l w : Nat) (d : Nat) : (s.fabric l w).pd d = s.pd d := rfl
@[simp] theorem fp_fabric (s : State) (l w : Nat) (k : Nat) : (s.fabric l w).fp k = s.fp k := rfl
@[simp] theorem port_fabric (s : State) (l w : Nat) (p : Nat) : (s.fabric l w).port p = s.port p := rfl
@[simp] theorem win_fabric (s : State) (l w : Nat) (u : Nat) : (s.fabric l w).win u = s.win u := rfl
@[simp] theorem rdN_fabric (s : State) (l w : Nat) (k : Nat) : (s.fabric l w).rdN k = s.rdN k := rfl
@[simp] theorem bit_fabric (s : State) (l w : Nat) (k i : Nat) : (s.fabric l w).bit k i = s.bit k i := rfl
@[simp] theorem hostUp_fabric (s : State) (l w : Nat) : (s.fabric l w).hostUp = s.hostUp := rfl
@[simp] theorem beat_fabric (s : State) (l w : Nat) : (s.fabric l w).beat = s.beat := rfl
@[simp] theorem tick_fabric (s : State) (l w : Nat) : (s.fabric l w).tick = s.tick := rfl
@[simp] theorem stamp_fabric (s : State) (l w : Nat) : (s.fabric l w).stamp = s.stamp := rfl
@[simp] theorem railState_fabric (s : State) (l w : Nat) (n : Nat) : (s.fabric l w).railState n = s.railState n := rfl
@[simp] theorem regulating_fabric (s : State) (l w : Nat) (n : Nat) : (s.fabric l w).regulating n = s.regulating n := rfl
@[simp] theorem onState_fabric (s : State) (l w : Nat) (n : Nat) : (s.fabric l w).onState n = s.onState n := rfl
@[simp] theorem allOff_fabric (s : State) (l w : Nat) : (s.fabric l w).allOff = s.allOff := rfl
@[simp] theorem rung1_fabric (s : State) (l w : Nat) : (s.fabric l w).rung1 = s.rung1 := rfl
@[simp] theorem tripComes_fabric (s : State) (l w : Nat) : (s.fabric l w).tripComes = s.tripComes := rfl
@[simp] theorem testBars_fabric (s : State) (l w : Nat) (n : Nat) : (s.fabric l w).testBars n = s.testBars n := rfl
@[simp] theorem availOf_fabric (s : State) (l w : Nat) (n : Nat) : (s.fabric l w).availOf n = s.availOf n := rfl
@[simp] theorem actList_fabric (s : State) (l w : Nat) (n : Nat) : (s.fabric l w).actList n = s.actList n := rfl
@[simp] theorem comes_fabric (s : State) (l w : Nat) (f : Instr → Bool) : (s.fabric l w).comes f = s.comes f := rfl
@[simp] theorem elapsed_fabric (s : State) (l w : Nat) (t k : Nat) : (s.fabric l w).elapsed t k = s.elapsed t k := rfl
@[simp] theorem retryOk_fabric (s : State) (l w : Nat) : (s.fabric l w).retryOk = s.retryOk := rfl
@[simp] theorem inhibitHere_fabric (s : State) (l w : Nat) : (s.fabric l w).inhibitHere = s.inhibitHere := rfl
@[simp] theorem hasEdges_fabric (s : State) (l w : Nat) (c : Nat) : (s.fabric l w).hasEdges c = s.hasEdges c := rfl
@[simp] theorem cdIso_fabric (s : State) (l w : Nat) (c : Nat) : (s.fabric l w).cdIso c = s.cdIso c := rfl
@[simp] theorem fpRuns_fabric (s : State) (l w : Nat) (k : Nat) : (s.fabric l w).fpRuns k = s.fpRuns k := rfl
@[simp] theorem engineOpen_fabric (s : State) (l w : Nat) : (s.fabric l w).engineOpen = s.engineOpen := rfl
@[simp] theorem inactive_fabric (s : State) (l w : Nat) : (s.fabric l w).inactive = s.inactive := rfl
@[simp] theorem freeVal_fabric (s : State) (l w : Nat) (i : Nat) : (s.fabric l w).freeVal i = s.freeVal i := rfl
@[simp] theorem lcReason_fabric (s : State) (l w : Nat) (v : Nat) : (s.fabric l w).lcReason v = s.lcReason v := rfl
@[simp] theorem earlyNow_fabric (s : State) (l w : Nat) : (s.fabric l w).earlyNow = s.earlyNow := rfl
@[simp] theorem writtenNow_fabric (s : State) (l w : Nat) : (s.fabric l w).writtenNow = s.writtenNow := rfl

/-! ### Host rows -/

/-- A host row that is taken: its access waits, and its effect follows. -/
theorem hostRow_up (s : State) (f : State → State) (h : s.hostUp = true) : s.hostRow f = f (s.fabric 3 0) := by
  simp [State.hostRow, State.overPort, State.answers, h]

/-- With the hub in reset or SOFT_RST high no host row is taken. -/
theorem hostRow_down (s : State) (f : State → State) (h : s.hostUp = false) : s.hostRow f = s := by
  simp [State.hostRow, State.overPort, State.answers, h]

/-- A write over a transport that answers. -/
theorem overPort_up (s : State) (x : Xport) (f : State → State) (h : s.answers x = true) :
    s.overPort x f = f (s.fabric 3 (if x = .htp then 0 else 1 + xnum x)) := by simp [State.overPort, h]

/-- A transport that does not answer takes nothing. -/
theorem overPort_down (s : State) (x : Xport) (f : State → State) (h : s.answers x = false) : s.overPort x f = s := by
  simp [State.overPort, h]

end Sys2Proof.Machine
end

