-- ==== Sys2Proof/Laws/Settle.lean ====
section
/-! SUPPORT. Bringing the levels up to the state: which subs and fields it may touch, and that it leaves the levels up to the state. -/

namespace Sys2Proof.Machine

/-- A sub that is no level is none of them. -/
theorem lk {k j : Nat} (h : k ∉ levelKeys) (hj : j ∈ levelKeys) : k ≠ j := fun e => h (e ▸ hj)

/-- SHELF_LOST of any unit is a level. -/
theorem lostKey (u : Nat) : Shelf.shelfLost (u % 128) ∈ levelKeys :=
  List.mem_append_right _ (List.mem_map_of_mem (List.mem_range.mpr (Nat.mod_lt _ (by decide))))

/-- A sub that is SHELF_LOST of no unit. -/
theorem ne_shelfLost {k : Nat} (h : k % 256 ≠ 6 ∨ k < 0xA080 * 256 ∨ 0xA100 * 256 ≤ k) (u : Nat) : k ≠ Shelf.shelfLost (u % 128) := by
  have e : Shelf.shelfLost (u % 128) = (0xA080 + u % 128) * 256 + 6 := rfl
  omega

/-- A sub that is no level: neither one of the named ones nor SHELF_LOST of a unit. -/
theorem not_levelKeys {k : Nat} (h : k ∉ levelSubs) (hl : k % 256 ≠ 6 ∨ k < 0xA080 * 256 ∨ 0xA100 * 256 ≤ k) : k ∉ levelKeys := by
  intro hk
  rcases List.mem_append.mp hk with hk | hk
  · exact h hk
  · obtain ⟨u, hu, rfl⟩ := List.mem_map.mp hk
    exact ne_shelfLost hl u (by rw [Nat.mod_eq_of_lt (List.mem_range.mp hu)])

theorem rd_settleFp (s : State) (k : Nat) (h : k ∉ levelKeys) : s.settleFp.rd k = s.rd k := by
  have h0 : (forEach fpList (fun k s => s.wr (Fp.crashesWindow k) (min 3 (s.crashesNow k).length : Nat)) s).rd k = s.rd k := by
    simp only [forEach, fpList, List.range, List.range.loop, List.foldl]
    rw [rd_wr_ne, rd_wr_ne, rd_wr_ne, rd_wr_ne] <;> first | rfl | exact lk h (by decide)
  unfold State.settleFp
  simp only
  split
  · rw [rd_wr_ne, rd_wr_ne, h0] <;> first | rfl | exact lk h (by decide)
  · rw [rd_cause_ne, rd_record_ne _ _ _ _ _ _ _ (lk h (by decide)) (fun u => lk h (lostKey u)), rd_wr_ne, rd_wr_ne, rd_wr_ne, h0] <;>
      first | rfl | exact lk h (by decide)

theorem rd_settleAlarms (s : State) (k : Nat) (h : k ∉ levelKeys) : s.settleAlarms.rd k = s.rd k := by
  have hl : s.seenLost.rd k = s.rd k := rfl
  have hn : ∀ (t : State) l, (t.toNotify l).rd k = t.rd k := fun _ _ => rfl
  unfold State.settleAlarms
  split
  · rw [rd_wr_ne, rd_wr_ne, hl] <;> exact lk h (by decide)
  · rw [hn, rd_cause_ne, rd_wr_ne, rd_wr_ne, hl] <;> exact lk h (by decide)

theorem rd_settleLevel (s : State) (k : Nat) (h : k ∉ levelKeys) : s.settleLevel.rd k = s.rd k := by
  unfold State.settleLevel
  simp only
  split
  · rw [rd_wr_ne, rd_wr_ne, rd_wr_ne, rd_wr_ne] <;> first | rfl | exact lk h (by decide)
  · rw [rd_wr_ne, rd_wr_ne, rd_wr_ne, rd_wr_ne, rd_cause_ne, rd_bump_ne, rd_wr_ne, rd_wr_ne] <;> first | rfl | exact lk h (by decide)

theorem rd_settleRings (s : State) (k : Nat) (h : k ∉ levelKeys) : s.settleRings.rd k = s.rd k := by
  unfold State.settleRings
  simp only
  rw [rd_wr_ne, rd_wr_ne, rd_wr_ne, rd_wr_ne, rd_wr_ne, rd_wr_ne, rd_wr_ne, rd_wr_ne] <;> first | rfl | exact lk h (by decide)

theorem rd_settleUpd (s : State) (k : Nat) (h : k ∉ levelKeys) : s.settleUpd.rd k = s.rd k := by
  unfold State.settleUpd
  split
  · rfl
  · rw [rd_cause_ne, rd_wr_ne] <;> exact lk h (by decide)

/-- No sub but the levels changes. -/
theorem rd_settle (s : State) (k : Nat) (h : k ∉ levelKeys) : s.settle.rd k = s.rd k := by
  have hn : ∀ t : State, t.settleNotify.rd k = t.rd k := fun t => by unfold State.settleNotify; split <;> rfl
  show (State.settleIrq _).rd k = _
  have hi : ∀ t : State, t.settleIrq.rd k = t.rd k := fun _ => rfl
  rw [hi, hn, rd_settleUpd _ _ h]
  have hq : ∀ t : State, t.settleQuiet.rd k = t.rd k := fun _ => rfl
  have ht : ∀ t : State, t.settleTaint.rd k = t.rd k := fun _ => rfl
  rw [hq, ht]
  unfold State.settleShared
  rw [rd_wr_ne _ _ _ _ (lk h (by decide)), rd_settleRings _ _ h, rd_settleLevel _ _ h, rd_settleAlarms _ _ h, rd_settleFp _ _ h]

/-! ### What bringing the levels up leaves -/

/-- A part of the state that no write of a sub and no change of the shelf, the notifications, the interrupt line, the taint marks or the
activation's timing reaches is as before. -/
theorem settle_keeps {α : Type} (p : State → α) (hw : ∀ s k v, p (s.wr k v) = p s) (hs : ∀ (s : State) x, p { s with shelf := x } = p s)
    (hn : ∀ (s : State) x, p { s with notify := x } = p s) (hl : ∀ (s : State) x, p { s with lostNow := x } = p s)
    (hi : ∀ (s : State) x, p { s with irqN := x } = p s)
    (hb : ∀ (s : State) x, p { s with budget := { s.budget with cum := x } } = p s)
    (ha : ∀ (s : State) x, p { s with fw := { s.fw with act := x } } = p s) (s : State) : p s.settle = p s := by
  have hu : ∀ s k n, p (State.bump s k n) = p s := fun s k n => hw s _ _
  have hc : ∀ s b, p (State.cause s b) = p s := fun s b => hw s _ _
  have hr : ∀ s src code p1 p2 p3, p (State.record s src code p1 p2 p3) = p s := fun s src code p1 p2 p3 => by
    unfold State.record State.recordAt
    simp only
    split
    · exact hs _ _
    · unfold State.loseRecord
      rw [hu, hu]; exact (hs _ _).trans (hs _ _)
  have h1 : ∀ s, p (State.settleFp s) = p s := fun s => by
    unfold State.settleFp
    simp only
    have h0 : p (forEach fpList (fun k s => s.wr (Fp.crashesWindow k) (min 3 (s.crashesNow k).length : Nat)) s) = p s := by
      simp only [forEach, fpList, List.range, List.range.loop, List.foldl, hw]
    split
    · rw [hw, hw, h0]
    · rw [hc, hr, hw, hw, hw, h0]
  have h2 : ∀ s, p (State.settleAlarms s) = p s := fun s => by
    unfold State.settleAlarms
    split
    · rw [hw, hw]; exact hl _ _
    · rw [show ∀ (t : State) l, p (t.toNotify l) = p t from fun t l => hn t _, hc, hw, hw]; exact hl _ _
  have h3 : ∀ s, p (State.settleLevel s) = p s := fun s => by
    unfold State.settleLevel
    simp only
    split
    · rw [hw, hw, hw, hw]
    · rw [hw, hw, hw, hw, hc, hu, hw, hw]
  have h4 : ∀ s, p (State.settleRings s) = p s := fun s => by
    unfold State.settleRings
    simp only [hw]
  have h5 : ∀ s, p (State.settleShared s) = p s := fun s => hw s _ _
  have h6 : ∀ s, p (State.settleTaint s) = p s := fun s => hb s _
  have h7 : ∀ s, p (State.settleQuiet s) = p s := fun s => ha s _
  have h8 : ∀ s, p (State.settleUpd s) = p s := fun s => by
    unfold State.settleUpd
    split
    · rfl
    · rw [hc, hw]
  have h9 : ∀ s, p (State.settleNotify s) = p s := fun s => by
    unfold State.settleNotify
    split
    · exact hn _ _
    · rfl
  show p (State.settleIrq _) = _
  rw [show ∀ t, p (State.settleIrq t) = p t from fun t => hi t _, h9, h8, h7, h6, h5, h4, h3, h2, h1]

@[simp] theorem settle_blob (s : State) : s.settle.blob = s.blob :=
  settle_keeps (fun s => s.blob) (fun _ _ _ => rfl) (fun _ _ => rfl) (fun _ _ => rfl) (fun _ _ => rfl) (fun _ _ => rfl) (fun _ _ => rfl) (fun _ _ => rfl) s
@[simp] theorem settle_hclk (s : State) : s.settle.hclk = s.hclk :=
  settle_keeps (fun s => s.hclk) (fun _ _ _ => rfl) (fun _ _ => rfl) (fun _ _ => rfl) (fun _ _ => rfl) (fun _ _ => rfl) (fun _ _ => rfl) (fun _ _ => rfl) s
@[simp] theorem settle_beatHclk (s : State) : s.settle.beatHclk = s.beatHclk :=
  settle_keeps (fun s => s.beatHclk) (fun _ _ _ => rfl) (fun _ _ => rfl) (fun _ _ => rfl) (fun _ _ => rfl) (fun _ _ => rfl) (fun _ _ => rfl) (fun _ _ => rfl) s
@[simp] theorem settle_free (s : State) : s.settle.free = s.free :=
  settle_keeps (fun s => s.free) (fun _ _ _ => rfl) (fun _ _ => rfl) (fun _ _ => rfl) (fun _ _ => rfl) (fun _ _ => rfl) (fun _ _ => rfl) (fun _ _ => rfl) s
@[simp] theorem settle_smbAlert (s : State) : s.settle.smbAlert = s.smbAlert :=
  settle_keeps (fun s => s.smbAlert) (fun _ _ _ => rfl) (fun _ _ => rfl) (fun _ _ => rfl) (fun _ _ => rfl) (fun _ _ => rfl) (fun _ _ => rfl) (fun _ _ => rfl) s
@[simp] theorem settle_hub (s : State) : s.settle.hub = s.hub :=
  settle_keeps (fun s => s.hub) (fun _ _ _ => rfl) (fun _ _ => rfl) (fun _ _ => rfl) (fun _ _ => rfl) (fun _ _ => rfl) (fun _ _ => rfl) (fun _ _ => rfl) s
@[simp] theorem settle_rails (s : State) : s.settle.rails = s.rails :=
  settle_keeps (fun s => s.rails) (fun _ _ _ => rfl) (fun _ _ => rfl) (fun _ _ => rfl) (fun _ _ => rfl) (fun _ _ => rfl) (fun _ _ => rfl) (fun _ _ => rfl) s
@[simp] theorem settle_phs (s : State) : s.settle.phs = s.phs :=
  settle_keeps (fun s => s.phs) (fun _ _ _ => rfl) (fun _ _ => rfl) (fun _ _ => rfl) (fun _ _ => rfl) (fun _ _ => rfl) (fun _ _ => rfl) (fun _ _ => rfl) s
@[simp] theorem settle_ibc (s : State) : s.settle.ibc = s.ibc :=
  settle_keeps (fun s => s.ibc) (fun _ _ _ => rfl) (fun _ _ => rfl) (fun _ _ => rfl) (fun _ _ => rfl) (fun _ _ => rfl) (fun _ _ => rfl) (fun _ _ => rfl) s
@[simp] theorem settle_loops (s : State) : s.settle.loops = s.loops :=
  settle_keeps (fun s => s.loops) (fun _ _ _ => rfl) (fun _ _ => rfl) (fun _ _ => rfl) (fun _ _ => rfl) (fun _ _ => rfl) (fun _ _ => rfl) (fun _ _ => rfl) s
@[simp] theorem settle_snares (s : State) : s.settle.snares = s.snares :=
  settle_keeps (fun s => s.snares) (fun _ _ _ => rfl) (fun _ _ => rfl) (fun _ _ => rfl) (fun _ _ => rfl) (fun _ _ => rfl) (fun _ _ => rfl) (fun _ _ => rfl) s
@[simp] theorem settle_upbeat (s : State) : s.settle.upbeat = s.upbeat :=
  settle_keeps (fun s => s.upbeat) (fun _ _ _ => rfl) (fun _ _ => rfl) (fun _ _ => rfl) (fun _ _ => rfl) (fun _ _ => rfl) (fun _ _ => rfl) (fun _ _ => rfl) s
@[simp] theorem settle_dcus (s : State) : s.settle.dcus = s.dcus :=
  settle_keeps (fun s => s.dcus) (fun _ _ _ => rfl) (fun _ _ => rfl) (fun _ _ => rfl) (fun _ _ => rfl) (fun _ _ => rfl) (fun _ _ => rfl) (fun _ _ => rfl) s
@[simp] theorem settle_pds (s : State) : s.settle.pds = s.pds :=
  settle_keeps (fun s => s.pds) (fun _ _ _ => rfl) (fun _ _ => rfl) (fun _ _ => rfl) (fun _ _ => rfl) (fun _ _ => rfl) (fun _ _ => rfl) (fun _ _ => rfl) s
@[simp] theorem settle_clk (s : State) : s.settle.clk = s.clk :=
  settle_keeps (fun s => s.clk) (fun _ _ _ => rfl) (fun _ _ => rfl) (fun _ _ => rfl) (fun _ _ => rfl) (fun _ _ => rfl) (fun _ _ => rfl) (fun _ _ => rfl) s
@[simp] theorem settle_chs (s : State) : s.settle.chs = s.chs :=
  settle_keeps (fun s => s.chs) (fun _ _ _ => rfl) (fun _ _ => rfl) (fun _ _ => rfl) (fun _ _ => rfl) (fun _ _ => rfl) (fun _ _ => rfl) (fun _ _ => rfl) s
@[simp] theorem settle_hk (s : State) : s.settle.hk = s.hk :=
  settle_keeps (fun s => s.hk) (fun _ _ _ => rfl) (fun _ _ => rfl) (fun _ _ => rfl) (fun _ _ => rfl) (fun _ _ => rfl) (fun _ _ => rfl) (fun _ _ => rfl) s
@[simp] theorem settle_gong (s : State) : s.settle.gong = s.gong :=
  settle_keeps (fun s => s.gong) (fun _ _ _ => rfl) (fun _ _ => rfl) (fun _ _ => rfl) (fun _ _ => rfl) (fun _ _ => rfl) (fun _ _ => rfl) (fun _ _ => rfl) s
@[simp] theorem settle_energy (s : State) : s.settle.energy = s.energy :=
  settle_keeps (fun s => s.energy) (fun _ _ _ => rfl) (fun _ _ => rfl) (fun _ _ => rfl) (fun _ _ => rfl) (fun _ _ => rfl) (fun _ _ => rfl) (fun _ _ => rfl) s
@[simp] theorem settle_tel (s : State) : s.settle.tel = s.tel :=
  settle_keeps (fun s => s.tel) (fun _ _ _ => rfl) (fun _ _ => rfl) (fun _ _ => rfl) (fun _ _ => rfl) (fun _ _ => rfl) (fun _ _ => rfl) (fun _ _ => rfl) s
@[simp] theorem settle_obs (s : State) : s.settle.obs = s.obs :=
  settle_keeps (fun s => s.obs) (fun _ _ _ => rfl) (fun _ _ => rfl) (fun _ _ => rfl) (fun _ _ => rfl) (fun _ _ => rfl) (fun _ _ => rfl) (fun _ _ => rfl) s
@[simp] theorem settle_arb (s : State) : s.settle.arb = s.arb :=
  settle_keeps (fun s => s.arb) (fun _ _ _ => rfl) (fun _ _ => rfl) (fun _ _ => rfl) (fun _ _ => rfl) (fun _ _ => rfl) (fun _ _ => rfl) (fun _ _ => rfl) s
@[simp] theorem settle_scrubAt (s : State) : s.settle.scrubAt = s.scrubAt :=
  settle_keeps (fun s => s.scrubAt) (fun _ _ _ => rfl) (fun _ _ => rfl) (fun _ _ => rfl) (fun _ _ => rfl) (fun _ _ => rfl) (fun _ _ => rfl) (fun _ _ => rfl) s
@[simp] theorem settle_drum (s : State) : s.settle.drum = s.drum :=
  settle_keeps (fun s => s.drum) (fun _ _ _ => rfl) (fun _ _ => rfl) (fun _ _ => rfl) (fun _ _ => rfl) (fun _ _ => rfl) (fun _ _ => rfl) (fun _ _ => rfl) s
@[simp] theorem settle_start (s : State) : s.settle.start = s.start :=
  settle_keeps (fun s => s.start) (fun _ _ _ => rfl) (fun _ _ => rfl) (fun _ _ => rfl) (fun _ _ => rfl) (fun _ _ => rfl) (fun _ _ => rfl) (fun _ _ => rfl) s
@[simp] theorem settle_lfsr (s : State) : s.settle.lfsr = s.lfsr :=
  settle_keeps (fun s => s.lfsr) (fun _ _ _ => rfl) (fun _ _ => rfl) (fun _ _ => rfl) (fun _ _ => rfl) (fun _ _ => rfl) (fun _ _ => rfl) (fun _ _ => rfl) s
@[simp] theorem settle_chest (s : State) : s.settle.chest = s.chest :=
  settle_keeps (fun s => s.chest) (fun _ _ _ => rfl) (fun _ _ => rfl) (fun _ _ => rfl) (fun _ _ => rfl) (fun _ _ => rfl) (fun _ _ => rfl) (fun _ _ => rfl) s
@[simp] theorem settle_hang (s : State) : s.settle.hang = s.hang :=
  settle_keeps (fun s => s.hang) (fun _ _ _ => rfl) (fun _ _ => rfl) (fun _ _ => rfl) (fun _ _ => rfl) (fun _ _ => rfl) (fun _ _ => rfl) (fun _ _ => rfl) s
@[simp] theorem settle_host (s : State) : s.settle.host = s.host :=
  settle_keeps (fun s => s.host) (fun _ _ _ => rfl) (fun _ _ => rfl) (fun _ _ => rfl) (fun _ _ => rfl) (fun _ _ => rfl) (fun _ _ => rfl) (fun _ _ => rfl) s
@[simp] theorem settle_pending (s : State) : s.settle.pending = s.pending :=
  settle_keeps (fun s => s.pending) (fun _ _ _ => rfl) (fun _ _ => rfl) (fun _ _ => rfl) (fun _ _ => rfl) (fun _ _ => rfl) (fun _ _ => rfl) (fun _ _ => rfl) s


/-! ### Records and parts, where the whole field may change -/

@[simp] theorem settle_fw_fps (s : State) : s.settle.fw.fps = s.fw.fps :=
  settle_keeps (fun s => s.fw.fps) (fun _ _ _ => rfl) (fun _ _ => rfl) (fun _ _ => rfl) (fun _ _ => rfl) (fun _ _ => rfl) (fun _ _ => rfl) (fun _ _ => rfl) s
@[simp] theorem settle_fw_held (s : State) : s.settle.fw.held = s.fw.held :=
  settle_keeps (fun s => s.fw.held) (fun _ _ _ => rfl) (fun _ _ => rfl) (fun _ _ => rfl) (fun _ _ => rfl) (fun _ _ => rfl) (fun _ _ => rfl) (fun _ _ => rfl) s
@[simp] theorem settle_fw_headers (s : State) : s.settle.fw.headers = s.fw.headers :=
  settle_keeps (fun s => s.fw.headers) (fun _ _ _ => rfl) (fun _ _ => rfl) (fun _ _ => rfl) (fun _ _ => rfl) (fun _ _ => rfl) (fun _ _ => rfl) (fun _ _ => rfl) s
@[simp] theorem settle_fw_program (s : State) : s.settle.fw.program = s.fw.program :=
  settle_keeps (fun s => s.fw.program) (fun _ _ _ => rfl) (fun _ _ => rfl) (fun _ _ => rfl) (fun _ _ => rfl) (fun _ _ => rfl) (fun _ _ => rfl) (fun _ _ => rfl) s
@[simp] theorem settle_fw_tail (s : State) : s.settle.fw.tail = s.fw.tail :=
  settle_keeps (fun s => s.fw.tail) (fun _ _ _ => rfl) (fun _ _ => rfl) (fun _ _ => rfl) (fun _ _ => rfl) (fun _ _ => rfl) (fun _ _ => rfl) (fun _ _ => rfl) s
@[simp] theorem settle_fw_marks (s : State) : s.settle.fw.marks = s.fw.marks :=
  settle_keeps (fun s => s.fw.marks) (fun _ _ _ => rfl) (fun _ _ => rfl) (fun _ _ => rfl) (fun _ _ => rfl) (fun _ _ => rfl) (fun _ _ => rfl) (fun _ _ => rfl) s
@[simp] theorem settle_fw_saving (s : State) : s.settle.fw.saving = s.fw.saving :=
  settle_keeps (fun s => s.fw.saving) (fun _ _ _ => rfl) (fun _ _ => rfl) (fun _ _ => rfl) (fun _ _ => rfl) (fun _ _ => rfl) (fun _ _ => rfl) (fun _ _ => rfl) s
@[simp] theorem settle_fw_resume (s : State) : s.settle.fw.resume = s.fw.resume :=
  settle_keeps (fun s => s.fw.resume) (fun _ _ _ => rfl) (fun _ _ => rfl) (fun _ _ => rfl) (fun _ _ => rfl) (fun _ _ => rfl) (fun _ _ => rfl) (fun _ _ => rfl) s
@[simp] theorem settle_fw_profGen (s : State) : s.settle.fw.profGen = s.fw.profGen :=
  settle_keeps (fun s => s.fw.profGen) (fun _ _ _ => rfl) (fun _ _ => rfl) (fun _ _ => rfl) (fun _ _ => rfl) (fun _ _ => rfl) (fun _ _ => rfl) (fun _ _ => rfl) s
@[simp] theorem settle_fw_profAt (s : State) : s.settle.fw.profAt = s.fw.profAt :=
  settle_keeps (fun s => s.fw.profAt) (fun _ _ _ => rfl) (fun _ _ => rfl) (fun _ _ => rfl) (fun _ _ => rfl) (fun _ _ => rfl) (fun _ _ => rfl) (fun _ _ => rfl) s
@[simp] theorem settle_fw_reloaded (s : State) : s.settle.fw.reloaded = s.fw.reloaded :=
  settle_keeps (fun s => s.fw.reloaded) (fun _ _ _ => rfl) (fun _ _ => rfl) (fun _ _ => rfl) (fun _ _ => rfl) (fun _ _ => rfl) (fun _ _ => rfl) (fun _ _ => rfl) s
@[simp] theorem settle_budget_limiters (s : State) : s.settle.budget.limiters = s.budget.limiters :=
  settle_keeps (fun s => s.budget.limiters) (fun _ _ _ => rfl) (fun _ _ => rfl) (fun _ _ => rfl) (fun _ _ => rfl) (fun _ _ => rfl) (fun _ _ => rfl) (fun _ _ => rfl) s
@[simp] theorem settle_budget_pow (s : State) : s.settle.budget.pow = s.budget.pow :=
  settle_keeps (fun s => s.budget.pow) (fun _ _ _ => rfl) (fun _ _ => rfl) (fun _ _ => rfl) (fun _ _ => rfl) (fun _ _ => rfl) (fun _ _ => rfl) (fun _ _ => rfl) s
@[simp] theorem settle_budget_predicted (s : State) : s.settle.budget.predicted = s.budget.predicted :=
  settle_keeps (fun s => s.budget.predicted) (fun _ _ _ => rfl) (fun _ _ => rfl) (fun _ _ => rfl) (fun _ _ => rfl) (fun _ _ => rfl) (fun _ _ => rfl) (fun _ _ => rfl) s
@[simp] theorem settle_budget_markers (s : State) : s.settle.budget.markers = s.budget.markers :=
  settle_keeps (fun s => s.budget.markers) (fun _ _ _ => rfl) (fun _ _ => rfl) (fun _ _ => rfl) (fun _ _ => rfl) (fun _ _ => rfl) (fun _ _ => rfl) (fun _ _ => rfl) s
@[simp] theorem settle_budget_reading (s : State) : s.settle.budget.reading = s.budget.reading :=
  settle_keeps (fun s => s.budget.reading) (fun _ _ _ => rfl) (fun _ _ => rfl) (fun _ _ => rfl) (fun _ _ => rfl) (fun _ _ => rfl) (fun _ _ => rfl) (fun _ _ => rfl) s
@[simp] theorem settle_budget_derived (s : State) : s.settle.budget.derived = s.budget.derived :=
  settle_keeps (fun s => s.budget.derived) (fun _ _ _ => rfl) (fun _ _ => rfl) (fun _ _ => rfl) (fun _ _ => rfl) (fun _ _ => rfl) (fun _ _ => rfl) (fun _ _ => rfl) s
@[simp] theorem settle_fw_regions (s : State) : s.settle.fw.regions = s.fw.regions :=
  settle_keeps (fun s => s.fw.regions) (fun _ _ _ => rfl) (fun _ _ => rfl) (fun _ _ => rfl) (fun _ _ => rfl) (fun _ _ => rfl) (fun _ _ => rfl) (fun _ _ => rfl) s
@[simp] theorem settle_fw_mirror (s : State) : s.settle.fw.mirror = s.fw.mirror :=
  settle_keeps (fun s => s.fw.mirror) (fun _ _ _ => rfl) (fun _ _ => rfl) (fun _ _ => rfl) (fun _ _ => rfl) (fun _ _ => rfl) (fun _ _ => rfl) (fun _ _ => rfl) s
@[simp] theorem settle_budget_direct (s : State) : s.settle.budget.direct = s.budget.direct :=
  settle_keeps (fun s => s.budget.direct) (fun _ _ _ => rfl) (fun _ _ => rfl) (fun _ _ => rfl) (fun _ _ => rfl) (fun _ _ => rfl) (fun _ _ => rfl) (fun _ _ => rfl) s
@[simp] theorem settle_budget_role (s : State) : s.settle.budget.role = s.budget.role :=
  settle_keeps (fun s => s.budget.role) (fun _ _ _ => rfl) (fun _ _ => rfl) (fun _ _ => rfl) (fun _ _ => rfl) (fun _ _ => rfl) (fun _ _ => rfl) (fun _ _ => rfl) s
@[simp] theorem settle_budget_ptCap (s : State) : s.settle.budget.ptCap = s.budget.ptCap :=
  settle_keeps (fun s => s.budget.ptCap) (fun _ _ _ => rfl) (fun _ _ => rfl) (fun _ _ => rfl) (fun _ _ => rfl) (fun _ _ => rfl) (fun _ _ => rfl) (fun _ _ => rfl) s
@[simp] theorem settle_budget_ilim (s : State) : s.settle.budget.ilim = s.budget.ilim :=
  settle_keeps (fun s => s.budget.ilim) (fun _ _ _ => rfl) (fun _ _ => rfl) (fun _ _ => rfl) (fun _ _ => rfl) (fun _ _ => rfl) (fun _ _ => rfl) (fun _ _ => rfl) s
@[simp] theorem settle_budget_capOld (s : State) : s.settle.budget.capOld = s.budget.capOld :=
  settle_keeps (fun s => s.budget.capOld) (fun _ _ _ => rfl) (fun _ _ => rfl) (fun _ _ => rfl) (fun _ _ => rfl) (fun _ _ => rfl) (fun _ _ => rfl) (fun _ _ => rfl) s
@[simp] theorem settle_budget_fw (s : State) : s.settle.budget.fw = s.budget.fw :=
  settle_keeps (fun s => s.budget.fw) (fun _ _ _ => rfl) (fun _ _ => rfl) (fun _ _ => rfl) (fun _ _ => rfl) (fun _ _ => rfl) (fun _ _ => rfl) (fun _ _ => rfl) s
@[simp] theorem settle_budget_lastPeriod (s : State) : s.settle.budget.lastPeriod = s.budget.lastPeriod :=
  settle_keeps (fun s => s.budget.lastPeriod) (fun _ _ _ => rfl) (fun _ _ => rfl) (fun _ _ => rfl) (fun _ _ => rfl) (fun _ _ => rfl) (fun _ _ => rfl) (fun _ _ => rfl) s
@[simp] theorem settle_budget_downAt (s : State) : s.settle.budget.downAt = s.budget.downAt :=
  settle_keeps (fun s => s.budget.downAt) (fun _ _ _ => rfl) (fun _ _ => rfl) (fun _ _ => rfl) (fun _ _ => rfl) (fun _ _ => rfl) (fun _ _ => rfl) (fun _ _ => rfl) s
@[simp] theorem settle_budget_bhScaled (s : State) : s.settle.budget.bhScaled = s.budget.bhScaled :=
  settle_keeps (fun s => s.budget.bhScaled) (fun _ _ _ => rfl) (fun _ _ => rfl) (fun _ _ => rfl) (fun _ _ => rfl) (fun _ _ => rfl) (fun _ _ => rfl) (fun _ _ => rfl) s
@[simp] theorem settle_budget_bhGrant (s : State) : s.settle.budget.bhGrant = s.budget.bhGrant :=
  settle_keeps (fun s => s.budget.bhGrant) (fun _ _ _ => rfl) (fun _ _ => rfl) (fun _ _ => rfl) (fun _ _ => rfl) (fun _ _ => rfl) (fun _ _ => rfl) (fun _ _ => rfl) s
@[simp] theorem settle_budget_bhZeroAt (s : State) : s.settle.budget.bhZeroAt = s.budget.bhZeroAt :=
  settle_keeps (fun s => s.budget.bhZeroAt) (fun _ _ _ => rfl) (fun _ _ => rfl) (fun _ _ => rfl) (fun _ _ => rfl) (fun _ _ => rfl) (fun _ _ => rfl) (fun _ _ => rfl) s
@[simp] theorem settle_budget_fw_plans (s : State) : s.settle.budget.fw.plans = s.budget.fw.plans :=
  settle_keeps (fun s => s.budget.fw.plans) (fun _ _ _ => rfl) (fun _ _ => rfl) (fun _ _ => rfl) (fun _ _ => rfl) (fun _ _ => rfl) (fun _ _ => rfl) (fun _ _ => rfl) s
@[simp] theorem settle_budget_fw_preloads (s : State) : s.settle.budget.fw.preloads = s.budget.fw.preloads :=
  settle_keeps (fun s => s.budget.fw.preloads) (fun _ _ _ => rfl) (fun _ _ => rfl) (fun _ _ => rfl) (fun _ _ => rfl) (fun _ _ => rfl) (fun _ _ => rfl) (fun _ _ => rfl) s
@[simp] theorem settle_budget_fw_overSince (s : State) : s.settle.budget.fw.overSince = s.budget.fw.overSince :=
  settle_keeps (fun s => s.budget.fw.overSince) (fun _ _ _ => rfl) (fun _ _ => rfl) (fun _ _ => rfl) (fun _ _ => rfl) (fun _ _ => rfl) (fun _ _ => rfl) (fun _ _ => rfl) s
@[simp] theorem settle_budget_fw_underSince (s : State) : s.settle.budget.fw.underSince = s.budget.fw.underSince :=
  settle_keeps (fun s => s.budget.fw.underSince) (fun _ _ _ => rfl) (fun _ _ => rfl) (fun _ _ => rfl) (fun _ _ => rfl) (fun _ _ => rfl) (fun _ _ => rfl) (fun _ _ => rfl) s
@[simp] theorem settle_budget_fw_isOver (s : State) : s.settle.budget.fw.isOver = s.budget.fw.isOver :=
  settle_keeps (fun s => s.budget.fw.isOver) (fun _ _ _ => rfl) (fun _ _ => rfl) (fun _ _ => rfl) (fun _ _ => rfl) (fun _ _ => rfl) (fun _ _ => rfl) (fun _ _ => rfl) s
@[simp] theorem rail_settle (s : State) (m : Nat) : s.settle.rail m = s.rail m := by simp only [State.rail, settle_rails]
@[simp] theorem ph_settle (s : State) (m : Nat) : s.settle.ph m = s.ph m := by simp only [State.ph, settle_phs]
@[simp] theorem loop_settle (s : State) (m : Nat) : s.settle.loop m = s.loop m := by simp only [State.loop, settle_loops]
@[simp] theorem snare_settle (s : State) (m : Nat) : s.settle.snare m = s.snare m := by simp only [State.snare, settle_snares]
@[simp] theorem dcu_settle (s : State) (m : Nat) : s.settle.dcu m = s.dcu m := by simp only [State.dcu, settle_dcus]
@[simp] theorem pd_settle (s : State) (m : Nat) : s.settle.pd m = s.pd m := by simp only [State.pd, settle_pds]
@[simp] theorem ch_settle (s : State) (m : Nat) : s.settle.ch m = s.ch m := by simp only [State.ch, settle_chs]
@[simp] theorem sat_settle (s : State) (m : Nat) : s.settle.sat m = s.sat m := by simp only [State.sat, settle_hub]
@[simp] theorem limiter_settle (s : State) (m : Nat) : s.settle.limiter m = s.limiter m := by simp only [State.limiter, settle_budget_limiters]
@[simp] theorem fp_settle (s : State) (m : Nat) : s.settle.fp m = s.fp m := by simp only [State.fp, settle_fw_fps]
@[simp] theorem port_settle (s : State) (m : Nat) : s.settle.port m = s.port m := by simp only [State.port, settle_drum]

end Sys2Proof.Machine
end

