-- ==== Sys2Proof/WellFormed.lean ====
section
/-! DEFINITION. Well-formed commands: the operand lists have the lengths, and the fields the ranges, that the manual gives them. No
meaning depends on it; a command that is not well-formed is one no port of Zilari can bring in. -/

namespace Sys2Proof

/-- The stages of type A on a rail (R115), whose samples a loop sample brings. -/
def WellFormed.typeACount (n : Nat) : Nat := ((Config.phasesOf n).filter (fun p => Config.phType p = 0)).length

/-- Counts of a part are at most those of the whole. -/
def WellFormed.part {k : Nat} (p l : List (Fin k × BitVec 16)) : Bool :=
  p.all (fun e => l.any (fun f => e.1 = f.1 && decide (e.2.toNat ≤ f.2.toNat)))

/-- A sample edge brings one converter sample for each type A stage of its rail (R117, R126), and at most its own counts as those before a
reconciliation instant (R339). -/
def WellFormed.loopIn (n : Fin 8) (m : LoopIn) : Bool :=
  m.iphA.length = WellFormed.typeACount n
    && (match m.pre with
      | some p => WellFormed.part p.edges m.edges && WellFormed.part p.actQ m.actQ && WellFormed.part p.actPt m.actPt
      | none => true)

/-- A packet carries at least one payload byte and at most 1,020 (R56). -/
def WellFormed.packet (pk : Packet) : Bool := decide (1 ≤ pk.payload.length) && decide (pk.payload.length ≤ 1020)

/-- A message of at most 4,096 bytes holds its type byte, the 12-byte header and the body (R99, R100). -/
def WellFormed.message (m : DictMsg) : Bool := decide (m.body.length ≤ 4083)

/-- A message comes over an MCTP transport (R99). -/
def WellFormed.mctp (x : Xport) : Bool := decide (x ≠ .htp)

/-- The boot directory's copies of the slots' first chunks hold 256 bytes (R379). -/
def WellFormed.bootDir (d : BootDir) : Bool := d.hdrA.length = 256 && d.hdrB.length = 256

/-- A stamp for each domain once (R433). -/
def WellFormed.stamps (l : List StopStamp) : Bool := decide ((l.map (fun e => e.cd)).Nodup)

/-- A place of the journal once, its sector among the 3,072, 64 bytes of each copy (R415, R419). -/
def WellFormed.chestScan (r : ChestScan) : Bool :=
  decide ((r.reads.map (fun e => (e.sector, e.slot))).Nodup)
    && r.reads.all (fun e => decide (e.sector.toNat < 3072) && e.copy0.length = 64 && e.copy1.length = 64)

/-- Whether a command's operands have the form the manual gives them. -/
def WellFormed.instr (i : Instr) : Bool :=
  match i with
  | .loopSample n m => WellFormed.loopIn n m
  | .regionChange n m => WellFormed.loopIn n m
  | .railLimitInhibit n iph => iph.length = ((Config.phasesOf n).filter (fun p => Config.phType p = 0)).length
  | .vpreTaken _ samples => samples.length = 8
  | .bootDirectoryRead d => WellFormed.bootDir d
  | .mctpPacketReceive x pk => WellFormed.mctp x && WellFormed.packet pk
  | .mctpRead x m => WellFormed.mctp x && WellFormed.message m
  | .mctpWrite x m => WellFormed.mctp x && WellFormed.message m
  | .mctpBlockRead x m => WellFormed.mctp x && WellFormed.message m
  | .mctpBlockWrite x m => WellFormed.mctp x && WellFormed.message m
  | .mctpActSubmit x m => WellFormed.mctp x && WellFormed.message m
  | .mctpCqPop x m => WellFormed.mctp x && WellFormed.message m
  | .updChunkWrite x m => WellFormed.mctp x && WellFormed.message m
  | .setEndpointId x _ _ _ => WellFormed.mctp x
  | .getEndpointId x _ _ => WellFormed.mctp x
  | .getMctpVersionSupport x _ _ => WellFormed.mctp x
  | .getMessageTypeSupport x _ _ => WellFormed.mctp x
  | .blobWindowWrite _ _ sub _ => decide (0x10 ≤ sub.toNat)
  | .descriptorReadDone row => row.length = 64
  | .bulkChunkSend _ bytes => bytes.length = 256
  | .coefReload _ words _ => words.length = 15
  | .ageingMeasure l => l.length = 128
  | .hangCut stamps => WellFormed.stamps stamps
  | .sdTestDone checks => checks.length = 6
  | .powerOnReset => true
  | .porRelease _ _ => true
  | .hubResetExit => true
  | .xspiResetRelease => true
  | .selftestPart1Done _ _ => true
  | .oscSettleElapsed => true
  | .xclkCountDone _ => true
  | .selftestPart2Done _ _ _ _ _ => true
  | .startSettingsApply _ => true
  | .ibcStart _ => true
  | .ibcReady => true
  | .ibcWaitTimeout => true
  | .startNextRail => true
  | .startRelease => true
  | .startCtrlRelease => true
  | .startCtrlRetry => true
  | .brownoutTimeout => true
  | .stRetry => true
  | .sdCtrlRun => true
  | .aeCtrlRun _ => true
  | .aeRunDone _ => true
  | .lcRequest _ => true
  | .lcFuseBlow _ => true
  | .vaonReset => true
  | .nvmInhibitBegin => true
  | .nvmInhibitEnd _ _ => true
  | .softReset => true
  | .dictWrite _ _ _ _ => true
  | .legacyWrite _ _ _ _ => true
  | .readClear _ _ => true
  | .blobCursorWrite _ _ _ => true
  | .blobCommit _ _ _ => true
  | .irqClear _ => true
  | .irqForce _ => true
  | .notifySend => true
  | .submitA _ => true
  | .submitB _ => true
  | .cqPop _ _ => true
  | .jtagInstruction _ => true
  | .schedDeliver => true
  | .schedApply => true
  | .interlockClampTimeout _ => true
  | .ratioInPlace _ => true
  | .ringKeepalive => true
  | .ringMessage _ _ _ => true
  | .satelliteIsolated _ => true
  | .ringLaneDown _ _ => true
  | .feExpiry _ => true
  | .feRelease _ => true
  | .coefScrub _ => true
  | .coefCommit _ _ => true
  | .trArm _ => true
  | .trForce _ => true
  | .trStop _ => true
  | .traceDone _ => true
  | .ePromotion _ => true
  | .modulatorTrigger _ => true
  | .pendingTriggerFire _ => true
  | .onTimeEnd _ _ _ => true
  | .cycleLimitHit _ => true
  | .ilimBurstEnd _ => true
  | .shedDwellExpiry _ => true
  | .zeroCurrentDecision _ => true
  | .tlmFrame _ _ _ _ => true
  | .tlmLost _ => true
  | .exclusionTimeout _ => true
  | .phaseRetire _ => true
  | .stageDisable _ => true
  | .rung2Release _ => true
  | .railCtrlOn _ => true
  | .railCtrlOff _ => true
  | .railCtrlOffImmediate _ => true
  | .railCtrlClear _ => true
  | .retireClear _ => true
  | .phCtrlRetire _ => true
  | .prechargeEnableDone _ => true
  | .shortVoutCheck _ => true
  | .rampTimeout _ => true
  | .softStopEnd _ => true
  | .overVoltage _ _ => true
  | .ovClampDone _ _ => true
  | .underVoltage _ _ => true
  | .sensePairDrop _ _ _ => true
  | .busUvFault _ => true
  | .ibcPoll _ => true
  | .ibcAlert _ => true
  | .ibcCtrlOn _ => true
  | .ibcCtrlOff _ => true
  | .vsetDemandWrite _ _ => true
  | .ratioDemandWrite _ _ => true
  | .pdDemandWrite _ _ => true
  | .snareTrip _ _ => true
  | .snareRelease _ _ _ => true
  | .snareRungRelease _ => true
  | .snareBeatEnd _ _ => true
  | .snSnap _ => true
  | .upbeatAnnounce _ _ _ => true
  | .upbeatCancel _ _ _ => true
  | .cmdStart _ _ _ _ _ => true
  | .matchReport _ => true
  | .prefirePulse _ => true
  | .upbeatRetract _ => true
  | .preposHoldEnd _ => true
  | .precIdleExpiry _ => true
  | .laneDisable _ => true
  | .fTableWrite _ _ => true
  | .dcoLock _ => true
  | .srcSelWrite _ _ _ => true
  | .sourceSwitchDone _ _ => true
  | .sourceDead _ _ _ => true
  | .gateCtrlRequest _ => true
  | .gateCtrlWithdraw _ => true
  | .fp1GateRequest _ _ => true
  | .gateAck _ => true
  | .gateReqTimeout _ _ => true
  | .domainResetEnd _ => true
  | .pdOnStart _ => true
  | .pdSeqAdvance _ _ => true
  | .pdSeqTimeout _ _ => true
  | .pswAckLost _ _ => true
  | .pdCtrlClear _ _ => true
  | .xclkLoss => true
  | .xclkRestore => true
  | .brefLock _ => true
  | .brefLoss _ => true
  | .hkConversion _ => true
  | .hkRoundEnd => true
  | .kettleUpdate => true
  | .kettleCorrection => true
  | .boardHotAssert => true
  | .boardHotRelease => true
  | .gongOrderlyDeadline => true
  | .gongCtrlRailsOff => true
  | .gongRailsOff => true
  | .gongCtrlRestart => true
  | .budgetPeriodStart => true
  | .switchSubmit _ => true
  | .markerAccept _ _ _ _ _ => true
  | .markerBegin => true
  | .markerEnd => true
  | .markerPreload => true
  | .preloadExpire _ => true
  | .brushFloorStep _ => true
  | .capTimerExpiry => true
  | .fmaxRewrite => true
  | .pidClear _ => true
  | .dlUpRise _ => true
  | .dlUpFall _ => true
  | .linkSilenceTimeout _ => true
  | .frameSlot _ => true
  | .expressReceive _ _ => true
  | .idleFrame _ _ _ _ => true
  | .beatFrame _ _ _ _ => true
  | .dreqFrame _ _ _ _ => true
  | .drspFrame _ _ _ _ => true
  | .dreqSend _ => true
  | .drspTimeout _ _ => true
  | .beatSend => true
  | .genUpFrame _ _ _ _ => true
  | .genDownFrame _ _ _ _ => true
  | .genUpSend => true
  | .gPolicySetWrite _ _ => true
  | .genOfferWrite _ => true
  | .paceEvaluate _ => true
  | .groupStale _ => true
  | .paceStaleExpiry => true
  | .collRoundStart => true
  | .collUpFrame _ _ _ _ => true
  | .collUpDeadline => true
  | .collDownDeadline => true
  | .collDownFrame _ _ _ _ => true
  | .grantApply => true
  | .bulkDataFrame _ _ _ _ => true
  | .bulkStart _ _ _ _ => true
  | .bulkEnd _ _ _ _ => true
  | .bulkAck _ _ _ _ => true
  | .bulkNak _ _ _ _ => true
  | .bulkPauseEnd _ => true
  | .reconcile => true
  | .reconcileApply => true
  | .eSnap => true
  | .energySnapshot => true
  | .winEnable _ => true
  | .winDisable _ => true
  | .telSampleDue _ => true
  | .telFlush _ => true
  | .telRecordIssue _ => true
  | .tipCommit _ err => !err
  | .tipCommitError _ err => err
  | .fpWatchdog _ => true
  | .fpTrap _ => true
  | .fpMemUe _ => true
  | .fpFatal _ => true
  | .fpCtrlRestart _ => true
  | .fpBoot _ _ => true
  | .handoverDone _ => true
  | .handoverTimeout _ => true
  | .checkpointWrite _ => true
  | .tablesCheck _ => true
  | .chunkHeld _ => true
  | .updActivate => true
  | .updConfirm => true
  | .updAbort => true
  | .updCancel => true
  | .updFallback => true
  | .activationStart => true
  | .activationMove => true
  | .actLimitExpiry => true
  | .confLimitExpiry => true
  | .settingsSave _ => true
  | .saveNow => true
  | .profileSave => true
  | .recordDrain => true
  | .chestProgram _ => true
  | .chestErase _ => true
  | .chestScanDone r => WellFormed.chestScan r
  | .chestFetchDone _ _ => true
  | .startCseqWrite _ _ => true
  | .hbKick _ => true
  | .heartbeatMissed => true
  | .stopCtrlDump _ => true
  | .stopCtrlStopDump _ => true
  | .stopCtrlRelease _ => true
  | .stopCtrlAbort _ => true
  | .dumpEraseDone _ => true
  | .dumpSectorDone _ => true
  | .stopRelease => true
  | .dumpClear _ => true
  | .dynamicAddressAssignment _ => true
  | .smbAlertResponse => true
  | .softResetRelease => true
  | .vaonResetRelease => true
  | .negativeCurrentLimit _ => true
  | .diodeEmulationZeroCurrent _ => true

end Sys2Proof
end

