-- ==== Sys2Proof/Tests/Slice0.lean ====
section
/-! SUPPORT. The model's own tests: ill-formed commands, the manual's worked examples, and for every statement with hypotheses a witness
that meets them. Expected values come from the examples and rules of spec/. -/

open Sys2Proof Sys2Proof.Machine

set_option Elab.async false

/-- A state that differs from reset in some subs. -/
def st (l : List (Nat × Int)) : State := { dict := l }

/-- A state whose hub has left reset. -/
def up (s : State) : State := { s with start := { s.start with hubUp := true } }

/-- The BULK_END frame of a chunk (R300, R327) with a CRC-32C. -/
def bulkEndWord (chunk crc : Nat) : BitVec 80 :=
  let w := 9 * 2 ^ 60 + (2 * 2 ^ 44 + chunk % 4096 * 2 ^ 32 + crc) * 2 ^ 8
  BitVec.ofNat 80 (w + frameCrc w)

/-- CRC-32C of 256 bytes of zeros, 64 at a time. -/
theorem crc_zeros : (crc32c (List.replicate 256 0)).toNat = 3094524304 := by
  have h1 : (List.replicate 64 (0 : Byte)).foldl crc32cByte 4294967295 = 4231468184 := by decide +kernel
  have h2 : (List.replicate 64 (0 : Byte)).foldl crc32cByte 4231468184 = 4158167844 := by decide +kernel
  have h3 : (List.replicate 64 (0 : Byte)).foldl crc32cByte 4158167844 = 2345306063 := by decide +kernel
  have h4 : (List.replicate 64 (0 : Byte)).foldl crc32cByte 2345306063 = 1200442991 := by decide +kernel
  have hs : (List.replicate 256 (0 : Byte)) = List.replicate 64 0 ++ (List.replicate 64 0 ++ (List.replicate 64 0 ++ List.replicate 64 0)) := by
    simp only [List.replicate_append_replicate]
  unfold crc32c
  rw [hs, List.foldl_append, List.foldl_append, List.foldl_append, h1, h2, h3, h4]
  decide

/-- An MCTP dictionary message. -/
def msg (body : List Byte) : DictMsg := ⟨1, 2, 0, 1, 1, 0, 0, body⟩

/-! ### Ill-formed commands (WellFormed) -/

theorem test_ill_formed_loop_sample : WellFormed.instr (.loopSample 0 ⟨0, 0, [], 0, none, [], [], [], none⟩) = false := by decide +kernel
theorem test_ill_formed_region_change : WellFormed.instr (.regionChange 0 ⟨0, 0, [], 0, none, [], [], [], none⟩) = false := by decide +kernel
theorem test_ill_formed_rail_limit_inhibit : WellFormed.instr (.railLimitInhibit 0 []) = false := by decide +kernel
theorem test_ill_formed_vpre_taken : WellFormed.instr (.vpreTaken 0 []) = false := by decide +kernel
theorem test_ill_formed_boot_directory_read : WellFormed.instr (.bootDirectoryRead ⟨none, 0, 0, 0, false, [], [], 0, 0, 0, 0, 0, 0, 0, 0⟩) = false := by decide +kernel
theorem test_ill_formed_mctp_packet_receive : WellFormed.instr (.mctpPacketReceive .i3c ⟨1, 2, true, true, 0, true, 0, [], true, true⟩) = false := by decide +kernel
theorem test_ill_formed_descriptor_read_done : WellFormed.instr (.descriptorReadDone []) = false := by decide +kernel
theorem test_ill_formed_bulk_chunk_send : WellFormed.instr (.bulkChunkSend 0 []) = false := by decide +kernel
theorem test_ill_formed_coef_reload : WellFormed.instr (.coefReload 0 [] true) = false := by decide +kernel
theorem test_ill_formed_ageing_measure : WellFormed.instr (.ageingMeasure []) = false := by decide +kernel
theorem test_ill_formed_hang_cut : WellFormed.instr (.hangCut [⟨0, 0, 0, 0, false⟩, ⟨0, 1, 0, 0, false⟩]) = false := by decide +kernel
theorem test_ill_formed_sd_test_done : WellFormed.instr (.sdTestDone []) = false := by decide +kernel
theorem test_ill_formed_blob_window_write : WellFormed.instr (.blobWindowWrite .htp 0x7021 0x0F 0) = false := by decide +kernel
theorem test_ill_formed_chest_scan : WellFormed.instr (.chestScanDone ⟨[⟨3072, none, List.replicate 64 0, List.replicate 64 0⟩], 0, 0, 0, 0, false, false, 0, 0, []⟩) = false := by decide +kernel
theorem test_ill_formed_set_endpoint_id : WellFormed.instr (.setEndpointId .htp 1 0 8) = false := by decide +kernel
theorem test_ill_formed_get_endpoint_id : WellFormed.instr (.getEndpointId .htp 1 0) = false := by decide +kernel
theorem test_ill_formed_get_version : WellFormed.instr (.getMctpVersionSupport .htp 1 0) = false := by decide +kernel
theorem test_ill_formed_get_types : WellFormed.instr (.getMessageTypeSupport .htp 1 0) = false := by decide +kernel
theorem test_ill_formed_tip_commit : WellFormed.instr (.tipCommit 0 true) = false := by decide +kernel
theorem test_ill_formed_tip_commit_error : WellFormed.instr (.tipCommitError 0 false) = false := by decide +kernel
theorem test_ill_formed_packet_length : WellFormed.instr (.mctpPacketReceive .i3c ⟨1, 2, true, true, 0, true, 0, List.replicate 1021 0, true, true⟩) = false := by decide +kernel
theorem test_ill_formed_mctpread_transport : WellFormed.instr (.mctpRead .htp (msg [])) = false := by decide +kernel
theorem test_ill_formed_mctpread_length : WellFormed.instr (.mctpRead .i3c (msg (List.replicate 4084 0))) = false := by decide +kernel
theorem test_ill_formed_mctpwrite_transport : WellFormed.instr (.mctpWrite .htp (msg [])) = false := by decide +kernel
theorem test_ill_formed_mctpwrite_length : WellFormed.instr (.mctpWrite .i3c (msg (List.replicate 4084 0))) = false := by decide +kernel
theorem test_ill_formed_mctpblockread_transport : WellFormed.instr (.mctpBlockRead .htp (msg [])) = false := by decide +kernel
theorem test_ill_formed_mctpblockread_length : WellFormed.instr (.mctpBlockRead .i3c (msg (List.replicate 4084 0))) = false := by decide +kernel
theorem test_ill_formed_mctpblockwrite_transport : WellFormed.instr (.mctpBlockWrite .htp (msg [])) = false := by decide +kernel
theorem test_ill_formed_mctpblockwrite_length : WellFormed.instr (.mctpBlockWrite .i3c (msg (List.replicate 4084 0))) = false := by decide +kernel
theorem test_ill_formed_mctpactsubmit_transport : WellFormed.instr (.mctpActSubmit .htp (msg [])) = false := by decide +kernel
theorem test_ill_formed_mctpactsubmit_length : WellFormed.instr (.mctpActSubmit .i3c (msg (List.replicate 4084 0))) = false := by decide +kernel
theorem test_ill_formed_mctpcqpop_transport : WellFormed.instr (.mctpCqPop .htp (msg [])) = false := by decide +kernel
theorem test_ill_formed_mctpcqpop_length : WellFormed.instr (.mctpCqPop .i3c (msg (List.replicate 4084 0))) = false := by decide +kernel
theorem test_ill_formed_updchunkwrite_transport : WellFormed.instr (.updChunkWrite .htp (msg [])) = false := by decide +kernel
theorem test_ill_formed_updchunkwrite_length : WellFormed.instr (.updChunkWrite .i3c (msg (List.replicate 4084 0))) = false := by decide +kernel
theorem test_well_formed_message : WellFormed.instr (.mctpRead .i3c (msg (List.replicate 8 0))) = true := by decide +kernel
theorem test_well_formed_commits : WellFormed.instr (.tipCommit 3 false) = true ∧ WellFormed.instr (.tipCommitError 3 true) = true := by decide +kernel
theorem test_well_formed_vpre : WellFormed.instr (.vpreTaken 3 (List.replicate 8 0)) = true := by decide +kernel

/-! ### The manual's examples -/

/-- R84's example: the address of 1000:0A. -/
theorem test_address_of_iana_pen : dictAddr 0x0008800050 = some (0x1000, 0x0A) := by decide +kernel
/-- The example after R110: word A. -/
theorem test_word_a : wordA 0x12C0003340000000 = ⟨37, true, 0, 0, 3280, 0, 0⟩ := by decide +kernel
/-- The example after R110: the record popped. -/
theorem test_completion_record : completionRecord 37 0 8 3280 0 5000000 = 0x1284066800189681 := by decide +kernel
/-- The example after R118: 410 codes at 12.5 V. -/
theorem test_on_time : ({ st [(Ibc.ibcRatio, 4096), (Rail.fsw 0, 1000)] with loops := [(0, { vref := 51200 })], ibc := { vin := [64000] } } : State).onCode 0 0
    = 410 := by decide +kernel
/-- The example after R118: 512 codes at 10 V. -/
theorem test_on_time_low_bus : ({ st [(Ibc.ibcRatio, 4096), (Rail.fsw 0, 1000)] with loops := [(0, { vref := 51200 })], ibc := { vin := [51200] } } : State).onCode 0 0
    = 512 := by decide +kernel
/-- The example after R345: CMD_LAST of command 612. -/
theorem test_cmd_last : cmdFormat 612 747000000 = 0x0264000000002C86 := by decide +kernel
/-- The example of reconciliation: PT120 takes the rest. -/
theorem test_reconciliation : adjustments 50331 [(120, 30000), (121, 18000)] = [(120, 1457), (121, 874)] := by decide +kernel
/-- The example of a cap round: the factor. -/
theorem test_collective_factor : collFactor 1400000000 1900000000 700000000 = (1, 19114) := by decide +kernel
/-- The announcement of the example in spec/05 has even parity. -/
theorem test_announcement_parity : parityOdd 32 0x3C440000 = false := by decide +kernel
/-- CRC-32C of an erased byte string of no bytes (initial value and final XOR, R347). -/
theorem test_crc_of_nothing : crc32c [] = 0 := by decide +kernel

/-! ### Single steps -/

/-- An empty queue: one HCLK (log 2). -/
theorem test_idle_step : step State.reset = .next State.reset.tickHclk.settle := rfl
/-- The front command is taken. -/
theorem test_front_command : step { pending := [.kettleUpdate, .reconcile] } = exec .kettleUpdate { pending := [.reconcile] } := rfl
/-- No word spells a command. -/
theorem test_no_encodings : decodeTableWord 16 0 = none := rfl
/-- After reset IRQ_N is high and the ladder level is 6 (R36, R52). -/
theorem test_reset_levels : State.reset.irqN = true ∧ State.reset.rd Ladder.ladderLevel = 6 := by decide +kernel
/-- A cause that is enabled pulls IRQ_N low (R52). -/
theorem test_irq_line : (((st [(Irq.irqEnable, 2)]).cause 1).settle).irqN = false := by decide +kernel
/-- IRQ_STATUS is write 1 to clear (R111). -/
theorem test_irq_clear : ((st [(Irq.irqStatus, 6)]).irqClearWrite 2 0).rd Irq.irqStatus = 4 := by decide +kernel

/-! ### The premises of the statements can hold -/

/-- The premises of BringUpReachesClocks can hold. -/
theorem witness_bring_up_reaches_clocks :
    (∃ (s : State), (s.start.porLow = true) ∧ (s.start.vaonAt = none))
    ∧ (∃ (s : State) (x : Nat), (s.start.porLow = true) ∧ (s.start.vaonAt = some x))
    ∧ (∃ (s : State) (x : Nat), (s.start.vaonAt = some x) ∧ (s.start.porLow = false) ∧ (x + 800000 ≤ s.hclk))
    ∧ (∃ (s : State), (s.start.s0 = true) ∧ (s.start.hubUp = false))
    ∧ (∃ (s : State), (s.start.hubUp = true) ∧ (s.start.xspiAt = none) ∧ (8000 ≤ s.beatHclk))
    ∧ (∃ (s : State), (s.start.s0 = true) ∧ (s.start.counting = false) ∧ (s.start.dcusUp = false) ∧ (s.rd Clk.oscTries < 8) ∧ (s.start.settleAt + 200000 * 2 ^ s.rdN Clk.oscSettle ≤ s.hclk))
    ∧ (∃ (s : State) (c : BitVec 16), (s.start.counting = true) ∧ (s.start.settleAt + 4096 ≤ s.hclk) ∧ (124 ≤ c.toNat) ∧ (c.toNat ≤ 132))
    ∧ (∃ (s : State) (c : BitVec 16), (s.start.counting = true) ∧ (s.start.settleAt + 4096 ≤ s.hclk) ∧ ((c.toNat < 124 ∨ 132 < c.toNat)) ∧ (s.rd Clk.oscTries < 7))
    ∧ (∃ (s : State) (c : BitVec 16), (s.start.counting = true) ∧ (s.start.settleAt + 4096 ≤ s.hclk) ∧ ((c.toNat < 124 ∨ 132 < c.toNat)) ∧ (s.rd Clk.oscTries = 7) ∧ (s.rd Start.startState = 0)) :=
  ⟨⟨{}, by decide +kernel⟩,
    ⟨{ start := { vaonAt := some 0 } }, 0, by decide +kernel⟩,
    ⟨{ start := { porLow := false, vaonAt := some 0 }, hclk := 800000 }, 0, by decide +kernel⟩,
    ⟨{ start := { s0 := true } }, by decide +kernel⟩,
    ⟨{ start := { hubUp := true }, beatHclk := 8000 }, by decide +kernel⟩,
    ⟨{ st [(Clk.oscSettle, 0)] with start := { s0 := true }, hclk := 200000 }, by decide +kernel⟩,
    ⟨{ start := { counting := true }, hclk := 4096 }, 132, by decide +kernel⟩,
    ⟨{ st [(Clk.oscTries, 0)] with start := { counting := true }, hclk := 4096 }, 123, by decide +kernel⟩,
    ⟨{ st [(Clk.oscTries, 7)] with start := { counting := true }, hclk := 4096 }, 123, by decide +kernel⟩⟩

/-- The premises of DirectoryAndNativeTest can hold. -/
theorem witness_directory_and_native_test :
    (∃ (s : State) (x : Nat), (s.start.xspiAt = some x) ∧ (x + 800000 ≤ s.hclk) ∧ (s.start.dirRead = false) ∧ (s.fw.dirs = []))
    ∧ (∃ (s : State) (d : BootDir) (x : Nat) (k : Nat) (r : DirRec), (s.start.xspiAt = some x) ∧ (x + 800000 ≤ s.hclk) ∧ (s.start.dirRead = false) ∧ (s.fw.dirs ≠ []) ∧ (newestDir s.fw.dirs d.bad.toNat = some (k, r)))
    ∧ (∃ (s : State), ((s.start.xspiAt = none ∨ s.start.dirRead = true ∨ ∃ x, s.start.xspiAt = some x ∧ s.hclk < x + 800000)))
    ∧ (∃ (s : State), (s.start.dirRead = true) ∧ (s.rd St.stState = 1) ∧ (s.rd St.stFailed = 0) ∧ (s.start.part1Done = false) ∧ (s.start.part2Done = false))
    ∧ (∃ (s : State), ((s.start.dirRead = false ∨ s.start.part1Done = true ∨ (s.rd St.stState ≠ 1 ∧ s.rd St.stState ≠ 4))))
    ∧ (∃ (s : State), (s.start.dirRead = true) ∧ (s.rd St.stState = 1) ∧ (s.rd St.stFailed = 0) ∧ ((∀ b, b < 2 → tabGet (fun _ => 0) s.start.sigs b = (Config.bExpect b).toNat)) ∧ (s.start.part1Done = true) ∧ (s.start.dcusUp = true) ∧ (s.start.part2Done = false) ∧ (s.start.settingsDone = false) ∧ (s.rd Lc.lcState ≠ 0) ∧ (s.rd Start.startState = 0))
    ∧ (∃ (s : State), ((s.start.part1Done = false ∨ s.start.dcusUp = false ∨ s.start.part2Done = true)))
    ∧ (∃ (s : State), (s.hostUp = true) ∧ (s.rd St.stState = 3) ∧ (s.start.retries < 3) ∧ ((∀ n, n < 8 → s.start.failScope.testBit n = true → s.railState n = 0)))
    ∧ (∃ (s : State), (s.hostUp = true) ∧ ((s.rd St.stState ≠ 3 ∨ 3 ≤ s.start.retries)))
    ∧ (∃ (s : State), (s.hostUp = true) ∧ (s.allOff = true) ∧ (s.rd Sd.sdCtrl ≠ 1))
    ∧ (∃ (s : State), (s.hostUp = true) ∧ ((s.allOff = false ∨ s.rd Sd.sdCtrl = 1)))
    ∧ (∃ (s : State) (cs : List (List Word32)), (s.rd Sd.sdCtrl = 1) ∧ (cs.length = 6) ∧ (s.chest.inhibitAt = none))
    ∧ (∃ (s : State), (s.rd Sd.sdCtrl ≠ 1)) :=
  ⟨⟨{ start := { xspiAt := some 0 }, hclk := 800000 }, 0, by decide +kernel⟩,
    ⟨{ start := { xspiAt := some 0 }, hclk := 800000, fw := { dirs := [(0, {})] } }, ⟨none, 0, 0, 0, false, [], [], 0, 0, 0, 0, 0, 0, 0, 0⟩, 0, 0, {}, by decide +kernel⟩,
    ⟨{}, Or.inl rfl⟩,
    ⟨{ st [(St.stState, 1), (St.stFailed, 0)] with start := { dirRead := true } }, by decide +kernel⟩,
    ⟨{}, by decide +kernel⟩,
    ⟨{ st [(Lc.lcState, 3), (St.stState, 1), (St.stFailed, 0), (Start.startState, 0)] with start := { dirRead := true, part1Done := true, dcusUp := true, sigs := [(0, (Config.bExpect 0).toNat), (1, (Config.bExpect 1).toNat)] } }, by decide +kernel, by decide +kernel, by decide +kernel, fun b hb => by match b, hb with | 0, _ => rfl | 1, _ => rfl, by decide +kernel, by decide +kernel, by decide +kernel, by decide +kernel, by decide +kernel, by decide +kernel⟩,
    ⟨{}, by decide +kernel⟩,
    ⟨up (st [(St.stState, 3)]), by decide +kernel⟩,
    ⟨up (st [(St.stState, 2)]), by decide +kernel⟩,
    ⟨up {}, by decide +kernel⟩,
    ⟨up (st [(Sd.sdCtrl, 1)]), by decide +kernel⟩,
    ⟨st [(Sd.sdCtrl, 1)], [[], [], [], [], [], []], by decide +kernel⟩,
    ⟨{}, by decide +kernel⟩⟩

/-- The premises of SupplyRailsAndRelease can hold. -/
theorem witness_supply_rails_and_release :
    (∃ (s : State), (s.rd Start.startState = 1) ∧ (s.start.settingsDone = false) ∧ (s.bootsDone = true))
    ∧ (∃ (s : State), (s.rd Start.startState = 2) ∧ (s.inhibitHere = false) ∧ (s.start.ibcAt = none) ∧ (s.start.gongRestart = false))
    ∧ (∃ (s : State) (x : Nat), (s.rd Start.startState = 2) ∧ (s.start.ibcAt = some x) ∧ (s.start.busOk = false) ∧ (s.busStood = true))
    ∧ (∃ (s : State) (x : Nat), (s.rd Start.startState = 2) ∧ (s.start.ibcAt = some x) ∧ (x + 800000 * s.rdN Start.ibcWait ≤ s.hclk))
    ∧ (∃ (s : State) (n : Nat) (l : List Nat), (s.rd Start.startState = 3) ∧ (s.inhibitHere = false) ∧ (s.rung1 = false) ∧ (s.startRails = n :: l) ∧ (s.railState n = 0))
    ∧ (∃ (s : State) (n : Nat) (m : Nat) (l : List Nat), (s.rd Start.startState = 3) ∧ (s.inhibitHere = false) ∧ (s.rung1 = false) ∧ (s.startRails = n :: m :: l) ∧ (s.railState n = 3) ∧ (s.railState m = 0) ∧ ((s.rail n).upAt + 800 * s.rdN Start.startGap ≤ s.hclk))
    ∧ (∃ (s : State), (s.rd Start.startState = 3) ∧ (s.startRails = []) ∧ (s.start.scanDone = false))
    ∧ (∃ (s : State) (x : Nat), (s.rd Start.startState = 4) ∧ (s.start.readyAt = some x) ∧ (s.rd Start.startAuto = 1) ∧ (x + 800 * s.rdN Start.releaseDelay ≤ s.hclk))
    ∧ (∃ (s : State) (x : Nat), (s.rd Start.startState = 4) ∧ (s.start.readyAt = some x) ∧ (s.hostUp = true))
    ∧ (∃ (s : State), (s.rd Start.startState ≠ 4) ∧ (s.hostUp = true))
    ∧ (∃ (s : State), (s.rd Start.startState = 6) ∧ (s.rd Start.failCause = 4) ∧ (s.hostUp = true) ∧ (s.chest.inhibitAt = none))
    ∧ (∃ (s : State), (s.rd Start.startState = 7) ∧ (1000 * s.rd Start.brownoutLimit < s.rd Start.pausedUs + s.pauseUs)) :=
  ⟨⟨st [(Fp.fpState 0, 2), (Fp.fpState 1, 2), (Fp.fpState 3, 2), (Start.startState, 1)], by decide +kernel⟩,
    ⟨st [(Start.startState, 2)], by decide +kernel⟩,
    ⟨{ st [(Start.startState, 2)] with start := { ibcAt := some 0 }, ibc := { busOkAt := some 0 }, hclk := 800000 }, 0, by decide +kernel⟩,
    ⟨{ st [(Start.startState, 2)] with start := { ibcAt := some 0 }, hclk := 800000 * 65535 }, 0, by decide +kernel⟩,
    ⟨st [(Start.startState, 3), (Start.startOrder, 0xFFFFFFFFFFFFFFF0)], 0, [], by decide +kernel⟩,
    ⟨{ st [(Start.startState, 3), (Start.startOrder, 0xFFFFFFFFFFFFFF10), (Rail.railState 0, 3)] with hclk := 800000000 }, 0, 1, [], by decide +kernel⟩,
    ⟨st [(Start.startState, 3), (Start.startOrder, 0xFFFFFFFFFFFFFFFF)], by decide +kernel⟩,
    ⟨{ st [(Start.startAuto, 1), (Start.startState, 4)] with start := { readyAt := some 0 }, hclk := 800000000 }, 0, by decide +kernel⟩,
    ⟨up ({ st [(Start.startState, 4)] with start := { readyAt := some 0 } }), 0, by decide +kernel⟩,
    ⟨up ({}), by decide +kernel⟩,
    ⟨up (st [(Start.startState, 6), (Start.failCause, 4)]), by decide +kernel⟩,
    ⟨{ st [(Start.startState, 7)] with hclk := 800 * 1000000000000 }, by decide +kernel⟩⟩

/-- The premises of AnalogueEngineInhibitAndLifeCycle can hold. -/
theorem witness_analogue_engine_inhibit_and_life_cycle :
    (∃ (s : State) (v : Word32), (s.rd Lc.lcState = 1) ∧ (getField v.toNat 24 8 = 0) ∧ (getField v.toNat 16 8 = 0) ∧ (getField v.toNat 0 16 = 0) ∧ (s.start.aeRun = none) ∧ (s.allOff = true) ∧ (s.hostUp = true))
    ∧ (∃ (s : State) (v : Word32), (s.rd Lc.lcState = 1) ∧ (5 < getField v.toNat 16 8) ∧ (s.hostUp = true))
    ∧ (∃ (s : State) (b : Nat) (n : Nat) (x : Nat), (s.start.aeRun = some (b, n, x)) ∧ (n ≤ 1))
    ∧ (∃ (s : State) (b : Nat) (n : Nat) (x : Nat), (s.start.aeRun = some (b, n, x)) ∧ (1 < n))
    ∧ (∃ (s : State), (s.chest.inhibitAt = none))
    ∧ (∃ (s : State) (x : Nat), (s.chest.inhibitAt = some x) ∧ (x + 1600000 ≤ s.hclk) ∧ (s.vinOk = true))
    ∧ (∃ (s : State) (v : Byte), (s.start.lcPending = none) ∧ (s.start.lcNext = none) ∧ (s.lcReason v.toNat = 0) ∧ (s.hostUp = true))
    ∧ (∃ (s : State) (v : Byte), (s.lcReason v.toNat ≠ 0) ∧ (s.hostUp = true))
    ∧ (∃ (s : State) (v : Nat), (s.start.lcPending = some v) ∧ (s.chest.inhibitAt = none))
    ∧ (∃ (s : State) (v : Nat), (s.start.lcPending = some v) ∧ (s.chest.inhibitAt = none)) :=
  ⟨⟨up (st [(Lc.lcState, 1)]), 0, by decide +kernel⟩,
    ⟨up (st [(Lc.lcState, 1)]), 0x60000, by decide +kernel⟩,
    ⟨{ start := { aeRun := some (0, 1, 0) } }, 0, 1, 0, by decide +kernel⟩,
    ⟨{ start := { aeRun := some (0, 2, 0) } }, 0, 2, 0, by decide +kernel⟩,
    ⟨{}, by decide +kernel⟩,
    ⟨{ chest := { inhibitAt := some 0 }, hclk := 1600000 }, 0, by decide +kernel⟩,
    ⟨up (st [(Lc.lcState, 0), (Lc.lcFusesLeft, 1), (KeyLad.keyStatus, 3)]), 1, by decide +kernel⟩,
    ⟨up (st [(Lc.lcState, 4)]), 0, by decide +kernel⟩,
    ⟨{ start := { lcPending := some 1 } }, 1, by decide +kernel⟩,
    ⟨{ start := { lcPending := some 1 } }, 1, by decide +kernel⟩⟩

/-- The premises of SchedulerCompletes can hold. -/
theorem witness_scheduler_completes :
    (∃ (s : State) (e : Sched), (e ∈ s.hub.sched) ∧ (e.delivered = false) ∧ (s.now1024 + 64 * 1024 ≤ instant1024 e.beat e.tick) ∧ ((∀ x ∈ s.hub.sched, x.delivered = false → x.order ≠ e.order → instant1024 e.beat e.tick < instant1024 x.beat x.tick)) ∧ ((∀ x ∈ s.hub.sched, x.order = e.order → x = e)))
    ∧ (∃ (s : State) (e : Sched) (p : Fin 160) (v : Int), (s.hub.sched = [e]) ∧ (e.txn = ⟨none, s.hub.epoch, 8, aBrush p, v, false⟩) ∧ (e.fw = none) ∧ (e.delivered = false) ∧ (instant1024 e.beat e.tick ≤ s.now1024) ∧ (s.passes e.txn none = true) ∧ (s.budget.fw.plans = []))
    ∧ (∃ (s : State) (n : Fin 512) (w : Waiting), (s.hub.waiting = [w]) ∧ (w.txn.tag = some n.val) ∧ (w.txn.act / 4096 = 1) ∧ (w.since + 16000 ≤ s.hclk))
    ∧ (∃ (s : State) (c : Fin 64), ((s.dcu c).target = s.rd (Cd.ratioOut c)) ∧ ((s.dcu c).altPending = false)) :=
  ⟨⟨{ hub := { sched := [⟨⟨none, 0, 8, 0, 0, false⟩, 1, 0, 0, false, none⟩] } }, ⟨⟨none, 0, 8, 0, 0, false⟩, 1, 0, 0, false, none⟩, by decide +kernel⟩,
    ⟨{ hub := { sched := [⟨⟨none, 0, 8, aBrush 159, 16, false⟩, 0, 0, 0, false, none⟩] } }, ⟨⟨none, 0, 8, aBrush 159, 16, false⟩, 0, 0, 0, false, none⟩, 159, 16, by decide +kernel⟩,
    ⟨{ hub := { waiting := [⟨⟨some 511, 0, 8, 4096, 64, false⟩, 0, none⟩] }, hclk := 16000 }, 511, ⟨⟨some 511, 0, 8, 4096, 64, false⟩, 0, none⟩, by decide +kernel⟩,
    ⟨{ st [(Cd.ratioOut 63, 64)] with dcus := [(63, { inPlace := false })] }, 63, by decide +kernel⟩⟩

/-- The premises of SatelliteRingCompletes can hold. -/
theorem witness_satellite_ring_completes :
    (∃ (s : State), (s.hub.keepAt + 64 ≤ s.hclk))
    ∧ (∃ (s : State), (s.hub.keepAt + 64 ≤ s.hclk) ∧ ((∀ c, (s.sat c).isolated = false)))
    ∧ (∃ (s : State) (c : Fin 160) (v : Int), (s.hub.ring = [⟨c.val, 0, v, true, true, false⟩]) ∧ (c.val < 64) ∧ (s.rung3Ceil c = none) ∧ ((s.sat c).isolated = false))
    ∧ (∃ (s : State) (c : Fin 160) (v : Int) (hi : Int), (s.hub.ring = [⟨c.val, 0, v, true, true, false⟩]) ∧ (c.val < 64) ∧ (s.rung3Ceil c = some hi) ∧ (hi < v) ∧ ((s.sat c).isolated = false))
    ∧ (∃ (s : State) (c : Fin 160), ((s.sat c).isolated = false) ∧ ((s.sat c).broken0 = false) ∧ (max (s.sat c).lastGood s.hub.keepAt + 256 ≤ s.hclk))
    ∧ (∃ (s : State) (c : Fin 160), ((s.sat c).broken0 = false))
    ∧ (∃ (s : State) (c : Fin 160), ((s.sat c).broken1 = false)) :=
  ⟨⟨{ hub := { sats := [(63, { isolated := true })] }, hclk := 64 }, by decide +kernel⟩,
    ⟨{ hclk := 64 }, ⟨by decide, fun _ => rfl⟩⟩,
    ⟨{ hub := { ring := [⟨63, 0, 64, true, true, false⟩] } }, 63, 64, by decide +kernel⟩,
    ⟨{ hub := { ring := [⟨63, 0, 64, true, true, false⟩] }, snares := [(63, { edge := some 0, tripCode := 63 })] }, 63, 64, 63, by decide +kernel⟩,
    ⟨{ hclk := 256 }, 159, by decide +kernel⟩,
    ⟨{}, 159, by decide +kernel⟩,
    ⟨{}, 0, by decide +kernel⟩⟩

/-- The premises of ModulatorAndOnTimesComplete can hold. -/
theorem witness_modulator_and_on_times_complete :
    (∃ (s : State) (n : Fin 8) (v : BitVec 18), ((s.railState n = 2 ∨ s.regulating n = true)) ∧ (s.feedbackLow n v.toNat = true) ∧ ((s.rail n).inhibit = true) ∧ (s.fireSpaced n = true))
    ∧ (∃ (s : State) (n : Fin 8) (v : BitVec 18), ((s.railState n = 2 ∨ s.regulating n = true)) ∧ (s.feedbackLow n v.toNat = true) ∧ ((s.rail n).inhibit = false) ∧ (s.fireSpaced n = true))
    ∧ (∃ (s : State) (n : Fin 8), (s.fireSpaced n = false))
    ∧ (∃ (s : State) (n : Fin 8) (p : Nat), ((s.rail n).trigger = true) ∧ ((s.rail n).inhibit = false) ∧ ((s.rail n).ovClamp = false) ∧ (s.fireSpaced n = true) ∧ ((s.nextPhase n).2 = some p))
    ∧ (∃ (s : State) (p : Fin 96), ((s.ph p).onTime = true) ∧ ((s.ph p).shedDue = false) ∧ (s.rd (Ph.phType p) = 0))
    ∧ (∃ (s : State) (p : Fin 96), ((s.ph p).onTime = true) ∧ ((s.ph p).shedDue = false) ∧ (s.rd (Ph.phType p) = 1))
    ∧ (∃ (s : State) (p : Fin 96), ((s.ph p).onTime = true) ∧ ((s.ph p).shedDue = true) ∧ (s.rd (Rail.phFloor (Config.phRail p)) < ((s.actList (Config.phRail p)).length : Int)))
    ∧ (∃ (s : State) (p : Fin 96) (i : BitVec 14), ((s.ph p).onTime = true) ∧ (s.overIlim p (s.limitCurrent p i.toInt) = true) ∧ ((s.ph p).limRun < 15))
    ∧ (∃ (s : State) (n : Fin 8), (s.onState n = true))
    ∧ (∃ (s : State) (n : Fin 8) (f : Nat) (k : Nat) (x : Nat), ((s.rail n).burst = some (f, k)) ∧ ((s.rail n).lastHit = some x) ∧ (x + 80000 ≤ s.hclk))
    ∧ (∃ (s : State) (p : Fin 96) (i : BitVec 14), ((s.rail (Config.phRail p)).diode = false ∨ (s.rail (Config.phRail p)).ovClamp = true) ∧ ((s.ph p).onTime = false) ∧ ((s.ph p).pwm = .low) ∧ (s.limitCurrent p i.toInt < -256000))
    ∧ (∃ (s : State) (p : Fin 96) (i : BitVec 14), (-256000 ≤ s.limitCurrent p i.toInt))
    ∧ (∃ (s : State) (p : Fin 96), ((s.rail (Config.phRail p)).diode = true) ∧ ((s.rail (Config.phRail p)).ovClamp = false) ∧ ((s.ph p).onTime = false) ∧ ((s.ph p).pwm = .low)) :=
  ⟨⟨{ st [(Rail.railState 7, 2)] with rails := [(7, { inhibit := true })], loops := [(7, { vref := 1 })] }, 7, 0, by decide +kernel⟩,
    ⟨{ st [(Rail.railState 0, 3)] with loops := [(0, { vref := 1 })] }, 0, 0, by decide +kernel⟩,
    ⟨{ st [(Rail.railState 0, 3)] with rails := [(0, { lastFire := some 0 })], hclk := 3 }, 0, by decide +kernel⟩,
    ⟨{ st [(Ph.phState 31, 2)] with rails := [(0, { trigger := true, count := 1 })] }, 0, 31, by decide +kernel⟩,
    ⟨{ phs := [(0, { onTime := true })] }, 0, by decide +kernel⟩,
    ⟨{ st [(Ph.phL 95, 1)] with phs := [(95, { onTime := true })] }, 95, by decide +kernel⟩,
    ⟨{ st [(Rail.phFloor 7, 1), (Ph.phState 94, 2), (Ph.phState 95, 2)] with phs := [(95, { onTime := true, shedDue := true })] }, 95, by decide +kernel⟩,
    ⟨{ st [(Ph.phL 0, 1)] with phs := [(0, { onTime := true, limRun := 14 })] }, 0, 8191, by decide +kernel⟩,
    ⟨st [(Rail.railState 7, 4)], 7, by decide +kernel⟩,
    ⟨{ rails := [(7, { burst := some (255, 2), lastHit := some 0 })], hclk := 80000 }, 7, 255, 2, 0, by decide +kernel⟩,
    ⟨{ phs := [(0, { pwm := .low })] }, 0, 15383, by decide +kernel⟩,
    ⟨{}, 0, 0, by decide +kernel⟩,
    ⟨{ phs := [(0, { pwm := .low })], rails := [(0, { diode := true })] }, 0, by decide +kernel⟩⟩

/-- The premises of PhaseFaultsAndSheddingComplete can hold. -/
theorem witness_phase_faults_and_shedding_complete :
    (∃ (s : State) (n : Fin 8) (x : Nat), ((s.rail n).shedSince = some x) ∧ (s.rd (Rail.shedEn n) = 1) ∧ (s.regulating n = true) ∧ (x + 800 * s.rdN (Rail.shedDwell n) ≤ s.hclk) ∧ (s.rd (Rail.phFloor n) < (s.staying n).length))
    ∧ (∃ (s : State) (p : Fin 96) (x : Nat), (s.rd (Ph.phType p) = 0) ∧ ((s.ph p).zeroArmed = true) ∧ ((s.ph p).zeroLow = true) ∧ ((s.ph p).onTime = false) ∧ ((s.ph p).offAt = some x) ∧ (x + 8 ≤ s.hclk) ∧ (s.rd (Ph.phState p) ≠ 5) ∧ ((s.ph p).decided = none))
    ∧ (∃ (s : State) (p : Fin 96), (s.rd (Ph.phType p) = 1) ∧ ((s.ph p).en = true) ∧ (s.underTest 5 p = false))
    ∧ (∃ (s : State) (p : Fin 96) (f : Word32), (s.rd (Ph.phType p) = 1) ∧ ((s.ph p).en = true) ∧ (s.underTest 5 p = false) ∧ (crc4 f.toNat = getField f.toNat 0 4))
    ∧ (∃ (s : State) (p : Fin 96), ((s.rd (Ph.phType p) ≠ 1 ∨ (s.ph p).en = false ∨ s.underTest 5 p = true)))
    ∧ (∃ (s : State) (p : Fin 96), (s.rd (Ph.phType p) = 1) ∧ ((s.ph p).en = true) ∧ (s.rd (Ph.phState p) ≠ 5) ∧ ((s.ph p).decided = none) ∧ (max ((s.ph p).enAt + 16000) ((s.ph p).lastFrame.getD 0) + 1600 ≤ s.hclk))
    ∧ (∃ (s : State) (p : Fin 96) (x : Nat), ((s.ph p).excludedAt = some x) ∧ (x + 80000 ≤ s.hclk) ∧ (s.rd (Ph.phState p) = 4) ∧ ((s.ph p).decided = none))
    ∧ (∃ (s : State) (p : Fin 96) (c : Nat), ((s.ph p).decided = some c) ∧ ((s.ph p).decidedAt ≤ s.hclk) ∧ (c ≠ 7))
    ∧ (∃ (s : State) (p : Fin 96), ((s.ph p).decided = some 7) ∧ ((s.ph p).decidedAt ≤ s.hclk))
    ∧ (∃ (s : State) (p : Fin 96), ((s.ph p).en = true) ∧ ((s.ph p).pwm = .hiZ) ∧ ((s.ph p).hiZAt + 800 ≤ s.hclk) ∧ ((s.rd (Ph.phState p) = 5 ∨ s.onState (Config.phRail p) = false)))
    ∧ (∃ (s : State) (n : Fin 8), ((s.rail n).rung2 = true) ∧ ((s.rail n).lastHit.all (fun x => decide (x + 80000 ≤ s.hclk)) = true) ∧ ((s.rail n).retiredAt.all (fun x => decide (x + 80000000 ≤ s.hclk)) = true) ∧ ((s.rail n).latchedAt.all (fun x => decide (x + 800000000 ≤ s.hclk)) = true))
    ∧ (∃ (s : State) (p : Fin 96), (s.rd (Ph.phState p) ≠ 5) ∧ (s.railState (Config.phRail p) = 0) ∧ ((s.ph p).decided = none) ∧ (s.hostUp = true))
    ∧ (∃ (s : State) (n : Fin 8), (s.railState n = 0) ∧ (s.hostUp = true)) :=
  ⟨⟨{ st [(Rail.railState 0, 3), (Rail.phFloor 0, 1), (Rail.shedDwell 0, 1), (Rail.shedEn 0, 1), (Ph.phState 0, 2), (Ph.phState 1, 2)] with rails := [(0, { shedSince := some 0 })], hclk := 800 }, 0, 0, by decide +kernel⟩,
    ⟨{ phs := [(31, { zeroArmed := true, zeroLow := true, offAt := some 0 })], hclk := 8 }, 31, 0, by decide +kernel⟩,
    ⟨{ phs := [(95, { en := true })] }, 95, by decide +kernel⟩,
    ⟨{ phs := [(95, { en := true })] }, 95, BitVec.ofNat 32 (0x12345670 + crc4 0x12345670), by decide +kernel⟩,
    ⟨{}, 0, by decide +kernel⟩,
    ⟨{ phs := [(95, { en := true })], hclk := 17600 }, 95, by decide +kernel⟩,
    ⟨{ st [(Ph.phState 95, 4)] with phs := [(95, { excludedAt := some 0 })], hclk := 80000 }, 95, 0, by decide +kernel⟩,
    ⟨{ phs := [(95, { decided := some 1 })] }, 95, 1, by decide +kernel⟩,
    ⟨{ phs := [(0, { decided := some 7 })] }, 0, by decide +kernel⟩,
    ⟨{ phs := [(95, { en := true })], hclk := 800 }, 95, by decide +kernel⟩,
    ⟨{ rails := [(7, { rung2 := true, lastHit := some 0 })], hclk := 80000 }, 7, by decide +kernel⟩,
    ⟨up ({}), 95, by decide +kernel⟩,
    ⟨up (st [(Ph.phState 95, 5)]), 7, by decide +kernel⟩⟩

/-- The premises of RailCommandsComplete can hold. -/
theorem witness_rail_commands_complete :
    (∃ (s : State) (n : Fin 8), (s.railState n = 0) ∧ (s.rung1 = false) ∧ (s.rd Sd.sdCtrl ≠ 1) ∧ (s.testBars n = false) ∧ (s.tripComes = false) ∧ (s.hostUp = true))
    ∧ (∃ (s : State) (n : Fin 8), ((s.railState n ≠ 0 ∨ s.rung1 = true ∨ s.rd Sd.sdCtrl = 1 ∨ s.testBars n = true ∨ s.tripComes = true)) ∧ (s.hostUp = true))
    ∧ (∃ (s : State) (n : Fin 8), (s.onState n = true) ∧ (s.rd Sd.sdCtrl ≠ 1) ∧ (s.rd (Rail.tSoftstop n) = 0) ∧ (s.hostUp = true))
    ∧ (∃ (s : State) (n : Fin 8), (s.onState n = true) ∧ (s.rd Sd.sdCtrl ≠ 1) ∧ (s.rd (Rail.tSoftstop n) ≠ 0) ∧ ((s.rail n).softStop = false) ∧ (s.hostUp = true))
    ∧ (∃ (s : State) (n : Fin 8), ((s.onState n = false ∨ s.rd Sd.sdCtrl = 1 ∨ (s.rd (Rail.tSoftstop n) ≠ 0 ∧ (s.rail n).softStop = true))) ∧ (s.hostUp = true))
    ∧ (∃ (s : State) (n : Fin 8), (s.onState n = true) ∧ (s.rd Sd.sdCtrl ≠ 1) ∧ (s.hostUp = true))
    ∧ (∃ (s : State) (n : Fin 8), ((s.onState n = false ∨ s.rd Sd.sdCtrl = 1)) ∧ (s.hostUp = true))
    ∧ (∃ (s : State) (n : Fin 8), (s.railState n = 5) ∧ (s.rd (Rail.latchTime n) + 1000000 ≤ s.beat) ∧ (s.rd Sd.sdCtrl ≠ 1) ∧ (s.hostUp = true))
    ∧ (∃ (s : State) (n : Fin 8), ((s.railState n ≠ 5 ∨ s.beat < s.rd (Rail.latchTime n) + 1000000 ∨ s.rd Sd.sdCtrl = 1)) ∧ (s.hostUp = true)) :=
  ⟨⟨up (st [(St.stState, 2)]), 7, by decide +kernel⟩,
    ⟨up (st [(Gong.gongState, 2)]), 0, by decide +kernel⟩,
    ⟨up (st [(Rail.railState 7, 1), (Rail.tSoftstop 7, 0)]), 7, by decide +kernel⟩,
    ⟨up (st [(Rail.railState 0, 4), (Rail.tSoftstop 0, 1)]), 0, by decide +kernel⟩,
    ⟨up ({ st [(Rail.railState 7, 2), (Rail.tSoftstop 7, 1)] with rails := [(7, { softStop := true })] }), 7, by decide +kernel⟩,
    ⟨up (st [(Rail.railState 7, 3)]), 7, by decide +kernel⟩,
    ⟨up ({}), 0, by decide +kernel⟩,
    ⟨up ({ st [(Rail.railState 7, 5), (Rail.latchTime 7, 0)] with beatHclk := 800000000 }), 7, by decide +kernel⟩,
    ⟨up ({ st [(Rail.railState 7, 5), (Rail.latchTime 7, 1)] with beatHclk := 800000000 }), 7, by decide +kernel⟩⟩

/-- The premises of RailStartAndSoftStopComplete can hold. -/
theorem witness_rail_start_and_soft_stop_complete :
    (∃ (s : State) (n : Fin 8), (s.railState n = 1) ∧ ((s.rail n).enteredAt + 16000 ≤ s.hclk))
    ∧ (∃ (s : State) (n : Fin 8) (l : List (BitVec 18)) (v : Int), (s.railState n = 1) ∧ ((s.rail n).sampling = true) ∧ (l.length = 8) ∧ (v = divNear 6 (l.foldl (fun a x => a + (x.toNat : Int)) 0) 128) ∧ (v ≤ s.rd (Rail.vsetMax n) + s.rd (Rail.ovMargin n)) ∧ (s.rd Ibc.busUv ≤ s.rd (Rail.vinBus n)))
    ∧ (∃ (s : State) (n : Fin 8) (l : List (BitVec 18)) (v : Int), (s.railState n = 1) ∧ ((s.rail n).sampling = true) ∧ (l.length = 8) ∧ (v = divNear 6 (l.foldl (fun a x => a + (x.toNat : Int)) 0) 128) ∧ (s.rd (Rail.vsetMax n) + s.rd (Rail.ovMargin n) < v) ∧ (s.rd Ibc.busUv ≤ s.rd (Rail.vinBus n)))
    ∧ (∃ (s : State) (n : Fin 8) (l : List (BitVec 18)) (v : Int), (s.railState n = 1) ∧ ((s.rail n).sampling = true) ∧ (l.length = 8) ∧ (v = divNear 6 (l.foldl (fun a x => a + (x.toNat : Int)) 0) 128) ∧ (s.rd (Rail.vinBus n) < s.rd Ibc.busUv))
    ∧ (∃ (s : State) (n : Fin 8), (s.shortVout n = true))
    ∧ (∃ (s : State) (n : Fin 8), (s.railState n = 2) ∧ ((s.rail n).softStop = false) ∧ ((s.rail n).enteredAt + (16000 * (s.rail n).tRamp + 800000) ≤ s.hclk))
    ∧ (∃ (s : State) (n : Fin 8), (s.railState n = 2) ∧ ((s.rail n).softStop = true) ∧ ((s.rail n).ramp ≤ 0)) :=
  ⟨⟨{ st [(Rail.railState 7, 1)] with hclk := 16000 }, 7, by decide +kernel⟩,
    ⟨{ st [(Ibc.busUv, 0), (Rail.railState 7, 1)] with rails := [(7, { sampling := true })] }, 7, [0, 0, 0, 0, 0, 0, 0, 0], 0, by decide +kernel⟩,
    ⟨{ st [(Ibc.busUv, 0), (Rail.railState 7, 1), (Rail.ovMargin 7, 0), (Rail.vsetMax 7, 100)] with rails := [(7, { sampling := true })] }, 7, [12928, 12928, 12928, 12928, 12928, 12928, 12928, 12928], 808, by decide +kernel⟩,
    ⟨{ st [(Ibc.busUv, 1), (Rail.railState 7, 1)] with rails := [(7, { sampling := true })] }, 7, [0, 0, 0, 0, 0, 0, 0, 0], 0, by decide +kernel⟩,
    ⟨{ st [(Rail.railState 7, 2), (Rail.vout 7, 199), (Rail.tSoftstart 7, 50)] with rails := [(7, { inhibit := true, tRamp := 50 })], hclk := 40000 }, 7, by decide +kernel⟩,
    ⟨{ st [(Rail.railState 7, 2)] with rails := [(7, { tRamp := 50 })], hclk := 1600000 }, 7, by decide +kernel⟩,
    ⟨{ st [(Rail.railState 7, 2)] with rails := [(7, { softStop := true })] }, 7, by decide +kernel⟩⟩

/-- The premises of RailFaultsAndConverterComplete can hold. -/
theorem witness_rail_faults_and_converter_complete :
    (∃ (s : State) (n : Fin 8) (v : BitVec 16), (s.regulating n = true) ∧ (s.ovFault n v.toNat = true))
    ∧ (∃ (s : State) (n : Fin 8) (v : BitVec 16), ((s.railState n = 1 ∨ s.railState n = 2)) ∧ (s.ovFault n v.toNat = true))
    ∧ (∃ (s : State) (n : Fin 8) (v : BitVec 16), (s.ovFault n v.toNat = false))
    ∧ (∃ (s : State) (n : Fin 8) (v : BitVec 16), ((s.rail n).ovClamp = true) ∧ ((v.toNat : Int) ≤ s.rd (Rail.vsetRes n)))
    ∧ (∃ (s : State) (n : Fin 8) (v : BitVec 16) (x : Nat), (s.regulating n = true) ∧ ((v.toNat : Int) < s.rd (Rail.vsetRes n) - s.rd (Rail.uvMargin n)) ∧ ((s.rail n).uvSince = some x) ∧ (x + 800 * s.rdN (Rail.uvTime n) ≤ s.hclk))
    ∧ (∃ (s : State) (n : Fin 8) (i : Fin 16) (o : Bool), (s.bit (Rail.snsWorking n) i = true) ∧ ((o = true ∨ 1 < popcount16 (s.rdN (Rail.snsWorking n)))) ∧ ((s.wrBit (Rail.snsWorking n) i false).rd (Rail.snsWorking n) ≠ 0))
    ∧ (∃ (s : State) (n : Fin 8) (x : Nat), (s.onState n = true) ∧ (s.ibc.busUvAt = some x) ∧ (x + 8000 ≤ s.hclk))
    ∧ (∃ (s : State), (s.pollDue = true))
    ∧ (∃ (s : State), (s.pollDue = true))
    ∧ (∃ (s : State), (s.hostUp = true))
    ∧ (∃ (s : State), (s.hostUp = true))
    ∧ (∃ (s : State), ((∀ n ∈ railList, s.railState n = 0 ∨ s.railState n = 5)) ∧ (s.hostUp = true))
    ∧ (∃ (s : State) (n : Fin 8), (s.onState n = true) ∧ (s.hostUp = true)) :=
  ⟨⟨{ st [(Rail.railState 7, 3), (Rail.ovMargin 7, 0), (Rail.vsetMax 7, 100)] with rails := [(7, { ovSince := some 0 })], hclk := 80 }, 7, 65535, by decide +kernel⟩,
    ⟨{ st [(Rail.railState 7, 2), (Rail.ovMargin 7, 0), (Rail.vsetMax 7, 100)] with rails := [(7, { ovSince := some 0 })], hclk := 80 }, 7, 101, by decide +kernel⟩,
    ⟨{}, 0, 0, by decide +kernel⟩,
    ⟨{ rails := [(7, { ovClamp := true })] }, 7, 0, by decide +kernel⟩,
    ⟨{ st [(Rail.railState 0, 4), (Rail.vsetRes 0, 3000), (Rail.uvMargin 0, 200), (Rail.uvTime 0, 1)] with rails := [(0, { uvSince := some 0 })], hclk := 800 }, 0, 2799, 0, by decide +kernel⟩,
    ⟨st [(Rail.snsWorking 7, 0x8001)], 7, 15, false, by decide +kernel⟩,
    ⟨{ st [(Rail.railState 7, 1)] with ibc := { busUvAt := some 0 }, hclk := 8000 }, 7, 0, by decide +kernel⟩,
    ⟨{ ibc := { nacks := 2 } }, by decide +kernel⟩,
    ⟨{}, by decide +kernel⟩,
    ⟨up ({}), by decide +kernel⟩,
    ⟨up ({}), by decide +kernel⟩,
    ⟨up (st [(Rail.railState 7, 5)]), by decide +kernel⟩,
    ⟨up (st [(Rail.railState 7, 4)]), 7, by decide +kernel⟩⟩

/-- The premises of LoopPeriodAndCoefficientsComplete can hold. -/
theorem witness_loop_period_and_coefficients_complete :
    (∃ (s : State) (n : Fin 8), (s.sampleEdge n = true) ∧ (s.regulating n = true))
    ∧ (∃ (s : State) (n : Fin 8), (s.sampleEdge n = true) ∧ (s.railState n = 0))
    ∧ (∃ (s : State) (n : Fin 8), (s.sampleEdge n = true) ∧ ((s.loop n).commit ≠ 0))
    ∧ (∃ (s : State) (n : Fin 8) (r : Nat), (s.sampleEdge n = true) ∧ (s.regulating n = true) ∧ (s.rd (Loop.regionForce n) = (r : Int)) ∧ (r < 4) ∧ ((s.loop n).lastRegion ≠ r) ∧ (s.rd (Loop.loopState n) ≠ 0))
    ∧ (∃ (s : State) (n : Fin 8) (v : Byte), (v.toNat ≤ 4) ∧ ((∀ r ∈ commitRegions v.toNat, s.oneExp n r = true)) ∧ (s.hostUp = true))
    ∧ (∃ (s : State) (n : Fin 8) (v : Byte), ((4 < v.toNat ∨ ∃ r ∈ commitRegions v.toNat, s.oneExp n r = false)) ∧ (s.hostUp = true))
    ∧ (∃ (s : State), (s.scrubDue = true))
    ∧ (∃ (s : State) (n : Fin 8) (k : Fin 60), (s.scrubDue = true) ∧ (k.val / 15 ≠ s.rdN (Loop.region n)))
    ∧ (∃ (s : State) (n : Fin 8) (k : Fin 60), (s.scrubDue = true) ∧ (k.val / 15 = s.rdN (Loop.region n)))
    ∧ (∃ (s : State) (w : BitVec 16) (r : FabReq), (s.rdN Arb.ePromoteAt ≤ w.toNat) ∧ (s.arb.waiting = [r]) ∧ (r.level = 4) ∧ (r.promoted = false) ∧ (r.since = s.hclk - w.toNat))
    ∧ (∃ (s : State) (w : BitVec 16), (s.rdN Arb.ePromoteAt ≤ w.toNat) ∧ (s.arb.waiting = []))
    ∧ (∃ (s : State) (r : FabReq), (s.arb.waiting = [r]) ∧ (r.level = 4) ∧ (r.promoted = true) ∧ (r.since ≤ s.hclk) ∧ (s.arb.busyTo ≤ s.hclk)) :=
  ⟨⟨{ st [(Rail.railState 7, 3)] with start := { hubUp := true }, hclk := 35 }, 7, by decide +kernel⟩,
    ⟨{ ({} : State) with start := { hubUp := true }, hclk := 35 }, 7, by decide +kernel⟩,
    ⟨{ ({} : State) with start := { hubUp := true }, hclk := 35, loops := [(7, { commit := 1, newCoef := [(0, 5)] })] }, 7, by decide +kernel⟩,
    ⟨{ st [(Rail.railState 7, 3), (Loop.regionForce 7, 3), (Loop.loopState 7, 2)] with start := { hubUp := true }, hclk := 35, loops := [(7, { lastRegion := 0 })] }, 7, 3, by decide +kernel⟩,
    ⟨up (st ((List.range 60).map (fun k => (Loop.coef 7 k, 0)))), 7, 4, by decide +kernel⟩,
    ⟨up ({}), 7, 5, by decide +kernel⟩,
    ⟨{}, by decide +kernel⟩,
    ⟨{ scrubAt := some 0, hclk := 800000 }, 7, 59, by decide +kernel⟩,
    ⟨{}, 7, 14, by decide +kernel⟩,
    ⟨{ arb := { waiting := [⟨4, 1, 0, [], false⟩] }, hclk := 2001 }, 2001, ⟨4, 1, 0, [], false⟩, by decide +kernel⟩,
    ⟨{ hclk := 2001 }, 2001, by decide +kernel⟩,
    ⟨{ arb := { waiting := [⟨4, 1, 0, [], true⟩] }, hclk := 2001 }, ⟨4, 1, 0, [], true⟩, by decide +kernel⟩⟩

/-- The premises of FollowingErrorAndTraceComplete can hold. -/
theorem witness_following_error_and_trace_complete :
    (∃ (s : State) (n : Fin 8), ((s.loop n).feDue = true) ∧ (s.feDecided n = true) ∧ (s.railLeaves n = false) ∧ (s.regulating n = true) ∧ (s.rd (Loop.feEn n) = 1) ∧ ((s.loop n).rung4 = false))
    ∧ (∃ (s : State) (n : Fin 8), ((s.loop n).rung4 = true) ∧ (s.regulating n = false) ∧ (s.edgeHclk n = true))
    ∧ (∃ (s : State) (n : Fin 8), (s.edgeHclk n = false))
    ∧ (∃ (s : State) (n : Fin 8), ((s.loop n).rung4 = true) ∧ (s.railLeaves n = false) ∧ (s.regulating n = true) ∧ (s.rd (Loop.feEn n) = 1) ∧ (s.rdN (Loop.feRelTime n) ≤ (s.loop n).relRun) ∧ (s.edgeHclk n = true))
    ∧ (∃ (s : State) (n : Fin 8), ((s.rd (Trace.trCtrl n) = 0 ∨ s.rd (Trace.trCtrl n) = 3)) ∧ (s.hostUp = true))
    ∧ (∃ (s : State) (n : Fin 8), (s.rd (Trace.trCtrl n) = 1) ∧ ((s.loop n).traceCause = none) ∧ (s.hostUp = true))
    ∧ (∃ (s : State) (n : Fin 8), ((s.rd (Trace.trCtrl n) = 1 ∨ s.rd (Trace.trCtrl n) = 2)) ∧ (s.hostUp = true))
    ∧ (∃ (s : State) (n : Fin 8), (s.rd (Trace.trCtrl n) = 2) ∧ (4096 ≤ (s.loop n).trace.length)) :=
  ⟨⟨{ st [(Rail.railState 7, 3), (Loop.feEn 7, 1)] with loops := [(7, { feDue := true })] }, 7, by decide +kernel⟩,
    ⟨up { loops := [(7, { rung4 := true })], hclk := 35 }, 7, by decide +kernel⟩,
    ⟨{}, 7, by decide +kernel⟩,
    ⟨up { st [(Rail.railState 7, 3), (Loop.feRelTime 7, 5), (Loop.feEn 7, 1)] with loops := [(7, { rung4 := true, relRun := 5 })], hclk := 35 }, 7, by decide +kernel⟩,
    ⟨up (st [(Trace.trCtrl 7, 3)]), 7, by decide +kernel⟩,
    ⟨up (st [(Trace.trCtrl 7, 1)]), 7, by decide +kernel⟩,
    ⟨up (st [(Trace.trCtrl 7, 2)]), 7, by decide +kernel⟩,
    ⟨{ st [(Trace.trCtrl 7, 2)] with loops := [(7, { trace := List.replicate 4096 [] })] }, 7, by decide +kernel⟩⟩

/-- The premises of DemandWritesComplete can hold. -/
theorem witness_demand_writes_complete :
    (∃ (s : State) (n : Fin 8) (v : BitVec 16), (s.inRange (aVset n) v.toNat true = true) ∧ (s.hostUp = true) ∧ (s.earlyNow.contains (Rail.vsetDemand n) = false))
    ∧ (∃ (s : State) (n : Fin 8) (v : BitVec 16), ((v.toNat % 10 ≠ 0 ∨ (v.toNat : Int) < s.rd (Rail.vfloor n) ∨ s.rd (Rail.vsetMax n) < (v.toNat : Int))) ∧ (s.hostUp = true) ∧ (s.earlyNow.contains (Rail.vsetDemand n) = false))
    ∧ (∃ (s : State) (c : Fin 64) (v : Byte), (s.rd (Cd.minCode c) ≤ (v.toNat : Int)) ∧ (v.toNat ≤ 64) ∧ (s.hostUp = true) ∧ (s.earlyNow.contains (Cd.ratioDemand c) = false))
    ∧ (∃ (s : State) (c : Fin 64) (v : Byte), ((v.toNat : Int) < s.rd (Cd.minCode c) ∨ 64 < v.toNat) ∧ (s.hostUp = true) ∧ (s.earlyNow.contains (Cd.ratioDemand c) = false))
    ∧ (∃ (s : State) (d : Fin 96) (v : Byte), (v.toNat ≤ 1) ∧ (s.hostUp = true) ∧ (s.earlyNow.contains (Pd.pdDemand d) = false))
    ∧ (∃ (s : State) (d : Fin 96) (v : Byte), (1 < v.toNat) ∧ (s.hostUp = true) ∧ (s.earlyNow.contains (Pd.pdDemand d) = false))
    ∧ (∃ (s : State) (n : Fin 8), (s.hostUp = true) ∧ (s.earlyNow.contains (Rail.vsetDemand n) = true)) :=
  ⟨⟨up (st [(Rail.vsetRes 7, 2800), (Rail.vsetMax 7, 3000), (Rail.vfloor 7, 2000)]), 7, 3000, by decide +kernel⟩,
    ⟨up ({}), 7, 3001, by decide +kernel⟩,
    ⟨up (st [(Cd.minCode 63, 64)]), 63, 64, by decide +kernel⟩,
    ⟨up (st [(Cd.minCode 0, 1)]), 0, 65, by decide +kernel⟩,
    ⟨up ({}), 95, 1, by decide +kernel⟩,
    ⟨up ({}), 95, 2, by decide +kernel⟩,
    ⟨up { host := { wrEarly := [Rail.vsetDemand 7] } }, 7, by decide +kernel⟩⟩

/-- The premises of SnareCompletes can hold. -/
theorem witness_snare_completes :
    (∃ (s : State) (c : Fin 64) (i : Fin 8), (s.bit (Snare.snMask c) i = true) ∧ (s.rdN (Snare.snTripped c) = 0) ∧ ((4 ≤ i.val ∨ 1200 ≤ s.rd (Snare.snThr c))) ∧ (s.hasEdges c = false))
    ∧ (∃ (s : State) (c : Fin 64) (i : Fin 8), (s.bit (Snare.snMask c) i = true) ∧ (s.rdN (Snare.snTripped c) = 0) ∧ ((4 ≤ i.val ∨ 1200 ≤ s.rd (Snare.snThr c))) ∧ (s.hasEdges c = true) ∧ ((s.snare c).edge = none))
    ∧ (∃ (s : State) (c : Fin 64) (e : Nat), ((s.snare c).edge = some e) ∧ (s.rd (Snare.snTripped c) ≠ 0))
    ∧ (∃ (s : State) (c : Fin 64), ((s.snare c).rung3 = false))
    ∧ (∃ (s : State) (c : Fin 64) (i : Fin 8) (v : BitVec 16), (s.snareHigh c v.toNat = true) ∧ ((4 ≤ i.val ∨ (s.snare c).mgn.testBit i.val = false)) ∧ ((s.hasEdges c = false ∨ (s.snare c).held.testBit (i.val % 4) = false)))
    ∧ (∃ (s : State) (c : Fin 64) (i : Fin 8) (v : BitVec 16), (s.snareHigh c v.toNat = true) ∧ ((4 ≤ i.val ∨ (s.snare c).mgn.testBit i.val = false)) ∧ (s.hasEdges c = true) ∧ ((s.snare c).held.testBit (i.val % 4) = true))
    ∧ (∃ (s : State) (c : Fin 64) (v : BitVec 16), (s.snareHigh c v.toNat = false))
    ∧ (∃ (s : State) (c : Fin 64), ((s.snare c).rung3 = true) ∧ ((s.snare c).lastAt + 800 ≤ s.hclk))
    ∧ (∃ (s : State) (c : Fin 64) (b : Word64), (s.burstDue c = true) ∧ (s.beat = b.toNat + 1) ∧ (s.rdN (Snare.snBurstThr c) < (s.snare c).beatEdges))
    ∧ (∃ (s : State) (c : Fin 64) (b : Word64), (s.burstDue c = true) ∧ (s.beat = b.toNat + 1) ∧ ((s.snare c).beatEdges ≤ s.rdN (Snare.snBurstThr c)) ∧ ((s.snare c).runBeats ≠ 0))
    ∧ (∃ (s : State), (s.hostUp = true)) :=
  ⟨⟨st [(Cd.cdState 63, 3), (Snare.snMask 63, 0x80), (Snare.snThr 63, 1199), (Snare.snTripped 63, 0)], 63, 7, by decide +kernel⟩,
    ⟨st [(Cd.cdState 0, 0), (Snare.snMask 0, 1), (Snare.snThr 0, 1200), (Snare.snTripped 0, 0)], 0, 0, by decide +kernel⟩,
    ⟨{ st [(Snare.snTripped 63, 0x80)] with snares := [(63, { edge := some 5 })] }, 63, 5, by decide +kernel⟩,
    ⟨{}, 63, by decide +kernel⟩,
    ⟨{ st [(Snare.snTripped 63, 0x80)] with snares := [(63, { mgn := 8 })] }, 63, 7, 65535, by decide +kernel⟩,
    ⟨{ st [(Cd.cdState 0, 0), (Snare.snTripped 0, 1)] with snares := [(0, { held := 1 })] }, 0, 0, 65535, by decide +kernel⟩,
    ⟨st [(Snare.snThr 0, 1200), (Upbeat.snHyst, 8)], 0, 1207, by decide +kernel⟩,
    ⟨{ snares := [(63, { rung3 := true })], hclk := 800 }, 63, by decide +kernel⟩,
    ⟨{ st [(Snare.snBurstThr 63, 4)] with beatHclk := 800, snares := [(63, { beatEdges := 5 })] }, 63, 0, by decide +kernel⟩,
    ⟨{ st [(Snare.snBurstThr 63, 4)] with beatHclk := 800, snares := [(63, { beatEdges := 4, runBeats := 1 })] }, 63, 0, by decide +kernel⟩,
    ⟨up ({}), by decide +kernel⟩⟩

/-- The premises of UpbeatCompletes can hold. -/
theorem witness_upbeat_completes :
    (∃ (s : State) (l : Fin 32) (w : Word32) (g : Byte), (s.rd Upbeat.ubEn ≠ 0) ∧ (s.rd (Lane.laneEn l) ≠ 0) ∧ (3 < g.toNat) ∧ (parityOdd 32 w.toNat = false) ∧ (getField w.toNat 2 8 = 0) ∧ (s.rdN (Lane.qmap l (getField w.toNat 28 4)) ≠ 0xFFFF) ∧ (w.toNat.testBit 1 = false))
    ∧ (∃ (s : State) (l : Fin 32) (w : Word32) (g : Byte), (s.rd Upbeat.ubEn ≠ 0) ∧ (s.rd (Lane.laneEn l) ≠ 0) ∧ (3 < g.toNat) ∧ (parityOdd 32 w.toNat = false) ∧ (getField w.toNat 2 8 = 0) ∧ (s.rdN (Lane.qmap l (getField w.toNat 28 4)) ≠ 0xFFFF) ∧ (w.toNat.testBit 1 = false) ∧ (s.upbeat.anns = []) ∧ (s.upbeat.early = []))
    ∧ (∃ (s : State) (l : Fin 32) (w : Word32) (g : Byte), (s.rd Upbeat.ubEn ≠ 0) ∧ (s.rd (Lane.laneEn l) ≠ 0) ∧ (3 < g.toNat) ∧ (parityOdd 32 w.toNat = false) ∧ ((getField w.toNat 2 8 ≠ 0 ∨ s.rdN (Lane.qmap l (getField w.toNat 28 4)) = 0xFFFF)))
    ∧ (∃ (s : State) (l : Fin 32) (g : Byte), (s.rd Upbeat.ubEn ≠ 0) ∧ (s.rd (Lane.laneEn l) ≠ 0) ∧ (g.toNat ≤ 3))
    ∧ (∃ (s : State) (l : Fin 32) (w : Word32) (g : Byte), (s.rd Upbeat.ubEn ≠ 0) ∧ (s.rd (Lane.laneEn l) ≠ 0) ∧ (3 < g.toNat) ∧ (parityOdd 32 w.toNat = true))
    ∧ (∃ (s : State) (l : Fin 32) (w : Word32) (g : Byte), (s.rd Upbeat.ubEn ≠ 0) ∧ (s.rd (Lane.laneEn l) ≠ 0) ∧ (3 < g.toNat) ∧ (parityOdd 32 w.toNat = false) ∧ (getField w.toNat 2 8 = 0) ∧ (s.rdN (Lane.qmap l (getField w.toNat 28 4)) ≠ 0xFFFF) ∧ (w.toNat.testBit 1 = true))
    ∧ (∃ (s : State) (q : Fin 512) (a : Ann) (e : Nat), (s.upbeat.anns = [a]) ∧ (a.q = q.val) ∧ (a.cmdEdge = some e) ∧ (a.retracted = false) ∧ (a.lead ≤ e + 32) ∧ (e ≤ a.lead + 32))
    ∧ (∃ (s : State) (q : Fin 512) (a : Ann) (e : Nat), (s.upbeat.anns = [a]) ∧ (a.q = q.val) ∧ (a.cmdEdge = some e) ∧ (a.retracted = false) ∧ (e + 32 < a.lead))
    ∧ (∃ (s : State) (q : Fin 512) (a : Ann) (e : Nat), (s.upbeat.anns = [a]) ∧ (a.q = q.val) ∧ (a.cmdEdge = some e) ∧ (a.retracted = false) ∧ (a.lead + 32 < e))
    ∧ (∃ (s : State) (q : Fin 512) (a : Ann) (e : Nat), (s.upbeat.anns = [a]) ∧ (a.q = q.val) ∧ (a.retracted = false) ∧ (a.cmdEdge = some e) ∧ (s.pending = []) ∧ (5 * a.wend8 + 32 * s.rd (UbRail.retractNs (s.rdN (Lane.laneRail a.lane))) ≤ 5 * ((8 * s.hclk : Nat) : Int)))
    ∧ (∃ (s : State) (q : Fin 512) (a : Ann), (s.upbeat.anns = [a]) ∧ (a.q = q.val) ∧ (a.retracted = false) ∧ (a.cmdEdge = none) ∧ (5 * a.wend8 + 32 * s.rd (UbRail.retractNs (s.rdN (Lane.laneRail a.lane))) ≤ 5 * ((8 * s.hclk : Nat) : Int)))
    ∧ (∃ (s : State) (n : Fin 8) (p : Pulse), (s.upbeat.pulses = [p]) ∧ (s.duePulse n = some p) ∧ ((s.rail n).ovClamp = false) ∧ ((s.rail n).inhibit = true))
    ∧ (∃ (s : State) (n : Fin 8) (p : Pulse) (ph : Nat), (s.upbeat.pulses = [p]) ∧ (s.duePulse n = some p) ∧ ((s.rail n).ovClamp = false) ∧ ((s.rail n).inhibit = false) ∧ ((s.rail n).trigger = false) ∧ (s.fireSpaced n = true) ∧ ((s.nextPhase n).2 = some ph))
    ∧ (∃ (s : State) (q : Fin 512), (s.pendingAnn q = none) ∧ (s.queueIdle q = true))
    ∧ (∃ (s : State) (q : Fin 512), (s.pendingAnn q = none) ∧ ((∀ l ∈ List.range 32, ∀ k ∈ List.range 16, s.rdN (Lane.qmap l k) ≠ q.val)))
    ∧ (∃ (s : State), (s.hostUp = true))
    ∧ (∃ (s : State) (l : Fin 32) (a : Ann), (s.upbeat.anns = [a]) ∧ (a.lane = l.val) ∧ (a.cmdEdge = none) ∧ (a.retracted = false) ∧ (s.hostUp = true)) :=
  ⟨⟨st [(Upbeat.ubEn, 1), (Lane.laneEn 31, 1), (Lane.qmap 31 0, 0)], 31, 0, 4, by decide +kernel⟩,
    ⟨st [(Upbeat.ubEn, 1), (Lane.laneEn 31, 1), (Lane.qmap 31 0, 0)], 31, 0, 4, by decide +kernel⟩,
    ⟨st [(Upbeat.ubEn, 1), (Lane.laneEn 31, 1), (Lane.qmap 31 0, 0)], 31, 0xC, 4, by decide +kernel⟩,
    ⟨st [(Upbeat.ubEn, 1), (Lane.laneEn 31, 1)], 31, 3, by decide +kernel⟩,
    ⟨st [(Upbeat.ubEn, 1), (Lane.laneEn 31, 1)], 31, 1, 4, by decide +kernel⟩,
    ⟨st [(Upbeat.ubEn, 1), (Lane.laneEn 31, 1), (Lane.qmap 31 0, 0)], 31, 3, 4, by decide +kernel⟩,
    ⟨{ upbeat := { anns := [⟨0, 511, 31, 0, 0, 40, 0, some 8, 0, false⟩] } }, 511, ⟨0, 511, 31, 0, 0, 40, 0, some 8, 0, false⟩, 8, by decide +kernel⟩,
    ⟨{ upbeat := { anns := [⟨0, 511, 31, 0, 0, 41, 0, some 8, 0, false⟩] } }, 511, ⟨0, 511, 31, 0, 0, 41, 0, some 8, 0, false⟩, 8, by decide +kernel⟩,
    ⟨{ upbeat := { anns := [⟨0, 511, 31, 0, 0, 40, 0, some 73, 0, false⟩] } }, 511, ⟨0, 511, 31, 0, 0, 40, 0, some 73, 0, false⟩, 73, by decide +kernel⟩,
    ⟨{ st [(Lane.laneRail 31, 7), (UbRail.retractNs 7, 0)] with upbeat := { anns := [⟨0, 511, 31, 0, 0, 40, 8, some 9, 0, false⟩] }, hclk := 1 }, 511, ⟨0, 511, 31, 0, 0, 40, 8, some 9, 0, false⟩, 9, by decide +kernel⟩,
    ⟨{ st [(Lane.laneRail 31, 7), (UbRail.retractNs 7, 0)] with upbeat := { anns := [⟨0, 511, 31, 0, 0, 40, 8, none, 0, false⟩] }, hclk := 1 }, 511, ⟨0, 511, 31, 0, 0, 40, 8, none, 0, false⟩, by decide +kernel⟩,
    ⟨{ upbeat := { pulses := [⟨0, 7, 511, 31, 0, 0, 16, false⟩] }, rails := [(7, { inhibit := true })] }, 7, ⟨0, 7, 511, 31, 0, 0, 16, false⟩, by decide +kernel⟩,
    ⟨{ st [(Ph.phState 31, 2)] with upbeat := { pulses := [⟨0, 0, 511, 31, 0, 0, 16, false⟩] }, rails := [(0, { count := 1 })] }, 0, ⟨0, 0, 511, 31, 0, 0, 16, false⟩, 31, by decide +kernel⟩,
    ⟨{ st [(Lane.qmap 31 15, 511), (Upbeat.precIdle, 1)] with hclk := 800 }, 511, by decide +kernel⟩,
    ⟨st ((List.range 32).flatMap (fun l => (List.range 16).map (fun k => (Lane.qmap l k, 0xFFFF)))), 511, by decide +kernel⟩,
    ⟨up ({}), by decide +kernel⟩,
    ⟨up ({ upbeat := { anns := [⟨0, 511, 31, 0, 0, 40, 8, none, 0, false⟩] } }), 31, ⟨0, 511, 31, 0, 0, 40, 8, none, 0, false⟩, by decide +kernel⟩⟩

/-- The premises of GatesComplete can hold. -/
theorem witness_gates_complete :
    (∃ (s : State) (c : Fin 64), (s.rd (Cd.cdState c) = 0) ∧ (s.stopHeld c = false) ∧ (s.cdIso c = false) ∧ (s.hostUp = true))
    ∧ (∃ (s : State) (c : Fin 64), (s.rd (Cd.cdState c) = 3) ∧ (s.hostUp = true))
    ∧ (∃ (s : State) (c : Fin 64), (s.rd (Cd.cdState c) = 3) ∧ ((s.dcu c).fp1Gate = false) ∧ ((s.dcu c).startGate = false) ∧ ((s.dcu c).force = 0) ∧ ((s.dcu c).waiting = none) ∧ (s.rd (Cd.dcoLock c) = 1) ∧ (s.rd (Cd.needsReset c) = 0) ∧ (s.cdIso c = false) ∧ (s.fTableComes c = false) ∧ (s.hostUp = true))
    ∧ (∃ (s : State) (c : Fin 64), (s.rd (Cd.cdState c) = 0) ∧ (s.stopHeld c = false) ∧ (s.cdIso c = false))
    ∧ (∃ (s : State) (c : Fin 64), (s.rd (Cd.cdState c) = 2) ∧ ((s.dcu c).drvGate = true) ∧ ((s.dcu c).startGate = false) ∧ ((s.dcu c).force = 0))
    ∧ (∃ (s : State) (c : Fin 64), (s.rd (Cd.cdState c) = 2) ∧ ((s.dcu c).force = 0) ∧ ((s.dcu c).waiting = none))
    ∧ (∃ (s : State) (c : Fin 64), (s.rd (Cd.cdState c) = 2) ∧ ((s.dcu c).gateAt + 3200 ≤ s.hclk) ∧ (s.stopHeld c = false) ∧ ((s.dcu c).force = 0) ∧ ((s.dcu c).startGate = false) ∧ ((s.dcu c).waiting = none) ∧ ((s.dcu c).domRst = false) ∧ ((∀ i ∈ s.pending, i ≠ .gateAck c)))
    ∧ (∃ (s : State) (c : Fin 64), (s.rd (Cd.cdState c) = 2) ∧ ((s.dcu c).gateAt + 3200 ≤ s.hclk) ∧ ((s.dcu c).force ≠ 0) ∧ ((∀ i ∈ s.pending, i ≠ .gateAck c)))
    ∧ (∃ (s : State) (c : Fin 64), (s.rd (Cd.cdState c) = 2) ∧ ((s.dcu c).gateAt + 3200 ≤ s.hclk) ∧ (s.stopHeld c = false) ∧ ((s.dcu c).force = 0) ∧ ((s.dcu c).waiting = none))
    ∧ (∃ (s : State) (c : Fin 64), (s.rd (Cd.cdState c) = 5) ∧ ((s.dcu c).domRst = true) ∧ ((s.dcu c).resetAt + 256 ≤ s.hclk) ∧ ((s.dcu c).gateWanted = false) ∧ ((s.dcu c).force = 0) ∧ ((s.dcu c).waiting = none)) :=
  ⟨⟨up (st [(Cd.cdState 63, 0)]), 63, by decide +kernel⟩,
    ⟨up (st [(Cd.cdState 63, 3)]), 63, by decide +kernel⟩,
    ⟨up ({ st [(Cd.cdState 63, 3), (Cd.needsReset 63, 0), (Cd.dcoLock 63, 1)] with dcus := [(63, { drvGate := true, startGate := false })] }), 63, by decide +kernel⟩,
    ⟨st [(Cd.cdState 63, 0)], 63, by decide +kernel⟩,
    ⟨{ st [(Cd.cdState 63, 2)] with dcus := [(63, { drvGate := true, fp1Gate := true, startGate := false })] }, 63, by decide +kernel⟩,
    ⟨{ st [(Cd.cdState 63, 2)] with dcus := [(63, { gateReq := true })] }, 63, by decide +kernel⟩,
    ⟨{ st [(Cd.cdState 63, 2)] with dcus := [(63, { gateReq := true, drvGate := true, startGate := false })], hclk := 3200 }, 63, by decide +kernel⟩,
    ⟨{ st [(Cd.cdState 63, 2)] with dcus := [(63, { gateReq := true, force := 1 })], hclk := 3200 }, 63, by decide +kernel⟩,
    ⟨{ st [(Cd.cdState 63, 2)] with dcus := [(63, { gateReq := true, drvGate := true, startGate := false })], hclk := 3200 }, 63, by decide +kernel⟩,
    ⟨{ st [(Cd.cdState 63, 5)] with dcus := [(63, { domRst := true, startGate := false })], hclk := 256 }, 63, by decide +kernel⟩⟩

/-- The premises of FrequencyAndSourcesComplete can hold. -/
theorem witness_frequency_and_sources_complete :
    (∃ (s : State) (c : Fin 64) (v : BitVec 16), (s.rd (Cd.cdState c) = 3) ∧ (s.cdIso c = false) ∧ (50 ≤ v.toNat) ∧ (v.toNat ≤ 4000) ∧ (s.hostUp = true))
    ∧ (∃ (s : State) (c : Fin 64), (s.rd (Cd.cdState c) ≠ 3) ∧ (s.hostUp = true))
    ∧ (∃ (s : State) (c : Fin 64), (s.start.dcusUp = true) ∧ (s.dcoDriven c = false))
    ∧ (∃ (s : State) (c : Fin 64), (s.start.dcusUp = true) ∧ (s.dcoDriven c = false) ∧ (s.rd (Cd.cdState c) = 3) ∧ (s.cdIso c = false) ∧ ((s.dcu c).waiting = none) ∧ ((s.dcu c).gateWanted = false) ∧ ((s.dcu c).force = 0) ∧ (s.rd (Cd.needsReset c) = 0) ∧ (s.fTableComes c = false))
    ∧ (∃ (s : State) (c : Fin 64), (s.rd (Cd.cdState c) = 0) ∧ (s.cdIso c = false) ∧ (s.gateComes c = false) ∧ ((s.dcu c).switchDead = none) ∧ (s.hostUp = true))
    ∧ (∃ (s : State) (v : Byte), (2 < v.toNat) ∧ (s.hostUp = true))
    ∧ (∃ (s : State), (s.hostUp = true))
    ∧ (∃ (s : State) (c : Fin 64) (d : Nat), (s.rd (Cd.cdState c) = 1) ∧ ((s.dcu c).domRst = false) ∧ ((s.dcu c).switchTo = some d) ∧ ((s.dcu c).gateWanted = false) ∧ ((s.dcu c).force = 0) ∧ ((s.dcu c).waiting = none))
    ∧ (∃ (s : State) (c : Fin 64), (s.rd (Cd.cdState c) = 0) ∧ ((s.dcu c).switchDead = none))
    ∧ (∃ (s : State), (s.clk.xclkLive = true) ∧ (s.rd Clk.refSrc = 2))
    ∧ (∃ (s : State), (s.clk.xclkLive = true) ∧ (s.rd Clk.refSrc = 1))
    ∧ (∃ (s : State), (s.clk.xclkLive = false) ∧ (s.clk.xclkOk = true) ∧ (s.clk.xclkLostAt + 800000 ≤ s.hclk) ∧ (s.rd Clk.refSrc = 0)) :=
  ⟨⟨up (st [(Cd.cdState 63, 3)]), 63, 4000, by decide +kernel⟩,
    ⟨up (st [(Cd.cdState 63, 0)]), 63, by decide +kernel⟩,
    ⟨{ start := { dcusUp := true } }, 63, by decide +kernel⟩,
    ⟨{ st [(Cd.cdState 63, 3), (Cd.needsReset 63, 0)] with start := { dcusUp := true }, dcus := [(63, { gateReq := true, startGate := false })] }, 63, by decide +kernel⟩,
    ⟨up (st [(Cd.cdState 63, 0)]), 63, by decide +kernel⟩,
    ⟨up ({}), 3, by decide +kernel⟩,
    ⟨up ({}), by decide +kernel⟩,
    ⟨{ st [(Cd.cdState 63, 1)] with dcus := [(63, { switchTo := some 2, startGate := false })] }, 63, 2, by decide +kernel⟩,
    ⟨st [(Cd.cdState 63, 0)], 63, by decide +kernel⟩,
    ⟨{ st [(Clk.refSrc, 2)] with clk := { xclkLive := true } }, by decide +kernel⟩,
    ⟨{ st [(Clk.refSrc, 1)] with clk := { xclkLive := true } }, by decide +kernel⟩,
    ⟨{ st [(Clk.refSrc, 0)] with clk := { xclkOk := true }, hclk := 800000 }, by decide +kernel⟩⟩

/-- The premises of PowerDomainSequencesComplete can hold. -/
theorem witness_power_domain_sequences_complete :
    (∃ (s : State) (d : Fin 96), (s.rd (Pd.pdState d) = 0) ∧ ((s.pd d).want = true) ∧ ((s.pd d).psw = 0) ∧ (s.regulating (s.rdN (Pd.pdRail d)) = true) ∧ (s.rung1 = false) ∧ (s.gong.line = false) ∧ (s.clk.lastEnable = []) ∧ ((s.sat (satPd d)).isolated = false) ∧ (s.lowerDue d = false))
    ∧ (∃ (s : State) (d : Fin 96), (s.rd (Pd.pdState d) = 1) ∧ ((s.pd d).step = 7))
    ∧ (∃ (s : State) (d : Fin 96) (a : BitVec 4), (s.rd (Pd.pdState d) = 3) ∧ ((s.pd d).step = 2) ∧ ((s.pd d).psw = 0) ∧ (a = 0))
    ∧ (∃ (s : State) (d : Fin 96), (s.rd (Pd.pdState d) = 3) ∧ ((s.pd d).startedAt + 16000 ≤ s.hclk))
    ∧ (∃ (s : State) (d : Fin 96) (a : BitVec 4), (s.rd (Pd.pdState d) = 2) ∧ (a ≠ 15))
    ∧ (∃ (s : State) (d : Fin 96), (s.rd (Pd.pdState d) = 4) ∧ (s.hostUp = true))
    ∧ (∃ (s : State) (d : Fin 96) (a : BitVec 4), ((s.rd (Pd.pdState d) ≠ 4 ∨ a ≠ 0)) ∧ (s.hostUp = true)) :=
  ⟨⟨{ st [(Rail.railState 7, 3), (Pd.pdState 95, 0), (Pd.pdRail 95, 7)] with pds := [(95, { want := true })] }, 95, by decide +kernel⟩,
    ⟨{ st [(Pd.pdState 95, 1)] with pds := [(95, { step := 7 })] }, 95, by decide +kernel⟩,
    ⟨{ st [(Pd.pdState 95, 3)] with pds := [(95, { step := 2 })] }, 95, 0, by decide +kernel⟩,
    ⟨{ st [(Pd.pdState 95, 3)] with hclk := 16000 }, 95, by decide +kernel⟩,
    ⟨st [(Pd.pdState 95, 2)], 95, 14, by decide +kernel⟩,
    ⟨up (st [(Pd.pdState 95, 4)]), 95, by decide +kernel⟩,
    ⟨up (st [(Pd.pdState 95, 4)]), 95, 1, by decide +kernel⟩⟩

/-- The premises of SensorsAndKettleComplete can hold. -/
theorem witness_sensors_and_kettle_complete :
    (∃ (s : State) (i : HkIn), (s.hkDue = true) ∧ (s.rd (Ch.chKind s.hkChan) = 2) ∧ (s.rd (Ch.chStatus s.hkChan) = 0) ∧ (s.hkFault s.hkChan i = false))
    ∧ (∃ (s : State) (i : HkIn), (s.hkDue = true) ∧ (s.rd (Ch.chKind s.hkChan) = 1) ∧ (s.hkFault s.hkChan i = true))
    ∧ (∃ (s : State), (s.roundDue = true) ∧ (s.readingComes = false) ∧ (s.rd Gong.gongState = 0))
    ∧ (∃ (s : State), (s.kettleDue = true))
    ∧ (∃ (s : State) (d : Nat), (s.hk.correctDue = some d) ∧ (s.hk.convAt ≠ some s.hclk) ∧ (s.rd (Ch.chStatus d) = 0))
    ∧ (∃ (s : State) (d : Nat), (s.hk.correctDue = some d) ∧ (s.hk.convAt ≠ some s.hclk) ∧ (s.rd (Ch.chStatus d) ≠ 0))
    ∧ (∃ (s : State), (s.rd Kettle.bhState = 0))
    ∧ (∃ (s : State), (s.rd Kettle.bhState = 1)) :=
  ⟨⟨{ st [(Ch.chKind 127, 2), (Ch.chStatus 127, 0)] with hk := { running := true }, hclk := 204800 }, ⟨1, 36000, 600000, 500000⟩, by decide +kernel⟩,
    ⟨{ st [(Ch.chKind 0, 1), (Ch.chStatus 0, 0)] with hk := { running := true }, hclk := 1600 }, ⟨1, 36000, 600000, 1000001⟩, by decide +kernel⟩,
    ⟨{ hk := { running := true, converted := true }, hclk := 204800 }, by decide +kernel⟩,
    ⟨{ hk := { running := true }, hclk := 1600 }, by decide +kernel⟩,
    ⟨{ st [(Ch.chStatus 31, 0)] with hk := { correctDue := some 31 } }, 31, by decide +kernel⟩,
    ⟨{ st [(Ch.chStatus 31, 3)] with hk := { correctDue := some 31 } }, 31, by decide +kernel⟩,
    ⟨{}, by decide +kernel⟩,
    ⟨st [(Kettle.bhState, 1)], by decide +kernel⟩⟩

/-- The premises of GongCompletes can hold. -/
theorem witness_gong_completes :
    (∃ (s : State), (s.rd Gong.gongState = 1) ∧ (s.railsOffComes = false) ∧ (s.gong.tripAt + 800000 * s.gong.orderly ≤ s.hclk))
    ∧ (∃ (s : State), (s.rd Gong.gongState = 1) ∧ (s.hostUp = true))
    ∧ (∃ (s : State), (s.rd Gong.gongState ≠ 1) ∧ (s.hostUp = true))
    ∧ (∃ (s : State) (x : Nat), (s.gong.x = some x) ∧ (s.gong.offDone = false) ∧ (x + 16000 ≤ s.hclk))
    ∧ (∃ (s : State), (s.rd Gong.gongState = 3) ∧ (s.rd Gong.restartMode = 0) ∧ ((s.roundDue && s.dieAbove) = false) ∧ (s.hostUp = true))
    ∧ (∃ (s : State), ((s.rd Gong.gongState ≠ 3 ∨ s.rd Gong.restartMode = 1)) ∧ (s.hostUp = true)) :=
  ⟨⟨{ st [(Gong.gongState, 1)] with gong := { orderly := 1 }, hclk := 800000 }, by decide +kernel⟩,
    ⟨up (st [(Gong.gongState, 1)]), by decide +kernel⟩,
    ⟨up (st [(Gong.gongState, 3)]), by decide +kernel⟩,
    ⟨{ st [(Gong.gongState, 2), (Rail.railState 7, 3), (Rail.railState 0, 4)] with gong := { x := some 5, offDone := false }, hclk := 16005 }, 5, by decide +kernel⟩,
    ⟨up ({ st [(Gong.gongState, 3), (Gong.restartMode, 0), (Gong.railsAtTrip, 255), (Start.startState, 5)] with gong := { line := true, outN := false } }), by decide +kernel⟩,
    ⟨up (st [(Gong.gongState, 2), (Gong.restartMode, 0)]), by decide +kernel⟩⟩

/-- The premises of CommandEnergyAndReconciliationComplete can hold. -/
theorem witness_command_energy_and_reconciliation_complete :
    (∃ (s : State), (s.start.hubUp = true) ∧ (s.beatHclk % 800000 = 0) ∧ (s.energy.recAt < s.hclk))
    ∧ (∃ (s : State), (s.energy.recDue = true) ∧ (s.energy.recAt + 1600 ≤ s.hclk) ∧ (s.energy.recCut = []))
    ∧ (∃ (s : State), (s.rd EnTel.eSnap ≠ 1) ∧ (s.hostUp = true))
    ∧ (∃ (s : State), (s.rd EnTel.eSnap = 1) ∧ (s.hostUp = true))
    ∧ (∃ (s : State) (b : Nat), (s.energy.snapAt = some b) ∧ (b ≤ s.beatHclk)) :=
  ⟨⟨{ beatHclk := 800000, hclk := 1, start := { hubUp := true } }, by decide +kernel⟩,
    ⟨{ energy := { recDue := true, recAt := 5 }, hclk := 1605 }, by decide +kernel⟩,
    ⟨up ({ beatHclk := 736 }), by decide +kernel⟩,
    ⟨up (st [(EnTel.eSnap, 1)]), by decide +kernel⟩,
    ⟨{ energy := { snapAt := some 800 }, beatHclk := 800 }, 800, by decide +kernel⟩⟩

/-- The premises of TelemetryWindowsComplete can hold. -/
theorem witness_telemetry_windows_complete :
    (∃ (s : State) (w : Fin 15), (s.rd (Win.winEn w) = 0) ∧ (s.winRefused w = false) ∧ (s.hostUp = true))
    ∧ (∃ (s : State) (w : Fin 15), (s.rd (Win.winEn w) = 0) ∧ (s.winRefused w = true) ∧ (s.hostUp = true))
    ∧ (∃ (s : State) (w : Fin 15), ((s.win w).issue.isNone = true) ∧ (s.hostUp = true))
    ∧ (∃ (s : State) (w : Fin 15), ((s.win w).issue.isSome = true) ∧ (s.hostUp = true))
    ∧ (∃ (s : State) (w : Fin 15), (s.instantDue w = true) ∧ (s.winSilent w = false) ∧ ((s.win w).waiting = none))
    ∧ (∃ (s : State) (w : Fin 15) (r : TelRec), (s.instantDue w = true) ∧ (s.winSilent w = false) ∧ ((s.win w).waiting = some r))
    ∧ (∃ (s : State) (w : Fin 15), (s.instantDue w = true) ∧ (s.winSilent w = true))
    ∧ (∃ (s : State) (w : Fin 15), (s.rd (Win.winEn w) = 1) ∧ ((s.win w).items ≠ []) ∧ (((s.win w).firstBeat : Int) + s.rd (Win.winFlush w) ≤ s.beat) ∧ (s.winOffComes w = false) ∧ (s.winSilent w = false) ∧ ((s.win w).waiting = none))
    ∧ (∃ (s : State) (w : Fin 15), (s.rd (Win.winEn w) = 1) ∧ ((s.win w).items ≠ []) ∧ (((s.win w).firstBeat : Int) + s.rd (Win.winFlush w) ≤ s.beat) ∧ (s.winOffComes w = false) ∧ (s.winSilent w = true))
    ∧ (∃ (s : State) (w : Fin 15), (s.winReady w = true) ∧ (s.winFirst w = true) ∧ (s.canPay 0 = true) ∧ (s.tel.port = []))
    ∧ (∃ (s : State) (e : TipWrite) (tag : BitVec 5), (s.tipOf tag.toNat = some e) ∧ (e.row ≠ 4) ∧ (putBit (s.win e.win).rows e.row false ≠ 0))
    ∧ (∃ (s : State) (e : TipWrite) (tag : BitVec 5), (s.tipOf tag.toNat = some e) ∧ (e.row ≠ 4) ∧ (putBit (s.win e.win).rows e.row false = 0) ∧ ((s.win e.win).failed = false))
    ∧ (∃ (s : State) (e : TipWrite) (tag : BitVec 5), (s.tipOf tag.toNat = some e) ∧ (e.row = 4))
    ∧ (∃ (s : State) (e : TipWrite) (tag : BitVec 5), (s.tipOf tag.toNat = some e) ∧ ((s.win e.win).failed = false))
    ∧ (∃ (s : State) (e : TipWrite) (tag : BitVec 5), (s.tipOf tag.toNat = some e) ∧ ((s.win e.win).failed = true))
    ∧ (∃ (s : State) (w : Nat) (row : Nat) (r : List (Nat × Nat)), (s.tel.port = (w, row) :: r) ∧ (s.tel.granted = true) ∧ (s.tel.out.length < 32) ∧ (s.hostUp = true))
    ∧ (∃ (s : State) (w : Nat) (row : Nat) (r : List (Nat × Nat)), (s.tel.port = (w, row) :: r) ∧ (s.tel.granted = false)) :=
  ⟨⟨up (st [(Win.winEn 14, 0), (Win.winBase 14, 0x1000), (Win.winSlots 14, 4), (Win.winCtr 14, 8), (Win.winKind 14, 1), (Win.list 14 0, 0x00010000)]), 14, by decide +kernel⟩,
    ⟨up (st [(Win.winEn 14, 0), (Win.winBase 14, 0x1001)]), 14, by decide +kernel⟩,
    ⟨up ({}), 14, by decide +kernel⟩,
    ⟨up ({ tel := { wins := [(14, { issue := some ⟨1, 2, 3, 4, [], 0, false, false, false⟩ })] } }), 14, by decide +kernel⟩,
    ⟨{ st [(Win.winEn 14, 1), (Win.winKind 14, 1), (Win.winPeriod 14, 10)] with start := { released := true } }, 14, by decide +kernel⟩,
    ⟨{ st [(Win.winEn 14, 1), (Win.winKind 14, 1), (Win.winPeriod 14, 10)] with start := { released := true }, tel := { wins := [(14, { waiting := some ⟨1, 2, 3, 4, [], 0, false, false, false⟩ })] } }, 14, ⟨1, 2, 3, 4, [], 0, false, false, false⟩, by decide +kernel⟩,
    ⟨st [(Win.winEn 14, 1), (Win.winKind 14, 1), (Win.winPeriod 14, 10)], 14, by decide +kernel⟩,
    ⟨{ st [(Win.winEn 14, 1), (Win.winFlush 14, 10)] with beatHclk := 8000, start := { released := true }, tel := { wins := [(14, { items := [[1, 2]] })] } }, 14, by decide +kernel⟩,
    ⟨{ st [(Win.winEn 14, 1), (Win.winFlush 14, 10)] with beatHclk := 8000, tel := { wins := [(14, { items := [[1, 2]] })] } }, 14, by decide +kernel⟩,
    ⟨{ st [(Win.winEn 14, 1), (EnTel.sharedMode, 0)] with start := { released := true, hubUp := true }, tel := { bucket := 3300000, wins := [(14, { waiting := some ⟨1, 2, 3, 4, [], 0, false, false, false⟩ })] } }, 14, by decide +kernel⟩,
    ⟨{ tel := { out := [⟨14, 3, 31⟩], wins := [(14, { rows := 15, issue := some ⟨1, 2, 3, 4, [], 0, false, false, false⟩ })] } }, ⟨14, 3, 31⟩, 31, by decide +kernel⟩,
    ⟨{ tel := { out := [⟨14, 3, 31⟩], wins := [(14, { rows := 8, issue := some ⟨1, 2, 3, 4, [], 0, false, false, false⟩ })] } }, ⟨14, 3, 31⟩, 31, by decide +kernel⟩,
    ⟨{ st [(Win.winEn 14, 2)] with tel := { out := [⟨14, 4, 0⟩], wins := [(14, { rows := 16, issue := some ⟨1, 2, 3, 4, [], 0, false, false, false⟩ })] } }, ⟨14, 4, 0⟩, 0, by decide +kernel⟩,
    ⟨{ tel := { out := [⟨14, 3, 31⟩], wins := [(14, { rows := 15, issue := some ⟨1, 2, 3, 4, [], 0, false, false, false⟩ })] } }, ⟨14, 3, 31⟩, 31, by decide +kernel⟩,
    ⟨{ tel := { out := [⟨14, 3, 31⟩], wins := [(14, { rows := 8, failed := true, issue := some ⟨1, 2, 3, 4, [], 0, false, false, false⟩ })] } }, ⟨14, 3, 31⟩, 31, by decide +kernel⟩,
    ⟨{ start := { hubUp := true }, tel := { port := [(14, 3)], granted := true, out := List.replicate 31 ⟨1, 2, 3⟩ } }, 14, 3, [], by decide +kernel⟩,
    ⟨{ tel := { port := [(14, 4)], bucket := 100000 } }, 14, 4, [], by decide +kernel⟩⟩

/-- The premises of BudgetAndLearnerComplete can hold. -/
theorem witness_budget_and_learner_complete :
    (∃ (s : State), (s.fpRuns 1 = true) ∧ (s.beat % s.rdN Budget.budgetPeriod = 0) ∧ (s.budget.lastPeriod ≠ some s.beat))
    ∧ (∃ (s : State) (b : Nat), (s.fpRuns 1 = true) ∧ (s.rd Budget.capState = 1) ∧ (s.budget.fw.overSince = some b) ∧ (s.budget.fw.isOver = true) ∧ (b + 800 * s.rdN Budget.capTimer ≤ s.hclk))
    ∧ (∃ (s : State) (b : Nat), (s.fpRuns 1 = true) ∧ (s.rd Budget.capState = 2) ∧ (s.budget.fw.underSince = some b) ∧ (b + 800 * s.rdN Budget.capTimer ≤ s.hclk))
    ∧ (∃ (s : State) (n : Fin 8), (s.floorDue n = true) ∧ (0 < tabGet (fun _ => 0) s.budget.pow (40 + n)) ∧ (s.rd (Budget.hwCapRail n) * tabGet (fun _ => 0) s.budget.pow (40 + n) < tabGet (fun _ => 0) s.budget.pow (32 + n)) ∧ (s.rd (Budget.hwCapRail n) ≠ 0xFFFFFFFF) ∧ (s.bit Budget.hwAtOp0 n = true) ∧ (s.underRung6 n = true) ∧ (1 < (s.limiter n).ceil))
    ∧ (∃ (s : State) (n : Fin 8), (s.floorDue n = true) ∧ (tabGet (fun _ => 0) s.budget.pow (40 + n) = 0) ∧ (s.rd (Budget.hwCapRail n) < s.rd (Rail.pout n)) ∧ (s.rd (Budget.hwCapRail n) ≠ 0xFFFFFFFF) ∧ (s.bit Budget.hwAtOp0 n = true) ∧ (s.underRung6 n = true) ∧ (1 < (s.limiter n).ceil))
    ∧ (∃ (s : State) (n : Fin 8), (s.floorDue n = true) ∧ (0 < tabGet (fun _ => 0) s.budget.pow (40 + n)) ∧ (100 * tabGet (fun _ => 0) s.budget.pow (32 + n) ≤ 98 * s.rd (Budget.hwCapRail n) * tabGet (fun _ => 0) s.budget.pow (40 + n)) ∧ (0 ≤ s.rd (Budget.hwCapRail n)) ∧ ((s.limiter n).ceil < 16))
    ∧ (∃ (s : State) (n : Fin 8), (s.floorDue n = true) ∧ (0 < tabGet (fun _ => 0) s.budget.pow (40 + n)) ∧ (tabGet (fun _ => 0) s.budget.pow (32 + n) ≤ s.rd (Budget.hwCapRail n) * tabGet (fun _ => 0) s.budget.pow (40 + n)) ∧ (98 * s.rd (Budget.hwCapRail n) * tabGet (fun _ => 0) s.budget.pow (40 + n) < 100 * tabGet (fun _ => 0) s.budget.pow (32 + n)) ∧ (s.bit Budget.hwAtOp0 n = true))
    ∧ (∃ (s : State), (s.fpRuns 0 = true))
    ∧ (∃ (s : State), (s.fpRuns 0 = true) ∧ (s.rd OpTab.ageLast + 86400000000 ≤ s.beat) ∧ ((∀ k, k < 8 → s.rdN (OpTab.ageDerate k) < 2 ^ 64)))
    ∧ (∃ (s : State), (s.fpRuns 1 = true) ∧ (s.hostUp = true)) :=
  ⟨⟨{ st [(Fp.fpState 1, 2), (Budget.budgetPeriod, 1000)] with beatHclk := 800000 }, by decide +kernel⟩,
    ⟨{ st [(Fp.fpState 1, 2), (Budget.capState, 1), (Budget.capTimer, 10)] with hclk := 8000, budget := { fw := { overSince := some 0, isOver := true } } }, 0, by decide +kernel⟩,
    ⟨{ st [(Fp.fpState 1, 2), (Budget.capState, 2), (Budget.capTimer, 10)] with hclk := 8000, budget := { fw := { underSince := some 0 } } }, 0, by decide +kernel⟩,
    ⟨{ st ([(Budget.hwCapRail 7, 5), (Budget.hwAtOp0, 128)] ++ (List.range 64).map (fun c => (Cd.cdRail c, 0))) with budget := { pow := [(39, 11), (47, 2)], limiters := [(7, { ceil := 2 })] } }, 7, by decide +kernel⟩,
    ⟨{ st ([(Budget.hwCapRail 7, 5), (Budget.hwAtOp0, 128), (Rail.pout 7, 6)] ++ (List.range 64).map (fun c => (Cd.cdRail c, 0))) with budget := { limiters := [(7, { ceil := 2 })] } }, 7, by decide +kernel⟩,
    ⟨{ st [(Budget.hwCapRail 7, 50), (Budget.hwAtOp0, 128)] with budget := { pow := [(39, 98), (47, 2)], limiters := [(7, { ceil := 15 })] } }, 7, by decide +kernel⟩,
    ⟨{ st [(Budget.hwCapRail 7, 50), (Budget.hwAtOp0, 128)] with budget := { pow := [(39, 99), (47, 2)], limiters := [(7, { ceil := 15 })] } }, 7, by decide +kernel⟩,
    ⟨st [(Fp.fpState 0, 2)], by decide +kernel⟩,
    ⟨{ st [(Fp.fpState 0, 2)] with beatHclk := 69120000000000 }, by decide +kernel⟩,
    ⟨up (st [(Fp.fpState 1, 2)]), by decide +kernel⟩⟩

/-- The premises of MarkersAndSwitchesComplete can hold. -/
theorem witness_markers_and_switches_complete :
    (∃ (s : State) (k : BitVec 2) (c : BitVec 2), (s.pmReady = true) ∧ (s.rd (Fp.fpState 1) = 2) ∧ (k ≠ 3) ∧ (c ≠ 3))
    ∧ (∃ (s : State) (k : BitVec 2) (c : BitVec 2), (s.pmReady = true) ∧ (s.rd (Fp.fpState 1) ≠ 2) ∧ (k ≠ 3) ∧ (c ≠ 3))
    ∧ (∃ (s : State) (k : BitVec 2) (c : BitVec 2), (s.pmReady = true) ∧ ((k = 3 ∨ c = 3)))
    ∧ (∃ (s : State) (m : Marker) (l : List Marker), (s.budget.markers = m :: l) ∧ (m.kind = 0) ∧ (s.budget.reading = none) ∧ (s.fpRuns 1 = true) ∧ (m.pt < 128))
    ∧ (∃ (s : State) (m : Marker) (l : List Marker) (e : Nat × Instance), (s.budget.markers = m :: l) ∧ (m.kind = 1) ∧ (s.budget.reading = none) ∧ (s.fpRuns 1 = true) ∧ (s.rd (Part.pidNow m.pt) = m.pid) ∧ (m.pt < 128) ∧ (s.budget.fw.insts.find? (fun x => x.1 = m.pt) = some e) ∧ (((m.beat - e.2.beat : Nat) : Int) < s.rd Budget.learnMin ∨ s.bit (Pid.pidFlags e.2.pid) 0 = false ∨ e.2.tainted m = true))
    ∧ (∃ (s : State) (m : Marker) (l : List Marker) (e : Nat × Instance), (s.budget.markers = m :: l) ∧ (m.kind = 1) ∧ (s.budget.reading = none) ∧ (s.fpRuns 1 = true) ∧ (s.rd (Part.pidNow m.pt) = m.pid) ∧ (m.pt < 128) ∧ (s.budget.fw.insts.find? (fun x => x.1 = m.pt) = some e) ∧ (e.2.pid < 256) ∧ (s.rd Budget.learnMin ≤ (m.beat - e.2.beat : Nat)) ∧ (s.bit (Pid.pidFlags e.2.pid) 0 = true) ∧ (e.2.tainted m = false))
    ∧ (∃ (s : State) (m : Marker) (l : List Marker), (s.budget.markers = m :: l) ∧ (m.kind = 1) ∧ (s.budget.reading = none) ∧ (s.fpRuns 1 = true) ∧ (s.rd (Part.pidNow m.pt) = m.pid) ∧ (s.budget.fw.insts.find? (fun x => x.1 = m.pt) = none))
    ∧ (∃ (s : State) (m : Marker) (l : List Marker), (s.budget.markers = m :: l) ∧ (m.kind = 1) ∧ (s.budget.reading = none) ∧ (s.fpRuns 1 = true) ∧ (s.rd (Part.pidNow m.pt) ≠ m.pid))
    ∧ (∃ (s : State) (m : Marker) (l : List Marker), (s.budget.markers = m :: l) ∧ (m.kind = 2) ∧ (s.budget.reading = none) ∧ (s.fpRuns 1 = true))
    ∧ (∃ (s : State) (m : Marker) (row : List Byte), (s.budget.reading = some m) ∧ (s.fpRuns 1 = true) ∧ (rowGood row m = false))
    ∧ (∃ (s : State) (m : Marker) (row : List Byte), (s.budget.reading = some m) ∧ (s.fpRuns 1 = true) ∧ (rowGood row m = true) ∧ (1 ≤ ((leNat ((row.drop 4).take 4) : Int) - s.rd (Part.seqLast m.pt)) % 2 ^ 32) ∧ (((leNat ((row.drop 4).take 4) : Int) - s.rd (Part.seqLast m.pt)) % 2 ^ 32 < 2 ^ 31))
    ∧ (∃ (s : State) (p : Fin 128) (pl : Plan), (s.budget.fw.plans = [pl]) ∧ (pl.pts.contains p.val = true) ∧ (pl.submitted = false) ∧ (s.fpRuns 1 = true) ∧ (pl.beat ≤ s.beat + 20))
    ∧ (∃ (s : State) (p : Fin 128), (s.fpRuns 1 = true) ∧ (s.budget.fw.preloads.any (fun e => e.1 = p.val && decide (e.2.2 ≤ s.beat)) = true)) :=
  ⟨⟨{ st [(Fp.fpState 1, 2)] with start := { hubUp := true } }, 2, 2, by decide +kernel⟩,
    ⟨{ start := { hubUp := true } }, 2, 2, by decide +kernel⟩,
    ⟨{ start := { hubUp := true } }, 3, 2, by decide +kernel⟩,
    ⟨{ st [(Fp.fpState 1, 2)] with budget := { markers := [⟨0, 7, 127, 0, 0, 3, 4, 5, {}⟩] } }, ⟨0, 7, 127, 0, 0, 3, 4, 5, {}⟩, [], by decide +kernel⟩,
    ⟨{ st [(Fp.fpState 1, 2), (Part.pidNow 127, 7), (Budget.learnMin, 3)] with budget := { markers := [⟨1, 7, 127, 0, 0, 3, 4, 5, {}⟩], fw := { insts := [(127, ⟨1, 2, 255, {}⟩)] } } }, ⟨1, 7, 127, 0, 0, 3, 4, 5, {}⟩, [], (127, ⟨1, 2, 255, {}⟩), by decide +kernel⟩,
    ⟨{ st [(Fp.fpState 1, 2), (Part.pidNow 127, 7), (Budget.learnMin, 2), (Pid.pidFlags 255, 1)] with budget := { markers := [⟨1, 7, 127, 0, 0, 3, 4, 5, {}⟩], fw := { insts := [(127, ⟨1, 2, 255, {}⟩)] } } }, ⟨1, 7, 127, 0, 0, 3, 4, 5, {}⟩, [], (127, ⟨1, 2, 255, {}⟩), by decide +kernel⟩,
    ⟨{ st [(Fp.fpState 1, 2), (Part.pidNow 127, 7)] with budget := { markers := [⟨1, 7, 127, 0, 0, 3, 4, 5, {}⟩] } }, ⟨1, 7, 127, 0, 0, 3, 4, 5, {}⟩, [], by decide +kernel⟩,
    ⟨{ st [(Fp.fpState 1, 2), (Part.pidNow 127, 8)] with budget := { markers := [⟨1, 7, 127, 0, 0, 3, 4, 5, {}⟩] } }, ⟨1, 7, 127, 0, 0, 3, 4, 5, {}⟩, [], by decide +kernel⟩,
    ⟨{ st [(Fp.fpState 1, 2)] with budget := { markers := [⟨2, 7, 127, 0, 0, 3, 4, 5, {}⟩] } }, ⟨2, 7, 127, 0, 0, 3, 4, 5, {}⟩, [], by decide +kernel⟩,
    ⟨{ st [(Fp.fpState 1, 2)] with budget := { reading := some ⟨2, 7, 127, 0, 0, 3, 4, 5, {}⟩ } }, ⟨2, 7, 127, 0, 0, 3, 4, 5, {}⟩, [], by decide +kernel⟩,
    ⟨{ st [(Fp.fpState 1, 2), (Part.seqLast 1, 0)] with budget := { reading := some ⟨2, 7, 1, 0, 0, 3, 4, 5, {}⟩ } }, ⟨2, 7, 1, 0, 0, 3, 4, 5, {}⟩, [1, 7, 1, 0, 1, 0, 0, 0, 0, 0, 0, 0, 0, 0, 0, 0, 0, 0, 0, 0, 0, 0, 0, 0, 2, 0, 0, 0, 0, 0, 0, 0, 0, 0, 0, 0, 0, 0, 0, 0, 0, 0, 0, 0, 0, 0, 0, 0, 0, 0, 0, 0, 0, 0, 0, 0, 0, 0, 0, 0, 18, 117, 210, 238], by decide +kernel⟩,
    ⟨{ st [(Fp.fpState 1, 2)] with beatHclk := 8000, budget := { fw := { plans := [⟨[127], 7, 30, 5, false, [], {}⟩] } } }, 127, ⟨[127], 7, 30, 5, false, [], {}⟩, by decide +kernel⟩,
    ⟨{ st [(Fp.fpState 1, 2)] with beatHclk := 8000, budget := { fw := { preloads := [(127, 7, 10)] } } }, 127, by decide +kernel⟩⟩

/-- The premises of LinksAndFramesComplete can hold. -/
theorem witness_links_and_frames_complete :
    (∃ (s : State) (p : Fin 4), (s.rd (Port.linkState p) = 0) ∧ (s.usesPort p = true))
    ∧ (∃ (s : State) (p : Fin 4), (s.rd (Port.linkState p) ≠ 0))
    ∧ (∃ (s : State) (p : Fin 4), (s.rd (Port.linkState p) ≠ 0) ∧ ((s.port p).heardAt + 3277 ≤ s.hclk))
    ∧ (∃ (s : State) (p : Fin 4), (s.rd (Port.linkState p) ≠ 0) ∧ ((s.port p).slotAt + 256 ≤ 5 * s.hclk))
    ∧ (∃ (s : State) (p : Fin 4) (f : BitVec 80), (s.takesFrame p 0 f = true) ∧ (s.rd (Port.linkState p) = 1) ∧ (¬ ((s.port p).idles ≠ 0 ∧ (s.port p).exchanged = true)))
    ∧ (∃ (s : State) (p : Fin 4) (f : BitVec 80), (s.takesFrame p 0 f = true) ∧ (s.rd (Port.linkState p) = 1) ∧ ((s.port p).idles ≠ 0) ∧ ((s.port p).exchanged = true))
    ∧ (∃ (s : State) (p : Fin 4) (f : BitVec 80), (s.takesFrame p 2 f = true))
    ∧ (∃ (s : State) (p : Fin 4) (f : BitVec 80) (x : Nat), (s.takesFrame p 3 f = true) ∧ ((s.port p).dreqs = [(getField (frameBody f.toNat) 40 8, x)]) ∧ (8 * s.hclk < x + 25600))
    ∧ (∃ (s : State) (p : Fin 4), (s.beatHclk % 12800 = 0) ∧ (s.rd (Port.linkState p) ≠ 0) ∧ (s.usesPort p = true) ∧ ((s.port p).dreqAt ≠ some s.hclk))
    ∧ (∃ (s : State) (p : Fin 4) (id : Byte) (x : Nat), ((s.port p).dreqs = [(id.toNat, x)]) ∧ (x + 25600 ≤ 8 * s.hclk))
    ∧ (∃ (s : State), (s.beatHclk % 12800 = 0) ∧ (s.drum.beatAt ≠ some s.hclk))
    ∧ (∃ (s : State) (f : BitVec 80), (s.takesFrame 0 1 f = true) ∧ (s.isRoot = false) ∧ (s.rd Clk.brefState = 2) ∧ (s.brefLossComes = false) ∧ (s.drum.loaded = false) ∧ ((frameBody f.toNat).testBit 47 = true))
    ∧ (∃ (s : State) (f : BitVec 80) (hi : Nat) (x : Nat), (s.takesFrame 0 1 f = true) ∧ (s.isRoot = false) ∧ (s.rd Clk.brefState = 2) ∧ (s.brefLossComes = false) ∧ (s.drum.loaded = false) ∧ ((frameBody f.toNat).testBit 47 = false) ∧ (s.drum.sel1 = some (hi, x)) ∧ (32 ≤ (s.port 0).rtts.length))
    ∧ (∃ (s : State) (p : Fin 4), (s.rd (Port.linkState p) ≠ 0) ∧ (s.usesPort p = true)) :=
  ⟨⟨st [(Port.linkState 3, 0)], 3, by decide +kernel⟩,
    ⟨st [(Port.linkState 0, 2), (Clk.brefState, 2)], 0, by decide +kernel⟩,
    ⟨{ st [(Port.linkState 3, 2)] with hclk := 3277 }, 3, by decide +kernel⟩,
    ⟨{ st [(Port.linkState 3, 2)] with hclk := 100, drum := { ports := [(3, { txSeq := 31, dreqDue := true })] } }, 3, by decide +kernel⟩,
    ⟨st [(Port.linkState 3, 1)], 3, BitVec.ofNat 80 (frameCrc 0), by decide +kernel⟩,
    ⟨{ st [(Port.linkState 3, 1)] with drum := { ports := [(3, { idles := 1, exchanged := true })] } }, 3, BitVec.ofNat 80 (frameCrc 0), by decide +kernel⟩,
    ⟨st [(Port.linkState 3, 1)], 3, BitVec.ofNat 80 (2 ^ 61 + frameCrc (2 ^ 61)), by decide +kernel⟩,
    ⟨{ st [(Port.linkState 3, 1)] with drum := { ports := [(3, { dreqs := [(0, 7)] })] } }, 3, BitVec.ofNat 80 (3 * 2 ^ 60 + frameCrc (3 * 2 ^ 60)), 7, by decide +kernel⟩,
    ⟨{ st [(Port.linkState 3, 1)] with beatHclk := 12800 }, 3, by decide +kernel⟩,
    ⟨{ hclk := 3200, drum := { ports := [(3, { dreqs := [(255, 0)] })] } }, 3, 255, 0, by decide +kernel⟩,
    ⟨{ st [(Port.linkState 3, 1)] with beatHclk := 12800 }, by decide +kernel⟩,
    ⟨st [(Port.linkState 0, 1), (Node.nodeRole, 1), (Clk.brefState, 2)], BitVec.ofNat 80 (2 ^ 60 + 2 ^ 55 + frameCrc (2 ^ 60 + 2 ^ 55)), by decide +kernel⟩,
    ⟨{ st [(Port.linkState 0, 1), (Node.nodeRole, 1), (Clk.brefState, 2)] with drum := { sel1 := some (0, 0), ports := [(0, { rtts := List.replicate 32 10 })] } }, BitVec.ofNat 80 (2 ^ 60 + frameCrc (2 ^ 60)), 0, 0, by decide +kernel⟩,
    ⟨st [(Port.linkState 3, 2)], 3, by decide +kernel⟩⟩

/-- The premises of BrefExpressAndGenerationsComplete can hold. -/
theorem witness_bref_express_and_generations_complete :
    (∃ (s : State), (s.isRoot = false) ∧ (s.clk.xclkLive = true) ∧ ((s.port 0).up = true) ∧ (s.rd Clk.brefState ≠ 2))
    ∧ (∃ (s : State), (s.rd Clk.brefState = 2) ∧ (s.clk.xclkLive = true))
    ∧ (∃ (s : State) (p : Fin 4) (x : BitVec 16), (s.rd (Port.linkState p) ≠ 0) ∧ (p ≠ 0) ∧ (exCrc x.toNat = x.toNat % 16) ∧ (x.toNat.testBit 15 = true) ∧ (s.carriesGroup p (getField x.toNat 11 4) = true))
    ∧ (∃ (s : State) (p : Fin 4) (x : BitVec 16), (s.rd (Port.linkState p) ≠ 0) ∧ (p ≠ 0) ∧ (exCrc x.toNat ≠ x.toNat % 16))
    ∧ (∃ (s : State) (p : Fin 4) (f : BitVec 80), (s.takesFrame p 4 f = true) ∧ (p ≠ 0))
    ∧ (∃ (s : State) (f : BitVec 80), (s.takesFrame 0 5 f = true) ∧ (s.isRoot = false))
    ∧ (∃ (s : State), (s.beatHclk % 800000000 = 0) ∧ (s.isRoot = false) ∧ ((s.port 0).genUps = []))
    ∧ (∃ (s : State) (g : Nat), (s.beatHclk % 800000000 = 0) ∧ (s.isRoot = true) ∧ (s.rd Pace.group = g) ∧ (g < 16))
    ∧ (∃ (s : State) (v : Byte), (s.isRoot = true) ∧ (v.toNat ≤ 1) ∧ (s.hostUp = true))
    ∧ (∃ (s : State) (v : Byte), ((s.isRoot = false ∨ 1 < v.toNat)) ∧ (s.hostUp = true))
    ∧ (∃ (s : State), (s.hostUp = true)) :=
  ⟨⟨{ st [(Node.nodeRole, 1), (Clk.brefState, 1)] with clk := { xclkLive := true }, drum := { ports := [(0, { up := true })] } }, by decide +kernel⟩,
    ⟨{ st [(Clk.brefState, 2)] with clk := { xclkLive := true } }, by decide +kernel⟩,
    ⟨st [(Port.linkState 3, 2), (Port.linkGen 3, 1)], 3, BitVec.ofNat 16 (exWord 7 100), by decide +kernel⟩,
    ⟨st [(Port.linkState 3, 2), (Port.linkGen 3, 1)], 3, 0x8000, by decide +kernel⟩,
    ⟨st [(Port.linkState 3, 2), (Port.linkGen 3, 1)], 3, BitVec.ofNat 80 (2 ^ 62 + frameCrc (2 ^ 62)), by decide +kernel⟩,
    ⟨st [(Port.linkState 0, 2), (Port.linkGen 0, 1), (Node.nodeRole, 1)], BitVec.ofNat 80 (5 * 2 ^ 60 + frameCrc (5 * 2 ^ 60)), by decide +kernel⟩,
    ⟨{ st [(Node.nodeRole, 1), (Port.linkState 0, 2), (Port.linkGen 0, 3), (Pace.group, 15)] with beatHclk := 800000000 }, by decide +kernel⟩,
    ⟨{ st [(Node.nodeRole, 0), (Pace.group, 15)] with beatHclk := 800000000 }, 15, by decide +kernel⟩,
    ⟨up (st [(Node.nodeRole, 0)]), 1, by decide +kernel⟩,
    ⟨up (st [(Node.nodeRole, 0)]), 2, by decide +kernel⟩,
    ⟨up ({}), by decide +kernel⟩⟩

/-- The premises of PaceAndCollectiveComplete can hold. -/
theorem witness_pace_and_collective_complete :
    (∃ (s : State) (k : Fin 4), (s.beatHclk % 800 = 200 * k.val) ∧ (s.fpRuns 2 = true) ∧ (s.rdN Pace.group < 16) ∧ (s.forcedHold (s.rdN Pace.group) = true))
    ∧ (∃ (s : State) (k : Fin 4), (s.beatHclk % 800 = 200 * k.val) ∧ (s.fpRuns 2 = true))
    ∧ (∃ (s : State) (g : Fin 16) (x : Nat), (s.heardGroup g = x) ∧ (s.drum.cleared = []) ∧ (s.isRoot = false) ∧ (s.start.dirRead = true) ∧ (x + 80000 ≤ s.hclk))
    ∧ (∃ (s : State) (p : Fin 4), ((s.port p).exUndo = none))
    ∧ (∃ (s : State), (s.fpRuns 2 = false) ∧ (s.rd Pace.ownDeficit ≠ 0) ∧ (s.drum.fw.evalAt + 800 * s.rdN Pace.paceStale ≤ s.hclk))
    ∧ (∃ (s : State) (c : Nat), (s.collPeriodNow = some c) ∧ (c ≠ 0) ∧ (s.beatHclk % (800 * c) = 0) ∧ ((s.drum.coll.opened && s.drum.coll.start = s.beat) = false))
    ∧ (∃ (s : State) (p : Fin 4) (f : BitVec 80), (s.takesFrame p 6 f = true) ∧ (p ≠ 0))
    ∧ (∃ (s : State), (s.drum.coll.opened = true) ∧ (s.drum.coll.sent = false) ∧ (s.isRoot = false) ∧ (800 * (s.drum.coll.start : Int) + 100 * s.drum.coll.period - 3200 * s.rd Node.depth ≤ s.beatHclk))
    ∧ (∃ (s : State), (s.drum.coll.opened = true) ∧ (s.drum.coll.summed = false) ∧ (s.isRoot = true) ∧ (800 * s.drum.coll.start + 100 * s.drum.coll.period ≤ s.beatHclk))
    ∧ (∃ (s : State) (f : BitVec 80), (s.takesFrame 0 7 f = true) ∧ (s.isRoot = false))
    ∧ (∃ (s : State) (m : Nat × Nat), (s.drum.coll.opened = true) ∧ (s.drum.coll.grantAt ≤ s.beatHclk) ∧ (s.rd Coll.collEn = 1) ∧ (s.drum.coll.got = some m) ∧ (s.foreign = false) ∧ (s.rd Node.alignState ≠ 0))
    ∧ (∃ (s : State), (s.drum.coll.opened = true) ∧ (s.drum.coll.grantAt ≤ s.beatHclk) ∧ (s.rd Coll.collEn = 1) ∧ (s.drum.coll.got = none) ∧ (s.fpRuns 2 = true))
    ∧ (∃ (s : State), (s.drum.coll.opened = true) ∧ (s.drum.coll.grantAt ≤ s.beatHclk) ∧ (s.rd Coll.collEn = 1) ∧ (s.drum.coll.got = none) ∧ (s.fpRuns 2 = false)) :=
  ⟨⟨{ st [(Fp.fpState 2, 2), (Pace.group, 15)] with beatHclk := 600, drum := { cleared := [15] } }, 3, by decide +kernel⟩,
    ⟨{ st [(Fp.fpState 2, 2), (Pace.group, 255), (Pace.paceHyst, 2)] with beatHclk := 600 }, 3, by decide +kernel⟩,
    ⟨{ st [(Node.nodeRole, 1), (Grp.gDeficit 15, 5)] with hclk := 80000, start := { dirRead := true }, drum := { resAt := [(15, 0)] } }, 15, 0, by decide +kernel⟩,
    ⟨{}, 3, by decide +kernel⟩,
    ⟨{ st [(Fp.fpState 2, 4), (Pace.ownDeficit, 7), (Pace.paceStale, 10), (Pace.group, 255)] with hclk := 8000 }, by decide +kernel⟩,
    ⟨{ st [(Node.nodeRole, 0), (Coll.collPeriod, 16)] with beatHclk := 12800 }, 16, by decide +kernel⟩,
    ⟨st [(Port.linkState 3, 2), (Port.linkGen 3, 2)], 3, BitVec.ofNat 80 (6 * 2 ^ 60 + frameCrc (6 * 2 ^ 60)), by decide +kernel⟩,
    ⟨{ st [(Node.nodeRole, 1), (Node.depth, 1)] with drum := { coll := { opened := true, start := 0, period := 32 } } }, by decide +kernel⟩,
    ⟨{ st [(Node.nodeRole, 0)] with beatHclk := 3200, drum := { coll := { opened := true, start := 0, period := 32 } } }, by decide +kernel⟩,
    ⟨st [(Port.linkState 0, 2), (Port.linkGen 0, 2), (Node.nodeRole, 1)], BitVec.ofNat 80 (7 * 2 ^ 60 + frameCrc (7 * 2 ^ 60)), by decide +kernel⟩,
    ⟨{ st [(Coll.collEn, 1), (Node.alignState, 1)] with beatHclk := 12800, drum := { coll := { opened := true, start := 0, period := 32, got := some (2, 5) } } }, (2, 5), by decide +kernel⟩,
    ⟨{ st [(Coll.collEn, 1), (Fp.fpState 2, 2)] with beatHclk := 12800, drum := { away := 2, coll := { opened := true, start := 0, period := 32 } } }, by decide +kernel⟩,
    ⟨{ st [(Coll.collEn, 1)] with beatHclk := 12800, drum := { away := 2, coll := { opened := true, start := 0, period := 32 } } }, by decide +kernel⟩⟩

/-- The premises of BulkTransferCompletes can hold. -/
theorem witness_bulk_transfer_completes :
    (∃ (s : State) (p : Fin 4) (f : BitVec 80) (r : BulkRx), (s.takesFrame p 8 f = true) ∧ ((s.port p).rx = some r))
    ∧ (∃ (s : State) (p : Fin 4) (f : BitVec 80), (s.takesFrame p 9 f = true) ∧ (bulkOp (frameBody f.toNat) = 1) ∧ (s.fpRuns 3 = true) ∧ (s.chunkVerdict (getField (frameBody f.toNat) 24 16) (getField (frameBody f.toNat) 0 24) ≠ .held))
    ∧ (∃ (s : State) (p : Fin 4) (f : BitVec 80) (r : BulkRx), (s.takesFrame p 9 f = true) ∧ (bulkOp (frameBody f.toNat) = 2) ∧ ((s.port p).rx = some r) ∧ ((r.chunk % 4096 ≠ getField (frameBody f.toNat) 32 12 ∨ r.bytes.length ≠ 258 ∨ s.fpRuns 3 = false)) ∧ ((s.port p).up = true))
    ∧ (∃ (s : State) (p : Fin 4) (f : BitVec 80) (r : BulkRx), (s.takesFrame p 9 f = true) ∧ (bulkOp (frameBody f.toNat) = 2) ∧ ((s.port p).rx = some r) ∧ (r.chunk % 4096 = getField (frameBody f.toNat) 32 12) ∧ (r.bytes.length = 258) ∧ ((crc32c (r.bytes.take 256)).toNat = getField (frameBody f.toNat) 0 32) ∧ (s.fpRuns 3 = true) ∧ (s.chunkVerdict r.stream r.chunk = .taken))
    ∧ (∃ (s : State) (p : Fin 4) (f : BitVec 80), (s.takesFrame p 9 f = true) ∧ (bulkOp (frameBody f.toNat) = 3) ∧ ((s.port p).tx.stream = getField (frameBody f.toNat) 24 16) ∧ ((s.port p).tx.flight = [getField (frameBody f.toNat) 0 24]) ∧ ((s.port p).tx.again ≠ []))
    ∧ (∃ (s : State) (p : Fin 4) (b : Nat), (s.fwdSlot = some b) ∧ ((s.port p).tx.stream = s.rdN (Slot.stream b)) ∧ ((s.port p).tx.flight = []) ∧ ((s.port p).tx.again = []) ∧ (s.rdN (Slot.nChunks b) ≤ (s.port p).tx.next) ∧ ((s.port p).tx.acked % 2 ^ s.rdN (Slot.nChunks b) = 2 ^ s.rdN (Slot.nChunks b) - 1))
    ∧ (∃ (s : State) (p : Fin 4) (b : Nat), (s.fwdSlot = some b) ∧ ((s.port p).tx.stream = s.rdN (Slot.stream b)) ∧ ((s.port p).tx.flight = []) ∧ ((s.port p).tx.again = []) ∧ (s.rdN (Slot.nChunks b) ≤ (s.port p).tx.next) ∧ ((s.port p).tx.acked % 2 ^ s.rdN (Slot.nChunks b) ≠ 2 ^ s.rdN (Slot.nChunks b) - 1))
    ∧ (∃ (s : State) (p : Fin 4) (f : BitVec 80), (s.takesFrame p 9 f = true) ∧ (bulkOp (frameBody f.toNat) = 4) ∧ ((s.port p).tx.stream = getField (frameBody f.toNat) 24 16) ∧ ((s.port p).tx.flight = [getField (frameBody f.toNat) 0 24]) ∧ (tabGet (fun _ => 0) (s.port p).tx.naks (getField (frameBody f.toNat) 0 24) < 3))
    ∧ (∃ (s : State) (p : Fin 4) (f : BitVec 80), (s.takesFrame p 9 f = true) ∧ (bulkOp (frameBody f.toNat) = 4) ∧ ((s.port p).tx.stream = getField (frameBody f.toNat) 24 16) ∧ ((s.port p).tx.flight = [getField (frameBody f.toNat) 0 24]) ∧ (3 ≤ tabGet (fun _ => 0) (s.port p).tx.naks (getField (frameBody f.toNat) 0 24)))
    ∧ (∃ (s : State) (p : Fin 4) (b : Nat), (s.fwdSlot = some b) ∧ (p ≠ 0) ∧ (s.fpRuns 3 = true) ∧ (1 ≤ s.linkGen p) ∧ ((s.port p).tx = { stream := s.rdN (Slot.stream b) }) ∧ (0 < s.rdN (Slot.nChunks b)))
    ∧ (∃ (s : State) (p : Fin 4) (a : Nat) (b : Nat), ((s.port p).tx.paused = some a) ∧ (a + 800000000 ≤ s.hclk) ∧ (s.fwdSlot = some b) ∧ ((match (s.port p).tx.lastAck with | some c => c + 1 | none => 0) < s.rdN (Slot.nChunks b))) :=
  ⟨⟨{ st [(Port.linkState 3, 2), (Port.linkGen 3, 1)] with drum := { ports := [(3, { rx := some ⟨1, 2, []⟩ })] } }, 3, BitVec.ofNat 80 (2 ^ 63 + frameCrc (2 ^ 63)), ⟨1, 2, []⟩, by decide +kernel⟩,
    ⟨st [(Port.linkState 3, 2), (Port.linkGen 3, 1), (Fp.fpState 3, 2), (Fw.activeSlot, 0)], 3, BitVec.ofNat 80 (9 * 2 ^ 60 + 2 ^ 52 + frameCrc (9 * 2 ^ 60 + 2 ^ 52)), by decide +kernel⟩,
    ⟨{ st [(Port.linkState 3, 2), (Port.linkGen 3, 1)] with drum := { ports := [(3, { up := true, rx := some ⟨1, 2, []⟩ })] } }, 3, BitVec.ofNat 80 (9 * 2 ^ 60 + 2 ^ 53 + frameCrc (9 * 2 ^ 60 + 2 ^ 53)), ⟨1, 2, []⟩, by decide +kernel⟩,
    ⟨{ st [(Port.linkState 3, 2), (Port.linkGen 3, 1), (Fp.fpState 3, 2), (Fw.activeSlot, 0)] with drum := { ports := [(3, { up := true, rx := some ⟨1, 2, List.replicate 258 0⟩ })] } }, 3, bulkEndWord 2 3094524304, ⟨1, 2, List.replicate 258 0⟩, by decide +kernel, by decide +kernel, by decide +kernel, by decide +kernel, by decide +kernel, by rw [show (List.replicate 258 (0 : Byte)).take 256 = List.replicate 256 0 from List.take_replicate, crc_zeros]; decide +kernel, by decide +kernel, by decide +kernel⟩,
    ⟨{ st [(Port.linkState 3, 2), (Port.linkGen 3, 1)] with drum := { ports := [(3, { tx := { stream := 0, flight := [7], again := [3] } })] } }, 3, BitVec.ofNat 80 (9 * 2 ^ 60 + 3 * 2 ^ 52 + 7 * 2 ^ 8 + frameCrc (9 * 2 ^ 60 + 3 * 2 ^ 52 + 7 * 2 ^ 8)), by decide +kernel⟩,
    ⟨{ st [(Fw.activeSlot, 0), (Slot.slotState 1, 2), (Upd.fwdEn, 1), (Slot.stream 1, 9), (Slot.nChunks 1, 2), (Port.partnerSerial 3, 6)] with drum := { ports := [(3, { tx := { stream := 9, next := 2, acked := 3 } })] } }, 3, 1, by decide +kernel⟩,
    ⟨{ st [(Fw.activeSlot, 0), (Slot.slotState 1, 2), (Upd.fwdEn, 1), (Slot.stream 1, 9), (Slot.nChunks 1, 2)] with drum := { ports := [(3, { tx := { stream := 9, next := 2, acked := 1 } })] } }, 3, 1, by decide +kernel⟩,
    ⟨{ st [(Port.linkState 3, 2), (Port.linkGen 3, 1)] with drum := { ports := [(3, { tx := { stream := 0, flight := [7], naks := [(7, 2)] } })] } }, 3, BitVec.ofNat 80 (9 * 2 ^ 60 + 4 * 2 ^ 52 + 7 * 2 ^ 8 + frameCrc (9 * 2 ^ 60 + 4 * 2 ^ 52 + 7 * 2 ^ 8)), by decide +kernel⟩,
    ⟨{ st [(Port.linkState 3, 2), (Port.linkGen 3, 1)] with drum := { ports := [(3, { tx := { stream := 0, flight := [7], naks := [(7, 3)] } })] } }, 3, BitVec.ofNat 80 (9 * 2 ^ 60 + 4 * 2 ^ 52 + 7 * 2 ^ 8 + frameCrc (9 * 2 ^ 60 + 4 * 2 ^ 52 + 7 * 2 ^ 8)), by decide +kernel⟩,
    ⟨{ st [(Port.linkState 3, 2), (Port.linkGen 3, 1), (Fp.fpState 3, 2), (Fw.activeSlot, 0), (Slot.slotState 1, 2), (Upd.fwdEn, 1), (Slot.stream 1, 9), (Slot.nChunks 1, 2)] with drum := { ports := [(3, { tx := { stream := 9 } })] } }, 3, 1, by decide +kernel⟩,
    ⟨{ st [(Fw.activeSlot, 0), (Slot.slotState 1, 2), (Upd.fwdEn, 1), (Slot.nChunks 1, 6)] with hclk := 800000000, drum := { ports := [(3, { tx := { paused := some 0, lastAck := some 4 } })] } }, 3, 0, 1, by decide +kernel⟩⟩

/-- The premises of ProcessorsCompleteTheirCommands can hold. -/
theorem witness_processors_complete_their_commands :
    (∃ (s : State) (k : Fin 4), (s.rd (Fp.fpState k) = 2) ∧ ((s.fp k).halted = false) ∧ (s.fw.act.phase < 2) ∧ ((s.crashesNow k).length < 2) ∧ (s.wdtUp k = true))
    ∧ (∃ (s : State) (k : Fin 4), (s.rd (Fp.fpState k) = 2) ∧ ((s.fp k).halted = false) ∧ (s.fw.act.phase < 2) ∧ ((s.crashesNow k).length < 2))
    ∧ (∃ (s : State) (k : Fin 4), (s.rd (Fp.fpState k) = 2) ∧ ((s.fp k).halted = false) ∧ (s.fw.act.phase < 2) ∧ ((s.crashesNow k).length < 2))
    ∧ (∃ (s : State) (k : Fin 4), (s.rd (Fp.fpState k) = 2) ∧ ((s.fp k).halted = false) ∧ (s.fw.act.phase < 2) ∧ ((s.crashesNow k).length < 2))
    ∧ (∃ (s : State) (k : Fin 4), (s.fw.act.phase < 2) ∧ (s.rd (Fp.fpState k) = 2) ∧ (s.hostUp = true))
    ∧ (∃ (s : State) (k : Fin 4), (s.fw.act.phase < 2) ∧ (s.rd (Fp.fpState k) = 5) ∧ (s.hostUp = true))
    ∧ (∃ (s : State), (2 ≤ s.fw.act.phase) ∧ (s.hostUp = true))
    ∧ (∃ (s : State) (k : Fin 4), (s.rd (Fp.fpState k) = 1) ∧ (s.fw.act.phase = 0) ∧ ((s.fp k).bootSlot < 2) ∧ ((s.fp k).bootWhy ≠ 2) ∧ (s.crashesNow k = []))
    ∧ (∃ (s : State) (k : Fin 4), (s.rd (Fp.fpState k) = 4) ∧ ((s.fp k).bootAt + 80000 ≤ s.hclk))
    ∧ (∃ (s : State) (k : Fin 4), (s.rd (Fp.fpState k) = 3) ∧ ((s.fp k).halted = false))
    ∧ (∃ (s : State) (k : Fin 4), (s.rd (Fp.fpState k) = 3) ∧ ((s.fp k).halted = false) ∧ ((s.fp k).handAt + 800000 ≤ s.hclk))
    ∧ (∃ (s : State) (k : Fin 4), (s.fpRuns k = true))
    ∧ (∃ (s : State), (s.fpRuns 3 = true) ∧ (s.fw.act.phase ≠ 2) ∧ (s.rdN (Fp.fpSlot 3) < 2)) :=
  ⟨⟨{ st [(Fp.fpState 3, 2), (Fp.wdtMs 3, 1)] with hclk := 800000 }, 3, by decide +kernel⟩,
    ⟨st [(Fp.fpState 3, 2)], 3, by decide +kernel⟩,
    ⟨st [(Fp.fpState 3, 2)], 3, by decide +kernel⟩,
    ⟨st [(Fp.fpState 3, 2)], 3, by decide +kernel⟩,
    ⟨up (st [(Fp.fpState 3, 2)]), 3, by decide +kernel⟩,
    ⟨up (st [(Fp.fpState 3, 5)]), 3, by decide +kernel⟩,
    ⟨up ({ fw := { act := { phase := 2 } } }), by decide +kernel⟩,
    ⟨st [(Fp.fpState 3, 1)], 3, by decide +kernel⟩,
    ⟨{ st [(Fp.fpState 3, 4)] with hclk := 80000 }, 3, by decide +kernel⟩,
    ⟨st [(Fp.fpState 3, 3)], 3, by decide +kernel⟩,
    ⟨{ st [(Fp.fpState 3, 3)] with hclk := 800000 }, 3, by decide +kernel⟩,
    ⟨st [(Fp.fpState 3, 2)], 3, by decide +kernel⟩,
    ⟨st [(Fp.fpState 3, 2), (Fp.fpSlot 3, 1)], by decide +kernel⟩⟩

/-- The premises of UpdatesAndActivationComplete can hold. -/
theorem witness_updates_and_activation_complete :
    (∃ (s : State), (s.fpRuns 3 = true) ∧ (s.activateOk = true) ∧ (s.hostUp = true))
    ∧ (∃ (s : State), (s.fpRuns 3 = true) ∧ (s.activateOk = false) ∧ (s.hostUp = true))
    ∧ (∃ (s : State), (s.fpRuns 3 = false) ∧ (s.hostUp = true))
    ∧ (∃ (s : State), (s.fpRuns 3 = true) ∧ (s.unconfirmed = true) ∧ (s.fallbackComes = false) ∧ (s.rdN Fw.activeSlot < 2) ∧ (s.hostUp = true))
    ∧ (∃ (s : State), (s.fpRuns 3 = true) ∧ ((s.unconfirmed = false ∨ s.fallbackComes = true)) ∧ (s.hostUp = true))
    ∧ (∃ (s : State), (s.fpRuns 3 = false) ∧ (s.hostUp = true))
    ∧ (∃ (s : State), (s.fpRuns 3 = true) ∧ (s.fw.act.phase < 2) ∧ (s.rdN Fw.activeSlot < 2) ∧ ((s.rd (Slot.slotState s.inactive) = 1 ∨ s.rd (Slot.slotState s.inactive) = 2)) ∧ (s.hostUp = true))
    ∧ (∃ (s : State), (s.fpRuns 3 = true) ∧ ((2 ≤ s.fw.act.phase ∨ (s.rd (Slot.slotState s.inactive) ≠ 1 ∧ s.rd (Slot.slotState s.inactive) ≠ 2))) ∧ (s.hostUp = true))
    ∧ (∃ (s : State), (s.fpRuns 3 = false) ∧ (s.hostUp = true))
    ∧ (∃ (s : State), (s.fpRuns 3 = true) ∧ (s.fw.act.phase = 1) ∧ (s.hostUp = true))
    ∧ (∃ (s : State), (s.fpRuns 3 = true) ∧ (s.fw.act.phase ≠ 1) ∧ (s.hostUp = true))
    ∧ (∃ (s : State), (s.fpRuns 3 = false) ∧ (s.hostUp = true))
    ∧ (∃ (s : State), (s.fpRuns 3 = true) ∧ (s.unconfirmed = true) ∧ (s.rd (Slot.slotState s.inactive) = 5) ∧ (s.hostUp = true))
    ∧ (∃ (s : State), (s.fpRuns 3 = true) ∧ ((s.unconfirmed = false ∨ s.rd (Slot.slotState s.inactive) ≠ 5)) ∧ (s.hostUp = true))
    ∧ (∃ (s : State), (s.fpRuns 3 = false) ∧ (s.hostUp = true))
    ∧ (∃ (s : State), (s.fw.act.phase = 1) ∧ (s.quiet10 = true))
    ∧ (∃ (s : State), ((s.fw.act.phase ≠ 1 ∨ s.quiet10 = false)))
    ∧ (∃ (s : State) (k : Nat), (s.fw.act.phase = 2) ∧ (s.fw.act.turn = none) ∧ (s.fw.act.tablesDue = false) ∧ (s.fw.act.pausedAt = none) ∧ (s.fw.act.quietAt.isSome = true) ∧ (actOrder.find? (fun j => !s.fw.act.moved.contains j) = some k))
    ∧ (∃ (s : State) (k : Fin 4), ((s.fw.act.phase = 3 ∨ s.fw.act.phase = 4)) ∧ (s.fw.act.turn = none) ∧ (s.nextBack = some k.val))
    ∧ (∃ (s : State), ((s.fw.act.turn.isSome = true ∨ s.fw.act.phase < 2 ∨ (s.fw.act.phase = 2 ∧ s.fw.act.tablesDue = true))))
    ∧ (∃ (s : State), (s.fpRuns 3 = true) ∧ (s.fw.act.phase = 1) ∧ (s.quiet10 = false) ∧ (800000 * s.rdN Upd.actLimit ≤ s.actWaited))
    ∧ (∃ (s : State), (s.fpRuns 3 = true) ∧ (s.fw.act.phase = 2) ∧ (s.fw.act.pausedAt.isSome = true) ∧ (s.quiet10 = false) ∧ (s.fw.act.moved ≠ []) ∧ (800000 * s.rdN Upd.actLimit ≤ s.actWaited))
    ∧ (∃ (s : State), ((s.fpRuns 3 = false ∨ s.actWaited < 800000 * s.rdN Upd.actLimit ∨ s.quiet10 = true ∨ s.fw.act.phase = 0)))
    ∧ (∃ (s : State), (s.fpRuns 3 = true) ∧ (s.unconfirmed = true) ∧ (s.rd Upd.confLimit ≠ 0) ∧ (s.fw.act.confirmAt + 800000000 * s.rdN Upd.confLimit ≤ s.hclk))
    ∧ (∃ (s : State), ((s.fpRuns 3 = false ∨ s.unconfirmed = false ∨ s.confLimitUp = false)))
    ∧ (∃ (s : State), (s.reqReady = true))
    ∧ (∃ (s : State) (x : Xport) (m : DictMsg), (x ≠ .htp) ∧ (s.xportOn x = true) ∧ (s.msgTurn x m = true) ∧ (((s.takeMsg x m.src.toNat m.tag.toNat).fabric 3 (1 + xnum x)).msgCheck 4 m = none) ∧ (m.body.length ≠ 270))
    ∧ (∃ (s : State) (x : Xport) (m : DictMsg), (x ≠ .htp) ∧ (s.xportOn x = true) ∧ (s.msgTurn x m = true) ∧ (((s.takeMsg x m.src.toNat m.tag.toNat).fabric 3 (1 + xnum x)).msgCheck 4 m = none) ∧ (m.body.length = 270) ∧ (leNat (m.body.take 4) = 0) ∧ (leNat ((m.body.drop 4).take 2) = 264) ∧ (s.fpRuns 3 = false))
    ∧ (∃ (s : State) (x : Xport) (m : DictMsg), (x ≠ .htp) ∧ (s.xportOn x = true) ∧ (s.msgTurn x m = true) ∧ (((s.takeMsg x m.src.toNat m.tag.toNat).fabric 3 (1 + xnum x)).msgCheck 4 m = none) ∧ (m.body.length = 270) ∧ (leNat (m.body.take 4) = 0) ∧ (leNat ((m.body.drop 4).take 2) = 264) ∧ (s.fpRuns 3 = true) ∧ (leNat ((m.body.drop 10).take 4) = (crc32c (m.body.drop 14)).toNat) ∧ (s.chunkVerdict (leNat ((m.body.drop 6).take 2)) (leNat ((m.body.drop 8).take 2)) = .taken))
    ∧ (∃ (s : State) (x : Xport) (m : DictMsg), (x ≠ .htp) ∧ (s.xportOn x = true) ∧ (s.msgTurn x m = true) ∧ (((s.takeMsg x m.src.toNat m.tag.toNat).fabric 3 (1 + xnum x)).msgCheck 4 m = none) ∧ (m.body.length = 270) ∧ (leNat (m.body.take 4) = 0) ∧ (leNat ((m.body.drop 4).take 2) = 264) ∧ (s.fpRuns 3 = true) ∧ (leNat ((m.body.drop 10).take 4) = (crc32c (m.body.drop 14)).toNat) ∧ (s.chunkVerdict (leNat ((m.body.drop 6).take 2)) (leNat ((m.body.drop 8).take 2)) = .refused))
    ∧ (∃ (s : State) (x : Xport) (m : DictMsg), (x ≠ .htp) ∧ (s.xportOn x = true) ∧ (s.msgTurn x m = true) ∧ (((s.takeMsg x m.src.toNat m.tag.toNat).fabric 3 (1 + xnum x)).msgCheck 4 m = none) ∧ (m.body.length = 270) ∧ (leNat (m.body.take 4) = 0) ∧ (leNat ((m.body.drop 4).take 2) = 264) ∧ (s.fpRuns 3 = true) ∧ (leNat ((m.body.drop 10).take 4) ≠ (crc32c (m.body.drop 14)).toNat))
    ∧ (∃ (s : State) (j : ChunkJob), (s.fpRuns 3 = true) ∧ (s.fw.program = [j]) ∧ (s.chest.inhibitAt = none) ∧ (j.slot < 2) ∧ ((s.heldMap j.slot).testBit j.chunk = false) ∧ (s.rdN (Slot.nChunks j.slot) = 0) ∧ (j.chunk ≠ 0))
    ∧ (∃ (s : State) (j : ChunkJob), (s.fpRuns 3 = true) ∧ (s.fw.program = [j]) ∧ (s.chest.inhibitAt = none) ∧ (j.slot < 2) ∧ ((s.heldMap j.slot).testBit j.chunk = false) ∧ (j.chunk ≠ 0) ∧ (j.chunk < s.rdN (Slot.nChunks j.slot)) ∧ (s.rd (Slot.held j.slot) + 1 = s.rd (Slot.nChunks j.slot)) ∧ (s.rd (Slot.nChunks j.slot) ≤ 32767) ∧ (s.rd (Slot.slotState j.slot) = 1))
    ∧ (∃ (s : State) (j : ChunkJob), (s.fpRuns 3 = true) ∧ (s.fw.program = [j]) ∧ (s.chest.inhibitAt = none) ∧ (s.rdN (Slot.nChunks j.slot) ≠ 0) ∧ (s.rdN (Slot.nChunks j.slot) ≤ j.chunk))
    ∧ (∃ (s : State), (s.fpRuns 3 = true) ∧ (s.fw.program ≠ []) ∧ (s.chest.inhibitAt = none))
    ∧ (∃ (s : State), ((s.fpRuns 3 = false ∨ s.fw.program = [] ∨ (s.chest.inhibitAt.isSome = true ∧ s.fw.tail = false)))) :=
  ⟨⟨up (st [(Fp.fpState 3, 2), (Fw.activeSlot, 0), (Slot.slotState 1, 2), (Slot.slotState 0, 3), (KeyLad.keyEpoch, 0), (KeyLad.keyStatus, 0), (KeyLad.revoked, 0), (Upd.minSvn, 0), (Ident.blockVersion, 0), (Ident.configHash, 0), (Lc.lcState, 3), (Slot.handoverFmts 0, 0), (Slot.handoverFmts 1, 0), (Slot.settingsFmts 0, 0), (Slot.settingsFmts 1, 0), (Fp.fpState 0, 2), (Fp.fpState 1, 2), (Fp.fpState 2, 2)]), by decide +kernel⟩,
    ⟨up (st [(Fp.fpState 3, 2), (Fw.activeSlot, 0), (Slot.slotState 1, 1)]), by decide +kernel⟩,
    ⟨up (st [(Upd.updCtrl, 2)]), by decide +kernel⟩,
    ⟨up (st [(Fp.fpState 3, 2), (Fw.activeSlot, 1), (Slot.slotState 1, 4), (Slot.slotState 0, 5)]), by decide +kernel⟩,
    ⟨up (st [(Fp.fpState 3, 2), (Fw.activeSlot, 1), (Slot.slotState 1, 3)]), by decide +kernel⟩,
    ⟨up (st [(Upd.updCtrl, 2)]), by decide +kernel⟩,
    ⟨up ({ st [(Fp.fpState 3, 2), (Fw.activeSlot, 1), (Slot.slotState 0, 2)] with fw := { act := { phase := 1 } } }), by decide +kernel⟩,
    ⟨up (st [(Fp.fpState 3, 2), (Fw.activeSlot, 1), (Slot.slotState 0, 6)]), by decide +kernel⟩,
    ⟨up (st [(Upd.updCtrl, 2)]), by decide +kernel⟩,
    ⟨up ({ st [(Fp.fpState 3, 2), (Upd.actCancels, 2)] with fw := { act := { phase := 1 } } }), ⟨by decide +kernel, by decide +kernel⟩⟩,
    ⟨up (st [(Fp.fpState 3, 2)]), by decide +kernel⟩,
    ⟨up (st [(Upd.updCtrl, 2)]), by decide +kernel⟩,
    ⟨up (st [(Fp.fpState 3, 2), (Fw.activeSlot, 1), (Slot.slotState 1, 4), (Slot.slotState 0, 5)]), by decide +kernel⟩,
    ⟨up (st [(Fp.fpState 3, 2), (Fw.activeSlot, 1), (Slot.slotState 1, 4), (Slot.slotState 0, 0)]), by decide +kernel⟩,
    ⟨up (st [(Upd.updCtrl, 2)]), by decide +kernel⟩,
    ⟨{ hclk := 8000000, fw := { act := { phase := 1, quietAt := some 0 } } }, by decide +kernel⟩,
    ⟨{}, by decide +kernel⟩,
    ⟨{ fw := { act := { phase := 2, quietAt := some 0, moved := [3], target := 1 } } }, 0, by decide +kernel⟩,
    ⟨{ st [(Fp.fpState 3, 2)] with fw := { act := { phase := 4, moved := [3], target := 1 } } }, 3, by decide +kernel⟩,
    ⟨{}, by decide +kernel⟩,
    ⟨{ st [(Fp.fpState 3, 2), (Upd.actLimit, 1)] with hclk := 800000, fw := { act := { phase := 1 } } }, by decide +kernel⟩,
    ⟨{ st [(Fp.fpState 3, 2), (Upd.actLimit, 1)] with hclk := 800000, fw := { act := { phase := 2, pausedAt := some 0, moved := [3] } } }, by decide +kernel⟩,
    ⟨{}, by decide +kernel⟩,
    ⟨{ st [(Fp.fpState 3, 2), (Fw.activeSlot, 1), (Slot.slotState 1, 4), (Upd.confLimit, 1)] with hclk := 800000000 }, by decide +kernel⟩,
    ⟨{}, by decide +kernel⟩,
    ⟨up {}, by decide +kernel⟩,
    ⟨{ start := { hubUp := true } }, .i3c, ⟨0, 0, Config.ianaPen, 1, 0, 0, 0, []⟩, by decide +kernel, by decide +kernel, by decide +kernel, by simp [State.msgCheck]; decide +kernel, by decide +kernel⟩,
    ⟨{ start := { hubUp := true } }, .i3c, ⟨0, 0, Config.ianaPen, 1, 0, 0, 0, [0, 0, 0, 0, 8, 1, 1, 0, 2, 0] ++ leBytes 4 7 ++ List.replicate 256 0⟩, by decide +kernel, by decide +kernel, by decide +kernel, by simp [State.msgCheck]; decide +kernel, by decide +kernel, by decide +kernel, by decide +kernel, by decide +kernel⟩,
    ⟨{ st [(Fp.fpState 3, 2), (Fw.activeSlot, 0)] with start := { hubUp := true } }, .i3c, ⟨0, 0, Config.ianaPen, 1, 0, 0, 0, [0, 0, 0, 0, 8, 1, 1, 0, 2, 0] ++ leBytes 4 3094524304 ++ List.replicate 256 0⟩, by decide +kernel, by decide +kernel, by decide +kernel, by simp [State.msgCheck]; decide +kernel, by decide +kernel, by decide +kernel, by decide +kernel, by decide +kernel, by dsimp only; rw [show ([0, 0, 0, 0, 8, 1, 1, 0, 2, 0] ++ leBytes 4 3094524304 ++ List.replicate 256 0 : List Byte).drop 14 = List.replicate 256 0 from by decide +kernel, crc_zeros]; decide +kernel, by decide +kernel⟩,
    ⟨{ st [(Fp.fpState 3, 2), (Fw.activeSlot, 0), (Slot.slotState 1, 5)] with start := { hubUp := true } }, .i3c, ⟨0, 0, Config.ianaPen, 1, 0, 0, 0, [0, 0, 0, 0, 8, 1, 1, 0, 2, 0] ++ leBytes 4 3094524304 ++ List.replicate 256 0⟩, by decide +kernel, by decide +kernel, by decide +kernel, by simp [State.msgCheck]; decide +kernel, by decide +kernel, by decide +kernel, by decide +kernel, by decide +kernel, by dsimp only; rw [show ([0, 0, 0, 0, 8, 1, 1, 0, 2, 0] ++ leBytes 4 3094524304 ++ List.replicate 256 0 : List Byte).drop 14 = List.replicate 256 0 from by decide +kernel, crc_zeros]; decide +kernel, by decide +kernel⟩,
    ⟨{ st [(Fp.fpState 3, 2), (Fw.activeSlot, 0)] with start := { hubUp := true } }, .i3c, ⟨0, 0, Config.ianaPen, 1, 0, 0, 0, [0, 0, 0, 0, 8, 1, 1, 0, 2, 0] ++ leBytes 4 7 ++ List.replicate 256 0⟩, by decide +kernel, by decide +kernel, by decide +kernel, by simp [State.msgCheck]; decide +kernel, by decide +kernel, by decide +kernel, by decide +kernel, by decide +kernel, by dsimp only; rw [show ([0, 0, 0, 0, 8, 1, 1, 0, 2, 0] ++ leBytes 4 7 ++ List.replicate 256 0 : List Byte).drop 14 = List.replicate 256 0 from by decide +kernel, crc_zeros]; decide +kernel⟩,
    ⟨{ st [(Fp.fpState 3, 2)] with fw := { program := [⟨1, 7, 5, 1, [], none⟩] } }, ⟨1, 7, 5, 1, [], none⟩, by decide +kernel⟩,
    ⟨{ st [(Fp.fpState 3, 2), (Slot.slotState 1, 1), (Slot.nChunks 1, 8), (Slot.held 1, 7)] with fw := { program := [⟨1, 7, 5, 1, [], none⟩] } }, ⟨1, 7, 5, 1, [], none⟩, by decide +kernel⟩,
    ⟨{ st [(Fp.fpState 3, 2), (Slot.slotState 1, 1), (Slot.nChunks 1, 7)] with fw := { program := [⟨1, 7, 5, 1, [], none⟩] } }, ⟨1, 7, 5, 1, [], none⟩, by decide +kernel⟩,
    ⟨{ st [(Fp.fpState 3, 2)] with fw := { program := [⟨1, 7, 5, 1, [], none⟩] } }, by decide +kernel⟩,
    ⟨{}, by decide +kernel⟩⟩

/-- The premises of SettingsStoreCompletes can hold. -/
theorem witness_settings_store_completes :
    (∃ (s : State) (r : SaveOut), (s.fpRuns 3 = true) ∧ (s.chest.inhibitAt = none) ∧ (s.saveDue = true) ∧ (r ≠ .program))
    ∧ (∃ (s : State), (s.fpRuns 3 = true) ∧ (s.chest.inhibitAt = none) ∧ (s.saveDue = true))
    ∧ (∃ (s : State), ((s.fpRuns 3 = false ∨ s.saveDue = false ∨ (s.chest.inhibitAt.isSome = true ∧ s.fw.saveTail = false))))
    ∧ (∃ (s : State), (s.fpRuns 3 = true) ∧ (s.fw.marks ≠ []) ∧ (s.hostUp = true))
    ∧ (∃ (s : State), (s.fpRuns 3 = true) ∧ (s.fw.marks = []) ∧ (s.hostUp = true))
    ∧ (∃ (s : State), (s.fpRuns 3 = true) ∧ (s.chest.inhibitAt = none) ∧ (s.rdN Sett.profileSave ≠ 0) ∧ (s.fw.profAt + 800000000 * s.rdN Sett.profileSave ≤ s.hclk))
    ∧ (∃ (s : State) (n : Fin 8) (l : List (BitVec 26)), (s.fpRuns 0 = true) ∧ ((s.loop n).hold = true) ∧ ((tabGet (fun _ => 0) s.fw.reloaded n).testBit (s.rdN (Loop.region n)) = false) ∧ (s.rdN (Loop.region n) < 4) ∧ (l.length = 15)) :=
  ⟨⟨{ st [(Fp.fpState 3, 2)] with hclk := 1, fw := { marks := [(5, 0), (6, 1)], saving := true } }, .saved, by decide +kernel⟩,
    ⟨{ st [(Fp.fpState 3, 2)] with hclk := 1, fw := { marks := [(5, 0)], saving := true } }, by decide +kernel⟩,
    ⟨{}, by decide +kernel⟩,
    ⟨up ({ st [(Fp.fpState 3, 2)] with fw := { marks := [(5, 0)] } }), by decide +kernel⟩,
    ⟨up (st [(Fp.fpState 3, 2)]), by decide +kernel⟩,
    ⟨{ st [(Fp.fpState 3, 2), (Sett.profileSave, 1)] with hclk := 800000000 }, by decide +kernel⟩,
    ⟨{ st [(Fp.fpState 0, 2), (Loop.region 7, 3)] with loops := [(7, { hold := true })] }, 7, List.replicate 15 5, by decide +kernel⟩⟩

/-- The premises of ShelvesAndChestComplete can hold. -/
theorem witness_shelves_and_chest_complete :
    (∃ (s : State) (r : Rec) (l : List Rec), (s.shelf.queue = r :: l) ∧ (r.source < 128) ∧ (s.arb.drain.isSome = true) ∧ (s.rd Fw.fixedMode = s.fixedOf))
    ∧ (∃ (s : State) (r : Rec) (l : List Rec), (s.chest.scanned = true) ∧ (s.chest.inhibitAt = none) ∧ (s.chest.queue = r :: l) ∧ (s.chest.step = 0) ∧ ((s.chest.opening = false ∨ s.chest.erased ≠ 0)))
    ∧ (∃ (s : State), (s.chest.scanned = true) ∧ (s.chest.inhibitAt = none) ∧ (s.chest.queue ≠ []) ∧ ((s.chest.opening = false ∨ s.chest.erased ≠ 0)))
    ∧ (∃ (s : State), (s.chest.opening = true) ∧ (s.chest.erased = 0))
    ∧ (∃ (s : State), (s.chest.scanned = true) ∧ (s.chest.inhibitAt = none) ∧ (s.chest.erased < 4) ∧ (s.chest.halfErased = false))
    ∧ (∃ (s : State), (s.chest.scanned = true) ∧ (s.chest.inhibitAt = none) ∧ (s.chest.erased < 4) ∧ (s.chest.halfErased = true))
    ∧ (∃ (s : State), (s.chest.scanned = true) ∧ (s.chest.inhibitAt = none) ∧ (s.chest.erased < 4))
    ∧ (∃ (s : State) (r : ChestScan), (s.chest.scanned = false) ∧ (s.start.dirRead = true) ∧ ((s.chest.inhibitAt = none ∨ scanHalves r true = [])))
    ∧ (∃ (s : State), ((s.chest.scanned = true ∨ s.start.dirRead = false)))
    ∧ (∃ (s : State) (a : Asker) (l : List Asker), (s.chest.askers = a :: l) ∧ (s.xportOn a.x = true))
    ∧ (∃ (s : State) (a : Asker) (l : List Asker), (s.chest.dumpAskers = a :: l) ∧ (s.xportOn a.x = true))
    ∧ (∃ (s : State) (x : Nat) (r : List Nat), (s.chest.askers = []) ∧ (s.chest.fetchX = x :: r))
    ∧ (∃ (s : State) (x : Nat) (r : List Nat), (s.chest.dumpAskers = []) ∧ (s.chest.dumpX = x :: r))
    ∧ (∃ (s : State) (x : Xport), (s.answers x = true)) :=
  ⟨⟨{ shelf := { queue := [⟨0x0101, 1, 127, 1, 2, 3, 4, 5, 6, 0⟩] }, arb := { drain := some 0 } }, ⟨0x0101, 1, 127, 1, 2, 3, 4, 5, 6, 0⟩, [], by decide +kernel⟩,
    ⟨{ chest := { scanned := true, queue := [⟨0x0101, 1, 127, 1, 2, 3, 4, 5, 6, 0⟩] } }, ⟨0x0101, 1, 127, 1, 2, 3, 4, 5, 6, 0⟩, [], by decide +kernel⟩,
    ⟨{ chest := { scanned := true, queue := [⟨0x0101, 1, 127, 1, 2, 3, 4, 5, 6, 0⟩] } }, by decide +kernel⟩,
    ⟨{ chest := { opening := true } }, by decide +kernel⟩,
    ⟨{ chest := { scanned := true, erased := 3 } }, by decide +kernel⟩,
    ⟨{ chest := { scanned := true, erased := 3, halfErased := true } }, by decide +kernel⟩,
    ⟨{ chest := { scanned := true, erased := 3 } }, by decide +kernel⟩,
    ⟨{ start := { dirRead := true } }, ⟨[⟨2, some 61, List.replicate 64 0xFF, List.replicate 64 0⟩], 1, 2, 7, 9, false, true, 0, 64, [5]⟩, by decide +kernel⟩,
    ⟨{}, by decide +kernel⟩,
    ⟨up { chest := { askers := [⟨.i3c, 1, 2, 3, 4, 5, 6, 7⟩] } }, ⟨.i3c, 1, 2, 3, 4, 5, 6, 7⟩, [], by decide +kernel⟩,
    ⟨up { chest := { dumpAskers := [⟨.i3c, 1, 2, 3, 4, 5, 6, 7⟩] } }, ⟨.i3c, 1, 2, 3, 4, 5, 6, 7⟩, [], by decide +kernel⟩,
    ⟨{ chest := { fetchX := [3, 0] } }, 3, [0], by decide +kernel⟩,
    ⟨{ chest := { dumpX := [3] } }, 3, [], by decide +kernel⟩,
    ⟨up ({}), .htp, by decide +kernel⟩⟩

/-- The premises of HangStopAndDumpsComplete can hold. -/
theorem witness_hang_stop_and_dumps_complete :
    (∃ (s : State), (s.hostUp = true))
    ∧ (∃ (s : State) (v : Byte), (v ≠ 1) ∧ (s.hostUp = true))
    ∧ (∃ (s : State), (s.rd Hang.hbPeriod ≠ 0) ∧ (s.hang.missed = false) ∧ (s.hang.kickAt + 800000 * s.rdN Hang.hbPeriod ≤ s.hclk) ∧ (s.rd Hang.hangState = 0) ∧ (getField (s.rdN Hang.hangAction) 0 2 ≠ 0))
    ∧ (∃ (s : State) (x : Xport), (s.rd Hang.hangState = 0) ∧ (s.answers x = true))
    ∧ (∃ (s : State) (x : Xport), (s.rd Hang.hangState = 0) ∧ (s.answers x = true))
    ∧ (∃ (s : State) (x : Xport), (s.rd Hang.hangState = 4) ∧ (s.answers x = true))
    ∧ (∃ (s : State) (x : Xport), (s.rd Hang.hangState ≠ 4) ∧ (s.answers x = true))
    ∧ (∃ (s : State) (x : Xport), ((s.rd Hang.hangState = 2 ∨ s.rd Hang.hangState = 3)) ∧ (s.answers x = true))
    ∧ (∃ (s : State), (s.rd Hang.hangState = 1) ∧ (s.beatHclk = 800 * s.hang.cutAt))
    ∧ (∃ (s : State), ((s.rd Hang.hangState = 2 ∨ s.rd Hang.hangState = 3)) ∧ (s.hang.stamps = []) ∧ (s.hang.sectors = 0))
    ∧ (∃ (s : State), (s.chest.inhibitAt = none) ∧ (s.hang.clearing = []) ∧ (s.rd Hang.hangState = 2) ∧ (s.hang.area < 2))
    ∧ (∃ (s : State), (s.chest.inhibitAt = none) ∧ (s.hang.clearing = []) ∧ (s.rd Hang.hangState = 2))
    ∧ (∃ (s : State), (s.rd Hang.hangState = 3) ∧ (s.sectorWaits s.hang.sectors = false) ∧ (s.programsLeft ≠ []) ∧ (4032 * (s.hang.sectors + 1) < s.rdN Dump.dumpLen))
    ∧ (∃ (s : State), (s.rd Hang.hangState = 3) ∧ (s.hang.area < 2) ∧ (s.sectorWaits s.hang.sectors = false) ∧ (s.rdN Dump.dumpLen ≤ 4032 * (s.hang.sectors + 1)))
    ∧ (∃ (s : State), (s.rd Hang.hangState = 3) ∧ (s.hang.area < 2) ∧ (s.sectorWaits s.hang.sectors = false))
    ∧ (∃ (s : State), (s.rd Hang.hangState = 5) ∧ (s.hang.releaseAt ≤ s.beat))
    ∧ (∃ (s : State) (v : Byte), (v.toNat ≤ 1) ∧ (s.rd (areaState v.toNat) ≠ 1) ∧ (s.hostUp = true))
    ∧ (∃ (s : State) (v : Byte), ((1 < v.toNat ∨ s.rd (areaState v.toNat) = 1)) ∧ (s.hostUp = true)) :=
  ⟨⟨up ({}), by decide +kernel⟩,
    ⟨up ({}), 2, by decide +kernel⟩,
    ⟨{ st [(Hang.hbPeriod, 1), (Hang.hangState, 0), (Hang.hangAction, 2)] with hclk := 800000 }, by decide +kernel⟩,
    ⟨up (st [(Hang.hangState, 0)]), .htp, by decide +kernel⟩,
    ⟨up (st [(Hang.hangState, 0)]), .htp, by decide +kernel⟩,
    ⟨up (st [(Hang.hangState, 4)]), .htp, by decide +kernel⟩,
    ⟨up (st [(Hang.hangState, 3)]), .htp, by decide +kernel⟩,
    ⟨up (st [(Hang.hangState, 3)]), .htp, by decide +kernel⟩,
    ⟨{ st [(Hang.hangState, 1)] with hang := { action := 2 } }, by decide +kernel⟩,
    ⟨st [(Hang.hangState, 2)], by decide +kernel⟩,
    ⟨{ st [(Hang.hangState, 2)] with hang := { area := 1 } }, by decide +kernel⟩,
    ⟨{ st [(Hang.hangState, 2)] with hang := { area := 1, action := 2 } }, by decide +kernel⟩,
    ⟨{ st [(Hang.hangState, 3), (Dump.dumpLen, 2000000)] with hang := { sectors := 470 } }, by decide +kernel⟩,
    ⟨{ st [(Hang.hangState, 3), (Dump.dumpLen, 1899072)] with hang := { sectors := 470, action := 2, area := 1 } }, by decide +kernel⟩,
    ⟨{ st [(Hang.hangState, 3)] with hang := { sectors := 470, area := 1 } }, by decide +kernel⟩,
    ⟨{ st [(Hang.hangState, 5)] with hang := { stop := true } }, by decide +kernel⟩,
    ⟨up ({}), 1, by decide +kernel⟩,
    ⟨up ({}), 2, by decide +kernel⟩⟩

/-- The premises of HostPortCompletes can hold. -/
theorem witness_host_port_completes :
    (∃ (s : State) (a : BitVec 40) (d : Word64) (i : Nat) (sub : Nat) (w : Int), (s.reqReady = true) ∧ (0x10000 ≤ a.toNat) ∧ (dictAddr a.toNat = some (i, sub)) ∧ (i < 0xF000) ∧ (s.writeStatus i sub 0xFF = none) ∧ (storesOnly (i * 256 + sub) = true) ∧ (s.ruled 0 (i * 256 + sub) (reduceTo (tyOf (i * 256 + sub)) d.toNat) = some w) ∧ (s.earlyNow.contains (i * 256 + sub) = false))
    ∧ (∃ (s : State) (a : BitVec 40) (b : BitVec 8) (i : Nat) (sub : Nat) (e : Status), (s.reqReady = true) ∧ (0x10000 ≤ a.toNat) ∧ (dictAddr a.toNat = some (i, sub)) ∧ (i < 0xF000) ∧ (s.writeStatus i sub b.toNat = some e))
    ∧ (∃ (s : State) (a : BitVec 40), (s.reqReady = true) ∧ (0x10000 ≤ a.toNat) ∧ (dictAddr a.toNat = none))
    ∧ (∃ (s : State) (a : BitVec 40) (d : Word64) (i : Nat) (sub : Nat) (w : Int), (s.reqReady = true) ∧ (s.rd Legacy.legacyEn = 1) ∧ (a.toNat < 0xC000) ∧ (a.toNat % 8 = 0) ∧ (legacyAddr a.toNat = some (i, sub)) ∧ (storesOnly (i * 256 + sub) = true) ∧ (accOf i sub = .rws) ∧ (s.accessStatus i sub = none) ∧ (s.ruled 0 (i * 256 + sub) (reduceTo (tyOf (i * 256 + sub)) (halfMerge (s.slotWord (i * 256 + sub)) d.toNat true false)) = some w) ∧ (s.collides (i * 256 + sub) = false))
    ∧ (∃ (s : State) (a : BitVec 40) (b : BitVec 8) (i : Nat) (sub : Nat), (s.reqReady = true) ∧ (s.rd Legacy.legacyEn = 1) ∧ (a.toNat < 0xC000) ∧ (a.toNat % 8 = 0) ∧ (legacyAddr a.toNat = some (i, sub)) ∧ ((b = 0xFF ∨ b = 0x0F)) ∧ ((accOf i sub = .rw ∨ accOf i sub = .rws)) ∧ (s.collides (i * 256 + sub) = true))
    ∧ (∃ (s : State) (a : BitVec 40) (b : BitVec 8), (s.reqReady = true) ∧ (s.rd Legacy.legacyEn = 1) ∧ (0xC000 ≤ a.toNat) ∧ (a.toNat < 0xC800) ∧ (a.toNat % 8 = 0) ∧ (b ≠ 0))
    ∧ (∃ (s : State) (a : BitVec 40) (i : Nat) (sub : Nat), (s.reqReady = true) ∧ (0x10000 ≤ a.toNat) ∧ (dictAddr a.toNat = some (i, sub)) ∧ (i < 0xF000) ∧ (i ≠ 0x1220) ∧ (i ≠ 0x1221) ∧ (s.readStatus i sub = none) ∧ (accOf i sub = .rc) ∧ (i * 256 + sub ∉ levelKeys))
    ∧ (∃ (s : State) (r : Word64) (l : List Word64), (s.reqReady = true) ∧ (s.hub.ringH = r :: l))
    ∧ (∃ (s : State), (s.hostUp = true))
    ∧ (∃ (s : State) (a : Word64), (s.hostUp = true) ∧ (s.hub.stagedA = some a) ∧ ((wordA a).low ≠ 0))
    ∧ (∃ (s : State) (a : Word64), (s.hostUp = true) ∧ (s.hub.stagedA = some a) ∧ (s.discardCode false (wordA a) = none))
    ∧ (∃ (s : State) (a : Word64) (b : Word64), (s.hostUp = true) ∧ (s.hub.stagedA = some a) ∧ (s.discardCode false (wordA a) = none) ∧ ((wordA a).sched = true) ∧ (s.noTime = false) ∧ (64 * 1024 ≤ instant1024 b.toNat (wordA a).tick - s.now1024) ∧ (s.hub.sched.length < 1024))
    ∧ (∃ (s : State) (a : Word64), (s.hostUp = true) ∧ (s.hub.stagedA = some a) ∧ (s.discardCode false (wordA a) = none) ∧ ((wordA a).sched = false) ∧ (s.inRange (actOf (wordA a).kind (wordA a).inst) (wordA a).value true = false))
    ∧ (∃ (s : State), (s.host.softRst = false))
    ∧ (∃ (s : State) (v : BitVec 16), (s.hostUp = true) ∧ (v.toNat < 2 ^ 14))
    ∧ (∃ (s : State) (v : BitVec 16), (s.hostUp = true) ∧ (2 ^ 14 ≤ v.toNat))
    ∧ (∃ (s : State) (v : BitVec 16), (s.hostUp = true) ∧ (v.toNat < 2 ^ 14))
    ∧ (∃ (s : State) (v : BitVec 16), (s.hostUp = true) ∧ (2 ^ 14 ≤ v.toNat)) :=
  ⟨⟨{ start := { hubUp := true } }, (0x8000000 + 0x5080 * 2048 + 6 * 8), 0, 0x5080, 6, 1, by decide +kernel⟩,
    ⟨{ start := { hubUp := true } }, (0x8000000 + 0x5080 * 2048 + 5 * 8), 0xFF, 0x5080, 5, .access, by decide +kernel⟩,
    ⟨{ start := { hubUp := true } }, 0x10000000, by decide +kernel⟩,
    ⟨{ st [(Legacy.legacyEn, 1)] with start := { hubUp := true } }, 0x108, 0x3FFF, 0x1100, 2, 0x3FFF, by decide +kernel⟩,
    ⟨{ st [(Legacy.legacyEn, 1)] with start := { hubUp := true }, host := { wrDict := [0x110002] } }, 0x108, 0x0F, 0x1100, 2, by decide +kernel⟩,
    ⟨{ st [(Legacy.legacyEn, 1)] with start := { hubUp := true } }, 0xC000, 1, by decide +kernel⟩,
    ⟨{ st [(Ch.suspectCount 127, 9)] with start := { hubUp := true } }, (0x8000000 + 0x507F * 2048 + 0x0C * 8), 0x507F, 0x0C, by decide +kernel⟩,
    ⟨{ hub := { ringH := [0x1284066800189681], tags := [37] }, start := { hubUp := true } }, 0x1284066800189681, [], by decide +kernel⟩,
    ⟨{ start := { hubUp := true } }, by decide +kernel⟩,
    ⟨{ hub := { stagedA := some 1 }, start := { hubUp := true } }, 1, by decide +kernel⟩,
    ⟨{ st [(Act.tagSplit, 256)] with start := { hubUp := true }, hub := { stagedA := some 0 } }, 0, by decide +kernel⟩,
    ⟨{ st [(Act.tagSplit, 256)] with start := { hubUp := true }, hub := { stagedA := some 0x0040000000000000 } }, 0x0040000000000000, 1000, by decide +kernel⟩,
    ⟨{ st [(Act.tagSplit, 256)] with start := { hubUp := true }, hub := { stagedA := some (0xFFFF * 2 ^ 26) } }, (0xFFFF * 2 ^ 26), by decide +kernel⟩,
    ⟨{ start := { hubUp := true } }, by decide +kernel⟩,
    ⟨{ start := { hubUp := true } }, 0x3FFF, by decide +kernel⟩,
    ⟨{ start := { hubUp := true } }, 0x4000, by decide +kernel⟩,
    ⟨{ start := { hubUp := true } }, 0x3FFF, by decide +kernel⟩,
    ⟨{ start := { hubUp := true } }, 0x4000, by decide +kernel⟩⟩

/-- The premises of BlobAccessesComplete can hold. -/
theorem witness_blob_accesses_complete :
    (∃ (s : State) (x : Xport) (i : BitVec 16) (v : Word32), ((if x = .htp then s.hostUp else s.xportOn x) = true) ∧ (isBlob i.toNat = true) ∧ ((s.writeStatus i.toNat 2 0xFF).isNone = true) ∧ (v.toNat % 8 = 0) ∧ (v.toNat ≤ s.blobLen i.toNat))
    ∧ (∃ (s : State) (x : Xport) (i : BitVec 16) (b : Byte), ((if x = .htp then s.hostUp else s.xportOn x) = true) ∧ (blobWritable i.toNat = true) ∧ (0x10 ≤ b.toNat) ∧ ((s.writeStatus i.toNat b.toNat 0xFF).isNone = true) ∧ (kettleLive i.toNat (tabGet (fun _ => 0) s.host.cursors (xnum x * 65536 + i.toNat) / 8 + (b.toNat - 0x10)) = false) ∧ (8 * (tabGet (fun _ => 0) s.host.cursors (xnum x * 65536 + i.toNat) / 8 + (b.toNat - 0x10)) < s.blobLen i.toNat))
    ∧ (∃ (s : State) (x : Xport), ((if x = .htp then s.hostUp else s.xportOn x) = true) ∧ ((s.writeStatus 0xB040 4 0xFF).isNone = true) ∧ (s.isStaged (xnum x) 0xB040 = true) ∧ (0 ≤ s.rd 0xB04003) ∧ (s.rd 0xB04003 < 2 ^ 32))
    ∧ (∃ (s : State) (x : Xport) (i : BitVec 16) (v : Word32), ((if x = .htp then s.hostUp else s.xportOn x) = true) ∧ (blobWritable i.toNat = true) ∧ ((s.writeStatus i.toNat 4 0xFF).isNone = true) ∧ ((v.toNat : Int) ≠ s.rd (i.toNat * 256 + 3))) :=
  ⟨⟨{ start := { hubUp := true } }, .mailbox, 0x5080, 4096, by decide +kernel⟩,
    ⟨{ start := { hubUp := true } }, .mailbox, 0x5080, 0xFF, by decide +kernel⟩,
    ⟨{ host := { staging := [3 * 65536 + 0xB040], staged := [(stageKey 3 0xB040 5, 9)] }, start := { hubUp := true } }, .mailbox, by decide +kernel⟩,
    ⟨{ host := { staging := [3 * 65536 + 0xB040], staged := [(stageKey 3 0xB040 5, 9)] }, start := { hubUp := true } }, .mailbox, 0xB040, 7, by decide +kernel⟩⟩

/-- The premises of MctpDictionaryMessagesComplete can hold. -/
theorem witness_mctp_dictionary_messages_complete :
    (∃ (s : State) (x : Xport) (m : DictMsg), (s.xportOn x = true) ∧ (s.msgTurn x m = true) ∧ (m.idx.toNat < 0xF000) ∧ ((s.taken x m 1).msgCheck 1 m = none) ∧ (lengthOk m 0 = true) ∧ ((msgSubs m).all (fun u => ((s.taken x m 1).readStatus m.idx.toNat u).isNone) = true))
    ∧ (∃ (s : State) (x : Xport) (m : DictMsg), (s.xportOn x = true) ∧ (s.msgTurn x m = true) ∧ (m.idx.toNat < 0xF000) ∧ (((s.taken x m 2).hostWrites m).xportOn x = true) ∧ ((s.taken x m 2).msgCheck 2 m = none) ∧ (lengthOk m (9 * m.count.toNat) = true) ∧ (((s.taken x m 2).hostWrites m).writeFail (xnum x) m = none))
    ∧ (∃ (s : State) (x : Xport) (m : DictMsg) (w : Int), (s.xportOn x = true) ∧ (s.msgTurn x m = true) ∧ (m.idx.toNat < 0xF000) ∧ (((s.taken x m 2).hostWrites m).xportOn x = true) ∧ ((s.taken x m 2).msgCheck 2 m = none) ∧ (m.count = 1) ∧ (lengthOk m 9 = true) ∧ (((s.taken x m 2).hostWrites m).writeStatus m.idx.toNat m.sub.toNat 0xFF = none) ∧ (msgStrobe m 0 = 0xFF) ∧ (storesOnly (m.idx.toNat * 256 + m.sub.toNat) = true) ∧ (((s.taken x m 2).hostWrites m).ruled (xnum x) (m.idx.toNat * 256 + m.sub.toNat) (reduceTo (tyOf (m.idx.toNat * 256 + m.sub.toNat)) (msgSlot m 0)) = some w))
    ∧ (∃ (s : State) (x : Xport) (m : DictMsg) (k : Nat) (e : Status), (s.xportOn x = true) ∧ (s.msgTurn x m = true) ∧ (m.idx.toNat < 0xF000) ∧ (((s.taken x m 2).hostWrites m).xportOn x = true) ∧ ((s.taken x m 2).msgCheck 2 m = none) ∧ (lengthOk m (9 * m.count.toNat) = true) ∧ (((s.taken x m 2).hostWrites m).writeFail (xnum x) m = some (k, e)) ∧ (e ≠ .busy))
    ∧ (∃ (s : State) (x : Xport) (m : DictMsg), (s.xportOn x = true) ∧ (s.msgTurn x m = true) ∧ ((s.taken x m 3).msgCheck 3 m = none) ∧ (m.body.length = 6) ∧ (1 ≤ leNat (m.body.drop 4)) ∧ (leNat (m.body.drop 4) ≤ 2048) ∧ ((s.taken x m 3).blockStatus m.idx.toNat = none) ∧ (m.idx = 0xA011))
    ∧ (∃ (s : State) (x : Xport) (m : DictMsg), (s.xportOn x = true) ∧ (s.msgTurn x m = true) ∧ (m.idx.toNat < 0xF000) ∧ ((s.taken x m 3).msgCheck 3 m = none) ∧ (m.body.length = 6) ∧ (1 ≤ leNat (m.body.drop 4)) ∧ (leNat (m.body.drop 4) ≤ 2048) ∧ ((s.taken x m 3).blockStatus m.idx.toNat = none) ∧ (m.idx ≠ 0xA011) ∧ (m.idx ≠ 0xA031))
    ∧ (∃ (s : State) (x : Xport) (m : DictMsg), (s.xportOn x = true) ∧ (s.msgTurn x m = true) ∧ ((s.taken x m 4).msgCheck 4 m = none) ∧ (m.idx = 0xB040) ∧ (6 ≤ m.body.length) ∧ ((m.body.drop 6).length = leNat ((m.body.drop 4).take 2)) ∧ ((s.taken x m 4).blockStatus 0xB040 = none) ∧ (leNat (m.body.take 4) + leNat ((m.body.drop 4).take 2) ≤ 512) ∧ (1 ≤ leNat ((m.body.drop 4).take 2)) ∧ (s.blobLen 0xB040 = 512))
    ∧ (∃ (s : State) (x : Xport) (m : DictMsg), (s.xportOn x = true) ∧ (s.msgTurn x m = true) ∧ ((s.taken x m 5).msgCheck 5 m = none) ∧ (m.body.length = 16))
    ∧ (∃ (s : State) (x : Xport) (m : DictMsg), (s.xportOn x = true) ∧ (s.msgTurn x m = true) ∧ ((s.taken x m 6).msgCheck 6 m = none) ∧ (1 ≤ m.count.toNat) ∧ (m.count.toNat ≤ 32) ∧ (m.body = []))
    ∧ (∃ (s : State) (pk : Packet), (s.xportOn .smbus = true) ∧ (pk.pecGood = false))
    ∧ (∃ (s : State) (x : Xport) (pk : Packet) (b : List Byte), (s.xportOn x = true) ∧ (x ≠ .mailbox) ∧ (pk.pecGood = true) ∧ (pk.som = true) ∧ (pk.eom = true) ∧ (s.forUs pk = true) ∧ (s.host.asm = []) ∧ (pk.payload = 0x7F :: b) ∧ (pk.payload.length ≤ 64) ∧ (12 ≤ b.length) ∧ (1 ≤ leNat ((b.drop 5).take 1)) ∧ (leNat ((b.drop 5).take 1) ≤ 6) ∧ (s.inFlight < 64)) :=
  ⟨⟨{ start := { hubUp := true } }, .i3c, ⟨1, 2, Config.ianaPen, 1, 2, 0x5080, 5, []⟩, by decide +kernel, by decide +kernel, by decide +kernel, by simp [State.msgCheck]; decide +kernel, by decide +kernel, by decide +kernel⟩,
    ⟨{ start := { hubUp := true } }, .i3c, ⟨1, 2, Config.ianaPen, 1, 1, 0x5080, 6, [7, 0, 0, 0, 0, 0, 0, 0, 0xFF]⟩, by decide +kernel, by decide +kernel, by decide +kernel, by decide +kernel, by simp [State.msgCheck]; decide +kernel, by decide +kernel, by decide +kernel⟩,
    ⟨{ start := { hubUp := true } }, .i3c, ⟨1, 2, Config.ianaPen, 1, 1, 0x5080, 6, [7, 0, 0, 0, 0, 0, 0, 0, 0xFF]⟩, 7, by decide +kernel, by decide +kernel, by decide +kernel, by decide +kernel, by simp [State.msgCheck]; decide +kernel, by decide +kernel, by decide +kernel, by decide +kernel, by decide +kernel, by decide +kernel, by decide +kernel⟩,
    ⟨{ start := { hubUp := true } }, .i3c, ⟨1, 2, Config.ianaPen, 1, 1, 0x5080, 5, [7, 0, 0, 0, 0, 0, 0, 0, 0xFF]⟩, 0, .access, by decide +kernel, by decide +kernel, by decide +kernel, by decide +kernel, by simp [State.msgCheck]; decide +kernel, by decide +kernel, by decide +kernel, by decide +kernel⟩,
    ⟨{ start := { hubUp := true } }, .i3c, ⟨1, 2, Config.ianaPen, 1, 1, 0xA011, 0, [32, 0, 0, 0, 64, 0]⟩, by decide +kernel, by decide +kernel, by simp [State.msgCheck]; decide +kernel, by decide +kernel, by decide +kernel, by decide +kernel, by decide +kernel, by decide +kernel⟩,
    ⟨{ start := { hubUp := true } }, .i3c, ⟨1, 2, Config.ianaPen, 1, 1, 0xB040, 0, [32, 0, 0, 0, 64, 0]⟩, by decide +kernel, by decide +kernel, by decide +kernel, by simp [State.msgCheck]; decide +kernel, by decide +kernel, by decide +kernel, by decide +kernel, by decide +kernel, by decide +kernel, by decide +kernel⟩,
    ⟨{ start := { hubUp := true } }, .i3c, ⟨1, 2, Config.ianaPen, 1, 1, 0xB040, 0, [3, 0, 0, 0, 2, 0, 77, 88]⟩, by decide +kernel, by decide +kernel, by simp [State.msgCheck]; decide +kernel, by decide +kernel, by decide +kernel, by decide +kernel, by decide +kernel, by decide +kernel, by decide +kernel, by decide +kernel⟩,
    ⟨{ start := { hubUp := true } }, .i3c, ⟨1, 2, Config.ianaPen, 1, 1, 0, 0, List.replicate 16 0⟩, by decide +kernel, by decide +kernel, by simp [State.msgCheck]; decide +kernel, by decide +kernel⟩,
    ⟨{ hub := { ringM := [5, 6, 7] }, start := { hubUp := true } }, .i3c, ⟨1, 2, Config.ianaPen, 1, 2, 0, 0, []⟩, by decide +kernel, by decide +kernel, by simp [State.msgCheck]; decide +kernel, by decide +kernel, by decide +kernel, by decide +kernel⟩,
    ⟨{ start := { hubUp := true } }, ⟨1, 2, true, true, 0, true, 0, [], false, false⟩, by decide +kernel⟩,
    ⟨{ start := { hubUp := true } }, .i3c, ⟨1, 0, true, true, 0, true, 5, 0x7F :: [0, 0, 0, 0, 1, 1, 0, 1, 0, 0x10, 1, 0], true, false⟩, [0, 0, 0, 0, 1, 1, 0, 1, 0, 0x10, 1, 0], by decide +kernel⟩⟩

/-- The premises of MctpControlAndAlertsComplete can hold. -/
theorem witness_mctp_control_and_alerts_complete :
    (∃ (s : State) (x : Xport) (e : Byte), (s.xportOn x = true) ∧ (8 ≤ e.toNat) ∧ (e.toNat ≤ 254))
    ∧ (∃ (s : State) (x : Xport) (e : Byte), (s.xportOn x = true) ∧ ((e.toNat < 8 ∨ e.toNat = 255)))
    ∧ (∃ (s : State) (x : Xport), (s.xportOn x = true))
    ∧ (∃ (s : State) (x : Xport), (s.xportOn x = true))
    ∧ (∃ (s : State) (x : Xport), (s.xportOn x = true))
    ∧ (∃ (s : State), (s.xportOn .i3c = true))
    ∧ (∃ (s : State), (s.smbAlert = true) ∧ (s.xportOn .smbus = true))
    ∧ (∃ (s : State), (s.rd Xport.notifyEid ≠ 0) ∧ (s.notifyNow ≠ []) ∧ (s.xportOn s.notifyXport = true)) :=
  ⟨⟨{ start := { hubUp := true } }, .smbus, 254, by decide +kernel⟩,
    ⟨{ start := { hubUp := true } }, .smbus, 255, by decide +kernel⟩,
    ⟨{ start := { hubUp := true } }, .smbus, by decide +kernel⟩,
    ⟨{ start := { hubUp := true } }, .smbus, by decide +kernel⟩,
    ⟨{ start := { hubUp := true } }, .smbus, by decide +kernel⟩,
    ⟨{ start := { hubUp := true } }, by decide +kernel⟩,
    ⟨{ smbAlert := true, start := { hubUp := true } }, by decide +kernel⟩,
    ⟨{ st [(Xport.notifyEid, 9)] with notify := [3], start := { hubUp := true }, host := { heard := [(9, .i3c)] } }, by decide +kernel⟩⟩

/-- The premises of StepTakesTheFrontCommand can hold. -/
theorem witness_step_takes_the_front_command :
    (∃ (s : State) (c : Instr) (l : List Instr), (s.pending = c :: l))
    ∧ (∃ (s : State), (s.pending = [])) :=
  ⟨⟨{ pending := [.kettleUpdate] }, .kettleUpdate, [], by decide +kernel⟩,
    ⟨{}, by decide +kernel⟩⟩

/-- The premises of DictionaryAddressesFollowR84 can hold. -/
theorem witness_dictionary_addresses_follow_r84 :
    (∃ (a : Nat) (i : Nat) (b : Nat), (dictAddr a = some (i, b)))
    ∧ (∃ (a : Nat), ((a < 0x08000000 ∨ 0x10000000 ≤ a))) :=
  ⟨⟨0x0FFFFFF8, 0xFFFF, 0xFF, by decide +kernel⟩,
    ⟨0x10000000, by decide +kernel⟩⟩

/-- The premises of LadderLevelFollowsR36 can hold. -/
theorem witness_ladder_level_follows_r36 :
    (∃ (s : State) (t : State), (step s = .next t)) :=
  ⟨{ pending := [.kettleCorrection] }, State.settle {}, rfl⟩

/-- The premises of InterruptLineFollowsR52 can hold. -/
theorem witness_interrupt_line_follows_r52 :
    (∃ (s : State) (t : State), (step s = .next t)) :=
  ⟨{ pending := [.kettleCorrection] }, State.settle {}, rfl⟩

/-- The premises of LevelsHoldAfterEveryStep can hold. -/
theorem witness_levels_hold_after_every_step :
    (∃ (s : State) (t : State), (step s = .next t)) :=
  ⟨{ pending := [.kettleCorrection] }, State.settle {}, rfl⟩

/-- The premises of RunsStopOnlyAtProductionTest can hold. -/
theorem witness_runs_stop_only_at_production_test :
    (∃ (c : Instr) (s : State) (f : Refusal), (exec c s = .refused f)) :=
  ⟨.readClear (0x8000000 + 0xF000 * 2048) 0, { st [(Lc.lcState, 1)] with start := { hubUp := true } }, .vendorReserved, by unfold exec execReadClear; rfl⟩

/-- The premises of ResolverFollowsR31 can hold. -/
theorem witness_resolver_follows_r31 :
    (∃ (s : State) (a : Nat), (s.minCode a ≤ s.maxCode a))
    ∧ (∃ (s : State) (a : Nat) (r : Nat) (rl : Int) (rh : Int), (1 ≤ r) ∧ (r ≤ 8) ∧ ((∀ q, 1 ≤ q → q < r → (s.contribR q a).range = none)) ∧ ((s.contribR r a).range = some (rl, rh)) ∧ (s.minCode a ≤ rl) ∧ (rl ≤ rh) ∧ (rh ≤ s.maxCode a)) :=
  ⟨⟨{ hub := { lad := [(6 * 65536 + 3 * 4096, ⟨some (1, 5), none⟩), (8 * 65536 + 3 * 4096, ⟨none, some 16⟩)] } }, 3 * 4096, by decide +kernel⟩,
    ⟨{ hub := { lad := [(2 * 65536 + 3 * 4096, ⟨some (1, 5), none⟩), (8 * 65536 + 3 * 4096, ⟨none, some 16⟩)] } }, 3 * 4096, 2, 1, 5, by decide, by decide, fun q h1 h2 => by obtain rfl : q = 1 := (by omega); exact (by decide +kernel), by decide +kernel, by decide +kernel, by decide +kernel, by decide +kernel⟩⟩

/-- The premises of SubmissionsAreDiscardedInTheOrderOfR108 can hold. -/
theorem witness_submissions_are_discarded_in_the_order_of_r108 :
    (∃ (s : State), (s.hostUp = true) ∧ (s.hub.stagedA = none))
    ∧ (∃ (s : State) (a : Word64), (s.hostUp = true) ∧ (s.hub.stagedA = some a) ∧ ((wordA a).low ≠ 0 ∨ 2 < (wordA a).kind ∨ kindCount (wordA a).kind ≤ (wordA a).inst ∨ s.rdN Act.tagSplit ≤ (wordA a).tag ∨ (wordA a).tag ∈ s.hub.tags))
    ∧ (∃ (s : State) (x : Xport) (m : DictMsg) (w : WordA), (s.xportOn x = true) ∧ (s.msgTurn x m = true) ∧ ((s.taken x m 5).msgCheck 5 m = none) ∧ (m.body.length = 16) ∧ (w = wordA (BitVec.ofNat 64 (leNat (m.body.take 8)))) ∧ ((w.low ≠ 0 ∨ 2 < w.kind ∨ kindCount w.kind ≤ w.inst ∨ w.tag < s.rdN Act.tagSplit ∨ w.tag ∈ s.hub.tags)))
    ∧ (∃ (s : State) (a : Word64), (s.hostUp = true) ∧ (s.hub.stagedA = some a) ∧ (s.discardCode false (wordA a) = none) ∧ ((wordA a).sched = false) ∧ (s.inRange (actOf (wordA a).kind (wordA a).inst) (wordA a).value true = false))
    ∧ (∃ (s : State) (x : Xport) (m : DictMsg) (w : WordA), (s.xportOn x = true) ∧ (s.msgTurn x m = true) ∧ ((s.taken x m 5).msgCheck 5 m = none) ∧ (m.body.length = 16) ∧ (w = wordA (BitVec.ofNat 64 (leNat (m.body.take 8)))) ∧ (s.discardCode true w = none) ∧ (w.sched = false) ∧ (s.inRange (actOf w.kind w.inst) w.value true = false)) :=
  ⟨⟨{ start := { hubUp := true } }, by decide +kernel⟩,
    ⟨{ st [(Act.tagSplit, 256)] with hub := { stagedA := some 0, tags := [0] }, start := { hubUp := true } }, 0, by decide +kernel⟩,
    ⟨{ start := { hubUp := true } }, .i3c, ⟨1, 2, Config.ianaPen, 1, 1, 0, 0, 1 :: List.replicate 15 0⟩, ⟨0, false, 0, 0, 0, 0, 1⟩, by decide +kernel, by decide +kernel, by simp [State.msgCheck]; decide +kernel, by decide +kernel, by decide +kernel, by decide +kernel⟩,
    ⟨{ st [(Act.tagSplit, 256)] with hub := { stagedA := some (BitVec.ofNat 64 (3 * 2 ^ 26)) }, start := { hubUp := true } }, BitVec.ofNat 64 (3 * 2 ^ 26), by decide +kernel⟩,
    ⟨{ start := { hubUp := true } }, .i3c, ⟨1, 2, Config.ianaPen, 1, 1, 0, 0, [0, 0, 0, 12, 0, 0, 128, 255] ++ List.replicate 8 0⟩, ⟨511, false, 0, 0, 3, 0, 0⟩, by decide +kernel, by decide +kernel, by simp [State.msgCheck]; decide +kernel, by decide +kernel, by decide +kernel, by decide +kernel, by decide +kernel, by decide +kernel⟩⟩

/-- The premises of ScheduledSubmissionsAreCheckedInTheOrderOfR21 can hold. -/
theorem witness_scheduled_submissions_are_checked_in_the_order_of_r21 :
    (∃ (s : State) (a : Word64) (b : Word64), (s.hostUp = true) ∧ (s.hub.stagedA = some a) ∧ (s.discardCode false (wordA a) = none) ∧ ((wordA a).sched = true) ∧ ((s.noTime = true ∨ instant1024 b.toNat (wordA a).tick - s.now1024 < -(1000 * 800 * 1024))))
    ∧ (∃ (s : State) (a : Word64) (b : Word64), (s.hostUp = true) ∧ (s.hub.stagedA = some a) ∧ (s.discardCode false (wordA a) = none) ∧ ((wordA a).sched = true) ∧ (s.noTime = false) ∧ (-(1000 * 800 * 1024) ≤ instant1024 b.toNat (wordA a).tick - s.now1024) ∧ (instant1024 b.toNat (wordA a).tick - s.now1024 < 64 * 1024))
    ∧ (∃ (s : State) (a : Word64) (b : Word64), (s.hostUp = true) ∧ (s.hub.stagedA = some a) ∧ (s.discardCode false (wordA a) = none) ∧ ((wordA a).sched = true) ∧ (s.noTime = false) ∧ (64 * 1024 ≤ instant1024 b.toNat (wordA a).tick - s.now1024) ∧ (1024 ≤ s.hub.sched.length))
    ∧ (∃ (s : State) (a : Word64) (b : Word64), (s.hostUp = true) ∧ (s.hub.stagedA = some a) ∧ (s.discardCode false (wordA a) = none) ∧ ((wordA a).sched = true) ∧ (s.noTime = false) ∧ (64 * 1024 ≤ instant1024 b.toNat (wordA a).tick - s.now1024) ∧ (s.hub.sched.length < 1024)) :=
  ⟨⟨{ st [(Act.tagSplit, 256), (Node.nodeRole, 1), (Node.alignState, 0)] with hub := { stagedA := some (BitVec.ofNat 64 (2 ^ 54)) }, start := { hubUp := true } }, BitVec.ofNat 64 (2 ^ 54), 5, by decide +kernel⟩,
    ⟨{ st [(Act.tagSplit, 256), (Node.nodeRole, 0)] with hub := { stagedA := some (BitVec.ofNat 64 (2 ^ 54)) }, start := { hubUp := true } }, BitVec.ofNat 64 (2 ^ 54), 0, by decide +kernel⟩,
    ⟨{ st [(Act.tagSplit, 256), (Node.nodeRole, 0)] with hub := { stagedA := some (BitVec.ofNat 64 (2 ^ 54)), sched := List.replicate 1024 ⟨⟨none, 0, 8, 0, 0, false⟩, 9, 0, 0, false, none⟩ }, start := { hubUp := true } }, BitVec.ofNat 64 (2 ^ 54), 5, by decide +kernel⟩,
    ⟨{ st [(Act.tagSplit, 256), (Node.nodeRole, 0)] with hub := { stagedA := some (BitVec.ofNat 64 (2 ^ 54)) }, start := { hubUp := true } }, BitVec.ofNat 64 (2 ^ 54), 5, by decide +kernel⟩⟩

/-- The premises of ShelvesFollowR411 can hold. -/
theorem witness_shelves_follow_r411 :
    (∃ (s : State) (r : Rec) (l : List Rec), (s.shelf.queue = r :: l) ∧ (r.source < 128) ∧ (s.arb.drain.isSome = true))
    ∧ (∃ (s : State) (u : Nat) (j : Nat) (r : Rec), (u < 128) ∧ (j < 64) ∧ (s.shelf.slots = [(u * 64 + j, r)])) :=
  ⟨⟨{ shelf := { queue := [⟨0x0101, 1, 127, 1, 2, 3, 4, 5, 6, 0⟩] }, arb := { drain := some 0 } }, ⟨0x0101, 1, 127, 1, 2, 3, 4, 5, 6, 0⟩, [], by decide +kernel⟩,
    ⟨{ shelf := { slots := [(127 * 64 + 63, ⟨0x0101, 1, 127, 1, 2, 3, 4, 5, 6, 0⟩)] } }, 127, 63, ⟨0x0101, 1, 127, 1, 2, 3, 4, 5, 6, 0⟩, by decide +kernel⟩⟩

/-- The premises of CompletionRecordsAndWordsFollowTheirLayouts can hold. -/
theorem witness_completion_records_and_words_follow_their_layouts :
    (∃ (tag : Nat) (kind : Nat) (inst : Nat) (value : Nat) (tick : Nat) (low : Nat), (tag < 2 ^ 9) ∧ (kind < 2 ^ 4) ∧ (inst < 2 ^ 8) ∧ (value < 2 ^ 16) ∧ (tick < 2 ^ 10) ∧ (low < 2 ^ 16))
    ∧ (∃ (tag : Nat) (outcome : Nat) (source : Nat) (value : Nat) (tick : Nat), (tag < 2 ^ 9) ∧ (outcome < 2 ^ 4) ∧ (source < 2 ^ 4) ∧ (value < 2 ^ 16) ∧ (tick < 2 ^ 10)) :=
  ⟨⟨511, 15, 255, 65535, 1023, 65535, by decide +kernel⟩,
    ⟨511, 15, 15, 65535, 1023, by decide +kernel⟩⟩

/-- The premises of ReconciliationSharesTheWholeDifference can hold. -/
theorem witness_reconciliation_shares_the_whole_difference :
    (∃ (est : List (Nat × Int)), (est ≠ []) ∧ ((est.map (fun x => x.1)).Nodup)) :=
  ⟨[(3, 10), (5, 20), (9, 20)], by decide +kernel⟩

/-- The premises of CollectiveFactorFollowsR325 can hold. -/
theorem witness_collective_factor_follows_r325 :
    (∃ (m : Nat × Nat), (m.1 < 3))
    ∧ (∃ (c : Int) (d : Int) (f : Int), (c ≠ 2 ^ 64 - 1) ∧ (0 ≤ f) ∧ (f ≤ c) ∧ (c < d))
    ∧ (∃ (c : Int) (d : Int) (f : Int), (0 ≤ c) ∧ (c < f) ∧ (c ≠ 2 ^ 64 - 1) ∧ (f ≤ d)) :=
  ⟨⟨(1, 19114), by decide +kernel⟩,
    ⟨14, 19, 7, by decide +kernel⟩,
    ⟨5, 19, 7, by decide⟩⟩

/-- The premises of GongTripsOnASecondHotRound can hold. -/
theorem witness_gong_trips_on_a_second_hot_round :
    (∃ (s : State) (i : HkIn), (s.hkDue = true) ∧ (s.rd (Ch.chKind s.hkChan) = 1) ∧ (s.rd (Ch.chStatus s.hkChan) = 0) ∧ (s.hkFault s.hkChan i = false) ∧ (s.rd Gong.gongLevel = 2000) ∧ (2000 ≤ s.hkRead s.hkChan i) ∧ (s.gong.prevHot = true) ∧ (s.rd Gong.gongState = 0))
    ∧ (∃ (s : State) (i : HkIn), (s.hkDue = true) ∧ (s.rd (Ch.chKind s.hkChan) = 1) ∧ (s.rd (Ch.chStatus s.hkChan) = 0) ∧ (s.hkFault s.hkChan i = false) ∧ (s.rd Gong.gongLevel = 2000) ∧ (2000 ≤ s.hkRead s.hkChan i) ∧ (s.gong.prevHot = false)) :=
  ⟨⟨{ st [(Ch.chKind 127, 1), (Ch.chStatus 127, 0), (Gong.gongLevel, 2000), (Gong.gongMode, 1)] with hclk := 204800, hk := { running := true }, gong := { prevHot := true } }, ⟨9, 60000, 600000, 500000⟩, by decide +kernel⟩,
    ⟨{ st [(Ch.chKind 127, 1), (Ch.chStatus 127, 0), (Gong.gongLevel, 2000)] with hclk := 204800, hk := { running := true } }, ⟨9, 60000, 600000, 500000⟩, by decide +kernel⟩⟩

/-- The premises of ThirdCrashMakesAProcessorDown can hold. -/
theorem witness_third_crash_makes_a_processor_down :
    (∃ (s : State) (k : Fin 4), (s.rd (Fp.fpState k) = 2) ∧ ((s.fp k).halted = false) ∧ (s.fw.act.phase = 0) ∧ (s.unconfirmed = false) ∧ ((s.crashesNow k).length = 2)) :=
  ⟨{ st [(Fp.fpState 3, 2), (Fw.activeSlot, 0), (Slot.slotState 0, 3)] with beatHclk := 8000, fw := { fps := [(3, { crashes := [1, 2] })] } }, 3, by decide +kernel⟩

/-- The premises of TelemetryBucketIsBounded can hold. -/
theorem witness_telemetry_bucket_is_bounded :
    (∃ (s : State) (t : State), (s.pending = []) ∧ (s.shared = false) ∧ (step s = .next t)) :=
  ⟨{ dict := [(EnTel.sharedMode, 0)], start := { released := true } }, State.settle (State.tickHclk { dict := [(EnTel.sharedMode, 0)], start := { released := true } }), rfl, by decide +kernel, rfl⟩

/-- The premises of SensorPhaseAndPinCommandsTouchOneUnit can hold. -/
theorem witness_sensor_phase_and_pin_commands_touch_one_unit :
    (∃ (p : Fin 96) (i : ImonIn), (i.phase = p)) :=
  ⟨95, ⟨95, 0⟩, by decide +kernel⟩

/-- The premises of TelemetryAndEnergyCommandsLeaveTheRest can hold. -/
theorem witness_telemetry_and_energy_commands_leave_the_rest :
    (∃ (s : State) (tag : BitVec 5) (e : TipWrite), (s.tipOf tag.toNat = some e))
    ∧ (∃ (s : State) (tag : BitVec 5), (s.tipOf tag.toNat = none)) :=
  ⟨⟨{ tel := { out := [⟨14, 3, 31⟩] } }, 31, ⟨14, 3, 31⟩, by decide +kernel⟩,
    ⟨{}, 31, by decide +kernel⟩⟩
end

section
/-! Proofs, the levels after a command: what each part of `State.settle` writes, and that it leaves the levels up to the state (R36, R37,
R52, R103, R105, R109, R111, R369). -/

namespace Sys2Proof.Machine

/-! ### Values that their type holds -/

/-- An unsigned sub keeps a value within its width. -/
theorem fit_of_lt {k b : Nat} {v : Int} (hty : tyOf k = .u b) (h0 : 0 ≤ v) (h1 : v < 2 ^ (8 * b)) : fit k v = v :=
  fit_of_fits k v (by rw [hty]; exact Int.emod_eq_of_lt h0 h1)

/-! ### Masks over the rails -/

/-- A mask over the first n places stays below 2^n. -/
theorem foldMask_lt (f : Nat → Bool) (n : Nat) : (List.range n).foldl (fun m i => if f i then m + 2 ^ i else m) 0 < 2 ^ n := by
  induction n with
  | zero => exact Nat.one_pos
  | succ n ih =>
    rw [List.range_succ, List.foldl_append, List.foldl_cons, List.foldl_nil, Nat.pow_succ]
    split <;> omega

/-- A mask over the first n places is 0 where no place has the condition. -/
theorem foldMask_eq_zero (f : Nat → Bool) (n : Nat) :
    (List.range n).foldl (fun m i => if f i then m + 2 ^ i else m) 0 = 0 ↔ ∀ i, i < n → f i = false := by
  induction n with
  | zero => simp
  | succ n ih =>
    rw [List.range_succ, List.foldl_append, List.foldl_cons, List.foldl_nil, Nat.forall_lt_succ_right, ← ih]
    have := Nat.two_pow_pos n
    split <;> rename_i h
    · simp [h]
    · simp [h]

theorem railMask_lt (f : Nat → Bool) : railMask f < 256 := foldMask_lt f 8

theorem railMask_eq_zero (f : Nat → Bool) : railMask f = 0 ↔ ∀ n, n < 8 → f n = false := foldMask_eq_zero f 8

theorem railMask_ne_zero {f : Nat → Bool} (h : ∃ n, n < 8 ∧ f n = true) : railMask f ≠ 0 := fun e => by
  obtain ⟨n, hn, hf⟩ := h
  exact absurd hf (by simp [(railMask_eq_zero f).mp e n hn])

/-- A mask of the rails fits a byte. -/
theorem fit_railMask {k : Nat} (hty : tyOf k = .u 1) (f : Nat → Bool) : fit k (railMask f : Nat) = (railMask f : Nat) :=
  fit_of_lt hty (Int.natCast_nonneg _) (by have := railMask_lt f; omega)

/-! ### The level and the alarms as values -/

/-- The ladder level lies between 1 and 6 (R36). -/
theorem levelOf_bounds (s : State) : 1 ≤ s.levelOf ∧ s.levelOf ≤ 6 := by
  unfold State.levelOf
  repeat' split
  all_goals decide

theorem ite_zero_le (p : Prop) [Decidable p] (n : Nat) : (if p then n else 0) ≤ n := by split <;> omega

/-- Eleven alarm bits are assigned (1101). -/
theorem alarmsOf_le (s : State) : s.alarmsOf ≤ 2047 := by
  unfold State.alarmsOf
  have h : 2047 = 1 + 2 + 4 + 8 + 16 + 32 + 64 + 128 + 256 + 512 + 1024 := rfl
  rw [h]
  apply_rules [Nat.add_le_add, ite_zero_le]

/-- Fixed mode is a bit (R369). -/
theorem fixedOf_bounds (s : State) : 0 ≤ s.fixedOf ∧ s.fixedOf ≤ 1 := by
  unfold State.fixedOf
  split <;> decide

/-! ### What each part of bringing the levels up writes -/

/-- A record enters the queue and counts losses: the dictionary and the shelf alone (R412). -/
theorem recordAt_eq (s : State) (i : Stamp) (fw : Bool) (src code : Nat) (p1 p2 p3 : Int) :
    s.recordAt i fw src code p1 p2 p3
      = { s with dict := (s.recordAt i fw src code p1 p2 p3).dict, shelf := (s.recordAt i fw src code p1 p2 p3).shelf } := by
  unfold State.recordAt
  simp only
  split <;> rfl

theorem settleFp_eq (s : State) : s.settleFp = { s with dict := s.settleFp.dict, shelf := s.settleFp.shelf } := by
  unfold State.settleFp
  simp only
  split
  · rfl
  · unfold State.record
    rw [recordAt_eq]
    rfl

theorem settleAlarms_eq (s : State) :
    s.settleAlarms = { s with dict := s.settleAlarms.dict, lostNow := s.settleAlarms.lostNow, notify := s.settleAlarms.notify } := by
  unfold State.settleAlarms
  split <;> rfl

theorem settleLevel_eq (s : State) : s.settleLevel = { s with dict := s.settleLevel.dict } := by
  unfold State.settleLevel
  simp only
  split <;> rfl

@[simp] theorem rd_settleTaint (s : State) (k : Nat) : s.settleTaint.rd k = s.rd k := rfl
@[simp] theorem rd_settleQuiet (s : State) (k : Nat) : s.settleQuiet.rd k = s.rd k := rfl
@[simp] theorem rd_settleIrq (s : State) (k : Nat) : s.settleIrq.rd k = s.rd k := rfl

@[simp] theorem rd_settleNotify (s : State) (k : Nat) : s.settleNotify.rd k = s.rd k := by
  unfold State.settleNotify
  split <;> rfl

theorem rd_settleUpd_ne (s : State) (k : Nat) (h : k ∉ [Upd.updState, Irq.irqStatus]) : s.settleUpd.rd k = s.rd k := by
  simp only [List.mem_cons, List.not_mem_nil, or_false, not_or] at h
  unfold State.settleUpd
  split
  · rfl
  · rw [rd_cause_ne _ _ _ h.2, rd_wr_ne _ _ _ _ h.1]

/-- The subs of the rings, the tags, the record queue and the messages in flight. -/
def ringSubs : List Nat :=
  [Ring.cqDepth 0, Ring.cqDepth 1, Ring.cqPeek 0, Ring.cqPeek 1, Act.actInflight, Ev.recqDepth, Ev.recqMax, DictSt.dictInflight]

theorem rd_settleRings_ne (s : State) (k : Nat) (h : k ∉ ringSubs) : s.settleRings.rd k = s.rd k := by
  simp only [ringSubs, List.mem_cons, List.not_mem_nil, or_false, not_or] at h
  simp [State.settleRings, rd_wr_ne, h]

/-- The subs of the ladder and its rungs, and the cause of a change. -/
def ladderSubs : List Nat :=
  [Ladder.ladderLevel, Ladder.levelSince, Ladder.levelChanges, Ladder.rungsActive, Alarm.rung2Rails, Alarm.rung4Rails, Alarm.rung5Rails,
    Irq.irqStatus]

theorem rd_settleLevel_ne (s : State) (k : Nat) (h : k ∉ ladderSubs) : s.settleLevel.rd k = s.rd k := by
  simp only [ladderSubs, List.mem_cons, List.not_mem_nil, or_false, not_or] at h
  unfold State.settleLevel
  simp only
  split <;> simp [rd_wr_ne, rd_cause_ne, rd_bump_ne, h]

/-- The subs of the alarms, and the cause of a new one. -/
def alarmSubs : List Nat := [Alarm.alarmLatched, Alarm.alarmActive, Irq.irqStatus]

theorem rd_settleAlarms_ne (s : State) (k : Nat) (h : k ∉ alarmSubs) : s.settleAlarms.rd k = s.rd k := by
  simp only [alarmSubs, List.mem_cons, List.not_mem_nil, or_false, not_or] at h
  have hl : s.seenLost.rd k = s.rd k := rfl
  have hn : ∀ (t : State) l, (t.toNotify l).rd k = t.rd k := fun _ _ => rfl
  unfold State.settleAlarms
  split <;> simp [hn, hl, rd_wr_ne, rd_cause_ne, h]

/-! ### A level is written in one part and stands through the later ones -/

/-- The subs of the parts after the rings. -/
def lastSubs : List Nat := [Upd.updState, Irq.irqStatus, EnTel.sharedEff]

theorem rd_settle_of_rings (s : State) (k : Nat) (h : k ∉ lastSubs) :
    s.settle.rd k = s.settleFp.settleAlarms.settleLevel.settleRings.rd k := by
  simp only [lastSubs, List.mem_cons, List.not_mem_nil, or_false, not_or] at h
  unfold State.settle
  rw [rd_settleIrq, rd_settleNotify, rd_settleUpd_ne _ _ (by simp [h]), rd_settleQuiet, rd_settleTaint]
  exact rd_wr_ne _ _ _ _ h.2.2

theorem rd_settle_of_level (s : State) (k : Nat) (h : k ∉ lastSubs ++ ringSubs) :
    s.settle.rd k = s.settleFp.settleAlarms.settleLevel.rd k := by
  rw [List.mem_append, not_or] at h
  rw [rd_settle_of_rings s k h.1, rd_settleRings_ne _ _ h.2]

theorem rd_settle_of_alarms (s : State) (k : Nat) (h : k ∉ lastSubs ++ ringSubs ++ ladderSubs) :
    s.settle.rd k = s.settleFp.settleAlarms.rd k := by
  rw [List.mem_append, not_or] at h
  rw [rd_settle_of_level s k h.1, rd_settleLevel_ne _ _ h.2]

theorem rd_settle_of_fp (s : State) (k : Nat) (h : k ∉ lastSubs ++ ringSubs ++ ladderSubs ++ alarmSubs) :
    s.settle.rd k = s.settleFp.rd k := by
  rw [List.mem_append, not_or] at h
  rw [rd_settle_of_alarms s k h.1, rd_settleAlarms_ne _ _ h.2]

/-! ### The rungs of the state do not see the levels -/

theorem rung1_congr {s t : State} (h : t.rd Gong.gongState = s.rd Gong.gongState) : t.rung1 = s.rung1 := by simp only [State.rung1, h]

theorem rung2Mask_congr {s t : State} (h : t.rails = s.rails) : t.rung2Mask = s.rung2Mask := by simp only [State.rung2Mask, State.rail, h]

theorem rung3Any_congr {s t : State} (h : t.snares = s.snares) : t.rung3Any = s.rung3Any := by simp only [State.rung3Any, h]

theorem rung4Mask_congr {s t : State} (h : t.loops = s.loops) : t.rung4Mask = s.rung4Mask := by simp only [State.rung4Mask, State.loop, h]

theorem rung5Mask_congr {s t : State} (h : t.budget.limiters = s.budget.limiters) : t.rung5Mask = s.rung5Mask := by
  have hl : t.limiter = s.limiter := by
    funext n
    rw [State.limiter, State.limiter, h]
  rw [State.rung5Mask, State.rung5Mask, hl]

/-- The ladder level follows Gong's state and the parts of the machine that hold the rungs. -/
theorem levelOf_congr {s t : State} (hg : t.rd Gong.gongState = s.rd Gong.gongState) (hr : t.rails = s.rails) (hs : t.snares = s.snares)
    (hl : t.loops = s.loops) (hb : t.budget.limiters = s.budget.limiters) : t.levelOf = s.levelOf := by
  rw [State.levelOf, State.levelOf, rung1_congr hg, rung2Mask_congr hr, rung3Any_congr hs, rung4Mask_congr hl, rung5Mask_congr hb]

theorem levelOf_settleAlarms_settleFp (s : State) : s.settleFp.settleAlarms.levelOf = s.levelOf := by
  apply levelOf_congr
  · rw [rd_settleAlarms _ _ (by decide), rd_settleFp _ _ (by decide)]
  all_goals rw [settleAlarms_eq, settleFp_eq]

theorem rails_settleAlarms_settleFp (s : State) : s.settleFp.settleAlarms.rails = s.rails := by rw [settleAlarms_eq, settleFp_eq]
theorem loops_settleAlarms_settleFp (s : State) : s.settleFp.settleAlarms.loops = s.loops := by rw [settleAlarms_eq, settleFp_eq]
theorem budget_settleAlarms_settleFp (s : State) : s.settleFp.settleAlarms.budget = s.budget := by rw [settleAlarms_eq, settleFp_eq]

theorem levelOf_settle (s : State) : s.settle.levelOf = s.levelOf :=
  levelOf_congr (rd_settle _ _ (by decide)) (settle_rails s) (settle_snares s) (settle_loops s) (settle_budget_limiters s)

theorem rung2Mask_settle (s : State) : s.settle.rung2Mask = s.rung2Mask := rung2Mask_congr (settle_rails s)
theorem rung4Mask_settle (s : State) : s.settle.rung4Mask = s.rung4Mask := rung4Mask_congr (settle_loops s)
theorem rung5Mask_settle (s : State) : s.settle.rung5Mask = s.rung5Mask := rung5Mask_congr (settle_budget_limiters s)

theorem inFlight_settle (s : State) : s.settle.inFlight = s.inFlight := by simp [State.inFlight]

/-- The alarms follow the machine and the subs they look at: bringing up the alarms' own registers, and what comes after, changes none. -/
theorem alarmsOf_settle (s : State) : s.settle.alarmsOf = s.settleFp.alarmsOf := by
  have hk : ∀ k, k ∉ levelKeys → s.settle.rd k = s.settleFp.rd k := fun k h => by rw [rd_settle _ _ h, rd_settleFp _ _ h]
  have hf : s.settle.rd Fw.fixedMode = s.settleFp.rd Fw.fixedMode := rd_settle_of_fp _ _ (by decide)
  have h1 := hk Gong.gongState (by decide)
  have h2 := hk Budget.capState (by decide)
  have h3 := hk Clk.brefState (by decide)
  have h4 := hk Kettle.sensorsOut (by decide)
  have h5 := hk Chest.chestState (by decide)
  have er : s.settle.rails = s.settleFp.rails := by rw [settle_rails, settleFp_eq]
  have el : s.settle.loops = s.settleFp.loops := by rw [settle_loops, settleFp_eq]
  have eb : s.settle.budget.limiters = s.settleFp.budget.limiters := by rw [settle_budget_limiters, settleFp_eq]
  have eh : s.settle.hub = s.settleFp.hub := by rw [settle_hub, settleFp_eq]
  have eg : s.settle.gong = s.settleFp.gong := by rw [settle_gong, settleFp_eq]
  have ek : s.settle.hk = s.settleFp.hk := by rw [settle_hk, settleFp_eq]
  have ec : s.settle.chs = s.settleFp.chs := by rw [settle_chs, settleFp_eq]
  rw [State.alarmsOf, State.alarmsOf, rung1_congr h1, rung2Mask_congr er, rung4Mask_congr el, rung5Mask_congr eb, hf, h2, h3, h4, h5, el, eh,
    eg, ek, ec]

/-- A processor's state is no level. -/
theorem fpMask_settle (s : State) (st : Int) : s.settle.fpMask st = s.fpMask st := by
  have h : ∀ k ∈ fpList, s.settle.rd (Fp.fpState k) = s.rd (Fp.fpState k) := fun k hk =>
    rd_settle _ _ ((by decide : ∀ k ∈ fpList, Fp.fpState k ∉ levelKeys) k hk)
  unfold State.fpMask
  exact List.foldl_rel (r := Eq) rfl fun k hk m m' e => by rw [e, h k hk]

theorem fixedOf_settle (s : State) : s.settle.fixedOf = s.fixedOf := by simp only [State.fixedOf, fpMask_settle]

/-! ### Each level is up to the state -/

theorem rd_settleLevel_ladderLevel (s : State) : s.settleLevel.rd Ladder.ladderLevel = s.levelOf := by
  have hb := levelOf_bounds s
  unfold State.settleLevel
  simp only
  rw [rd_wr_ne _ _ _ _ (by decide), rd_wr_ne _ _ _ _ (by decide), rd_wr_ne _ _ _ _ (by decide), rd_wr_ne _ _ _ _ (by decide)]
  split
  · assumption
  · rw [rd_cause_ne _ _ _ (by decide), rd_bump_ne _ _ _ _ (by decide), rd_wr_ne _ _ _ _ (by decide), rd_wr_same]
    exact fit_of_lt (b := 1) rfl (by omega) (by omega)

theorem ladderLevel_settle (s : State) : s.settle.rd Ladder.ladderLevel = s.settle.levelOf := by
  rw [rd_settle_of_level _ _ (by decide), rd_settleLevel_ladderLevel, levelOf_settleAlarms_settleFp, levelOf_settle]

theorem rd_settleLevel_masks (s : State) :
    s.settleLevel.rd Alarm.rung2Rails = s.rung2Mask ∧ s.settleLevel.rd Alarm.rung4Rails = s.rung4Mask
      ∧ s.settleLevel.rd Alarm.rung5Rails = s.rung5Mask := by
  unfold State.settleLevel
  simp only
  refine ⟨?_, ?_, ?_⟩
  · rw [rd_wr_ne _ _ _ _ (by decide), rd_wr_ne _ _ _ _ (by decide), rd_wr_same]
    exact fit_railMask rfl _
  · rw [rd_wr_ne _ _ _ _ (by decide), rd_wr_same]
    exact fit_railMask rfl _
  · rw [rd_wr_same]
    exact fit_railMask rfl _

theorem rungMasks_settle (s : State) :
    s.settle.rd Alarm.rung2Rails = s.settle.rung2Mask ∧ s.settle.rd Alarm.rung4Rails = s.settle.rung4Mask
      ∧ s.settle.rd Alarm.rung5Rails = s.settle.rung5Mask := by
  obtain ⟨h2, h4, h5⟩ := rd_settleLevel_masks s.settleFp.settleAlarms
  rw [rd_settle_of_level _ _ (by decide), rd_settle_of_level _ _ (by decide), rd_settle_of_level _ _ (by decide), h2, h4, h5,
    rung2Mask_settle, rung4Mask_settle, rung5Mask_settle]
  rw [rung2Mask_congr (rails_settleAlarms_settleFp s), rung4Mask_congr (loops_settleAlarms_settleFp s),
    rung5Mask_congr (congrArg BudgetInt.limiters (budget_settleAlarms_settleFp s))]
  exact ⟨rfl, rfl, rfl⟩

theorem rd_settleAlarms_alarmActive (s : State) : s.settleAlarms.rd Alarm.alarmActive = s.alarmsOf := by
  have hb := alarmsOf_le s
  have hfit : fit Alarm.alarmActive (s.alarmsOf : Nat) = (s.alarmsOf : Nat) := fit_of_lt (b := 2) rfl (by omega) (by omega)
  have hn : ∀ (t : State) l, (t.toNotify l).rd Alarm.alarmActive = t.rd Alarm.alarmActive := fun _ _ => rfl
  unfold State.settleAlarms
  split
  · rw [rd_wr_same, hfit]
  · rw [hn, rd_cause_ne _ _ _ (by decide), rd_wr_same, hfit]

theorem alarmActive_settle (s : State) : s.settle.rd Alarm.alarmActive = s.settle.alarmsOf := by
  rw [rd_settle_of_alarms _ _ (by decide), rd_settleAlarms_alarmActive, alarmsOf_settle]

theorem rd_settleFp_fixedMode (s : State) : s.settleFp.rd Fw.fixedMode = s.fixedOf := by
  have hb := fixedOf_bounds s
  have h0 : (forEach fpList (fun k s => s.wr (Fp.crashesWindow k) (min 3 (s.crashesNow k).length : Nat)) s).rd Fw.fixedMode
      = s.rd Fw.fixedMode := by
    simp only [forEach, fpList, List.range, List.range.loop, List.foldl]
    simp [rd_wr_ne]
  unfold State.settleFp
  simp only
  split
  · rw [rd_wr_ne _ _ _ _ (by decide), rd_wr_ne _ _ _ _ (by decide), h0]
    assumption
  · rw [rd_cause_ne _ _ _ (by decide), rd_record_ne _ _ _ _ _ _ _ (by decide) (ne_shelfLost (by decide)), rd_wr_same]
    exact fit_of_lt (b := 1) rfl (by omega) (by omega)

theorem fixedMode_settle (s : State) : s.settle.rd Fw.fixedMode = s.settle.fixedOf := by
  rw [rd_settle_of_fp _ _ (by decide), rd_settleFp_fixedMode, fixedOf_settle]

/-- The rings, the tags and the messages in flight of the state that the depths are taken from. -/
theorem ringParts_settleLevel (s : State) :
    s.settleFp.settleAlarms.settleLevel.hub = s.hub ∧ s.settleFp.settleAlarms.settleLevel.inFlight = s.inFlight := by
  constructor
  · rw [settleLevel_eq, settleAlarms_eq, settleFp_eq]
  · rw [settleLevel_eq, settleAlarms_eq, settleFp_eq]
    rfl

theorem rd_settleRings_depths (s : State) :
    s.settleRings.rd (Ring.cqDepth 0) = fit (Ring.cqDepth 0) s.hub.ringH.length
      ∧ s.settleRings.rd (Ring.cqDepth 1) = fit (Ring.cqDepth 1) s.hub.ringM.length
      ∧ s.settleRings.rd Act.actInflight = fit Act.actInflight s.hub.tags.length
      ∧ s.settleRings.rd DictSt.dictInflight = fit DictSt.dictInflight s.inFlight := by
  refine ⟨?_, ?_, ?_, ?_⟩ <;> simp [State.settleRings, rd_wr_ne]

theorem depths_settle (s : State) :
    s.settle.rd (Ring.cqDepth 0) = fit (Ring.cqDepth 0) s.settle.hub.ringH.length
      ∧ s.settle.rd (Ring.cqDepth 1) = fit (Ring.cqDepth 1) s.settle.hub.ringM.length
      ∧ s.settle.rd Act.actInflight = fit Act.actInflight s.settle.hub.tags.length
      ∧ s.settle.rd DictSt.dictInflight = fit DictSt.dictInflight s.settle.inFlight := by
  obtain ⟨hh, hi⟩ := ringParts_settleLevel s
  rw [rd_settle_of_rings _ _ (by decide), rd_settle_of_rings _ _ (by decide), rd_settle_of_rings _ _ (by decide),
    rd_settle_of_rings _ _ (by decide), settle_hub, inFlight_settle, ← hh, ← hi]
  exact rd_settleRings_depths _

theorem notify_settleNotify (s : State) (h : s.rd Xport.notifyEid = 0) : s.settleNotify.notify = [] := by
  unfold State.settleNotify
  rw [if_pos h]

theorem notify_settleIrq (s : State) : s.settleIrq.notify = s.notify := rfl

/-- With NOTIFY_EID 0 nothing is left to be notified (R105). -/
theorem notify_settle (s : State) (h : s.settle.rd Xport.notifyEid = 0) : s.settle.notify = [] := by
  unfold State.settle at h ⊢
  rw [rd_settleIrq, rd_settleNotify] at h
  rw [notify_settleIrq, notify_settleNotify _ h]

theorem irqN_settleIrq (s : State) :
    s.settleIrq.irqN = decide (s.settleIrq.rdN Irq.irqStatus &&& s.settleIrq.rdN Irq.irqEnable = 0) := rfl

/-- IRQ_N is low exactly while a cause is set and enabled (R52). -/
theorem irqN_settle (s : State) : s.settle.irqN = decide (s.settle.rdN Irq.irqStatus &&& s.settle.rdN Irq.irqEnable = 0) := by
  unfold State.settle
  exact irqN_settleIrq _

/-- Whatever the state, bringing the levels up to it leaves them so. -/
theorem levelsHold_settle (s : State) : s.settle.LevelsHold := by
  obtain ⟨m2, m4, m5⟩ := rungMasks_settle s
  obtain ⟨dh, dm, dt, di⟩ := depths_settle s
  exact ⟨irqN_settle s, ladderLevel_settle s, m2, m4, m5, alarmActive_settle s, dh, dm, dt, di, fixedMode_settle s, notify_settle s⟩

/-! ### Every step ends by bringing the levels up -/

/-- An outcome whose next state, if it answers one, has its levels brought up. -/
def Settled (o : Host.Outcome State Fault Refusal) : Prop := ∀ t, o = .next t → ∃ u : State, t = u.settle

theorem settled_done (u : State) : Settled (done u) := fun _ h => ⟨u, (Host.Outcome.next.inj h).symm⟩

theorem settled_refused_or_done (c : Prop) [Decidable c] (r : Refusal) (u : State) : Settled (if c then .refused r else done u) := by
  split
  · intro t h
    cases h
  · exact settled_done u

/-- Each arm of exec ends in `done`; six can refuse, an access to production test (R112). -/
theorem settled_exec (c : Instr) (s : State) : Settled (exec c s) := by
  cases c
  case dictWrite => exact settled_refused_or_done _ _ _
  case readClear => exact settled_refused_or_done _ _ _
  case mctpRead => exact settled_refused_or_done _ _ _
  case mctpWrite => exact settled_refused_or_done _ _ _
  case mctpBlockRead => exact settled_refused_or_done _ _ _
  case mctpBlockWrite => exact settled_refused_or_done _ _ _
  all_goals exact settled_done _

theorem settled_step (s : State) : Settled (step s) := by
  unfold step
  split
  · exact settled_done _
  · exact settled_exec _ _

end Sys2Proof.Machine
end

section
open Sys2Proof Sys2Proof.Machine

/-- Settles O44: every next state has its levels brought up, and bringing them up makes them hold. -/
theorem levelsHoldAfterEveryStep : Obligations.LevelsHoldAfterEveryStep := by
  intro s t h
  obtain ⟨u, rfl⟩ := settled_step s t h
  exact levelsHold_settle u

/-- Settles O42: the level that is up to the state (O44) is the first rung of 1 to 5 that is active, rung by rung. -/
theorem ladderLevelFollowsR36 : Obligations.LadderLevelFollowsR36 := by
  intro s t h
  obtain ⟨-, hl, -⟩ := levelsHoldAfterEveryStep s t h
  have on2 : (∃ n, n < 8 ∧ (t.rail n).rung2 = true) → t.rung2Mask ≠ 0 := railMask_ne_zero
  have on4 : (∃ n, n < 8 ∧ (t.loop n).rung4 = true) → t.rung4Mask ≠ 0 := railMask_ne_zero
  have on5 : (∃ n, n < 8 ∧ (t.limiter n).ceil < 16) → t.rung5Mask ≠ 0 := fun ⟨n, hn, hc⟩ => railMask_ne_zero ⟨n, hn, decide_eq_true hc⟩
  have off2 : (∀ n, n < 8 → (t.rail n).rung2 = false) → t.rung2Mask = 0 := (railMask_eq_zero _).mpr
  have off4 : (∀ n, n < 8 → (t.loop n).rung4 = false) → t.rung4Mask = 0 := (railMask_eq_zero _).mpr
  have off5 : (∀ n, n < 8 → 16 ≤ (t.limiter n).ceil) → t.rung5Mask = 0 := fun hc =>
    (railMask_eq_zero _).mpr fun n hn => decide_eq_false (Int.not_lt.mpr (hc n hn))
  rw [hl, State.levelOf]
  refine ⟨?_, ?_, ?_, ?_, ?_, ?_⟩
  · intro h1
    simp [h1]
  · intro h1 h2
    simp [h1, on2 h2]
  · intro h1 h2 h3
    simp [h1, off2 h2, h3]
  · intro h1 h2 h3 h4
    simp [h1, off2 h2, h3, on4 h4]
  · intro h1 h2 h3 h4 h5
    simp [h1, off2 h2, h3, off4 h4, on5 h5]
  · intro h1 h2 h3 h4 h5
    simp [h1, off2 h2, h3, off4 h4, off5 h5]

/-- Settles O45: each sub reads its entry-table default, and both sides of every level are 0 or empty at reset. -/
theorem resetLeavesTheValuesOfTheSpec : Obligations.ResetLeavesTheValuesOfTheSpec := by
  have levels : State.reset.LevelsHold := by
    unfold State.LevelsHold
    decide +kernel
  unfold Obligations.ResetLeavesTheValuesOfTheSpec
  refine ⟨levels, rfl, ?_⟩
  decide +kernel
end

section
/-! Proofs, what the ladder, the rails and the clock domains spare: none of the operations that carry a resolved value or a fault to its part
changes the instant, Gong with its subs, the scheduler's list, the epoch of host submissions or what the satellites have heard. -/

set_option Elab.async false

namespace Sys2Proof.Machine

/-! ### Loops over a list -/

/-- What a loop keeps, if each of its steps on an element of the list does. -/
theorem forEach_keeps_mem {α : Type} (P : State → Prop) {l : List α} {f : α → State → State} {s : State}
    (hf : ∀ a ∈ l, ∀ u, P u → P (f a u)) (h : P s) : P (forEach l f s) := by
  unfold forEach
  induction l generalizing s with
  | nil => exact h
  | cons a r ih => exact ih (fun b hb => hf b (by simp [hb])) (hf a (by simp) s h)

/-- What a loop reaches at one of its elements and then keeps, where every step before it keeps what that step needs. -/
theorem forEach_reaches {α : Type} (Q P : State → Prop) {l : List α} {f : α → State → State} {s : State} {a : α} (hl : a ∈ l)
    (hQ : ∀ b ∈ l, ∀ u, Q u → Q (f b u)) (ha : ∀ u, Q u → P (f a u)) (hP : ∀ b ∈ l, ∀ u, P u → P (f b u)) (h : Q s) :
    P (forEach l f s) := by
  induction l generalizing s with
  | nil => cases hl
  | cons b r ih =>
    have hP' : ∀ c ∈ r, ∀ u, P u → P (f c u) := fun c hc => hP c (by simp [hc])
    rcases List.mem_cons.mp hl with rfl | hr
    · show P (forEach r f (f a s))
      exact forEach_keeps_mem P hP' (ha s h)
    · exact ih hr (fun c hc => hQ c (by simp [hc])) hP' (hQ b (by simp) s h)

/-! ### The instances a rail names -/

/-- A domain of a rail is one of 64. -/
theorem cdsOf_lt {s : State} {n c : Nat} (h : c ∈ s.cdsOf n) : c < 4096 := by
  have := List.mem_range.mp (List.mem_filter.mp h).1
  omega

/-- A power domain of a rail is one of 96. -/
theorem pdsOf_lt {s : State} {n d : Nat} (h : d ∈ s.pdsOf n) : d < 4096 := by
  have := List.mem_range.mp (List.mem_filter.mp h).1
  omega

/-- A phase of a rail is one of 96. -/
theorem phasesOf_lt {n p : Nat} (h : p ∈ Config.phasesOf n) : p < 4096 := by
  obtain ⟨i, hi, rfl⟩ := List.mem_range'.mp h
  unfold Config.phSpan at hi ⊢
  split at hi <;> simp only at hi ⊢ <;> omega

/-- A STANDBY phase of a rail is a phase of it. -/
theorem standby_lt {s : State} {n p : Nat} {f : Nat → Bool} (h : p ∈ (s.standbyList n).filter f) : p < 4096 :=
  phasesOf_lt (List.mem_filter.mp (List.mem_filter.mp h).1).1

/-- The coolest of some phases is one of them (R123). -/
theorem coolest_mem {s : State} {l : List Nat} {p : Nat} (h : s.coolest l = some p) : p ∈ l := by
  have step : ∀ (l : List Nat) (b : Option Nat), l.foldl (fun b p => match b with
      | none => some p
      | some q => if s.rd (Ph.tstg p) < s.rd (Ph.tstg q) then some p else some q) b = some p → p ∈ l ∨ b = some p := by
    intro l
    induction l with
    | nil => exact fun b hb => .inr hb
    | cons a r ih =>
      intro b hb
      rcases ih _ hb with hr | hr
      · exact .inl (by simp [hr])
      · cases b with
        | none => exact .inl (by simp_all)
        | some q =>
          dsimp only at hr
          split at hr
          · exact .inl (by simp_all)
          · exact .inr hr
  simpa using step l none h

/-- A later state spares time, Gong, the scheduler and the satellites of an earlier one. -/
structure Spares (s t : State) : Prop where
  hclk : t.hclk = s.hclk
  beatHclk : t.beatHclk = s.beatHclk
  gong : t.gong = s.gong
  sched : t.hub.sched = s.hub.sched
  epoch : t.hub.epoch = s.hub.epoch
  sats : t.hub.sats = s.hub.sats
  keepAt : t.hub.keepAt = s.hub.keepAt
  sub : ∀ k, k / 256 = 0x5090 → t.rd k = s.rd k

namespace Spares

variable {s t : State}

theorem refl (s : State) : Spares s s := ⟨rfl, rfl, rfl, rfl, rfl, rfl, rfl, fun _ _ => rfl⟩

theorem trans {u : State} (h : Spares s t) (g : Spares t u) : Spares s u :=
  ⟨g.hclk.trans h.hclk, g.beatHclk.trans h.beatHclk, g.gong.trans h.gong, g.sched.trans h.sched, g.epoch.trans h.epoch,
    g.sats.trans h.sats, g.keepAt.trans h.keepAt, fun k hk => (g.sub k hk).trans (h.sub k hk)⟩

/-! ### The named updates -/

/-- A change of other parts of the machine. -/
theorem same {u : State} (h : Spares s t) (h1 : u.hclk = t.hclk := by rfl) (h2 : u.beatHclk = t.beatHclk := by rfl)
    (h3 : u.gong = t.gong := by rfl) (h4 : u.hub.sched = t.hub.sched := by rfl) (h5 : u.hub.epoch = t.hub.epoch := by rfl)
    (h6 : u.hub.sats = t.hub.sats := by rfl) (h7 : u.hub.keepAt = t.hub.keepAt := by rfl) (h8 : u.dict = t.dict := by rfl) : Spares s u :=
  h.trans ⟨h1, h2, h3, h4, h5, h6, h7, fun k _ => by rw [State.rd, State.rd, h8]⟩

/-- A write outside Gong's index. -/
theorem wrKey (h : Spares s t) {k : Nat} {v : Int} (hk : k / 256 ≠ 0x5090) : Spares s (t.wr k v) :=
  h.trans ⟨rfl, rfl, rfl, rfl, rfl, rfl, rfl, fun _ hj => rd_wr_ne _ _ _ _ (fun e => hk (e ▸ hj))⟩

theorem wr (h : Spares s t) {b j : Nat} {v : Int} (hb : b ≠ 0x5090 := by omega) (hj : j < 256 := by decide) :
    Spares s (t.wr (b * 256 + j) v) := h.wrKey (by omega)

theorem bump (h : Spares s t) {b j : Nat} {n : Int} (hb : b ≠ 0x5090 := by omega) (hj : j < 256 := by decide) :
    Spares s (t.bump (b * 256 + j) n) := h.wr hb hj

theorem cause (h : Spares s t) {b : Nat} : Spares s (t.cause b) := h.wr (b := 0x1100)

theorem cmdDone (h : Spares s t) {b j : Nat} {v : Int} (hb : b ≠ 0x5090 := by omega) (hj : j < 256 := by decide) :
    Spares s (t.cmdDone (b * 256 + j) v) := (h.wr hb hj).cause

theorem recordAt (h : Spares s t) {i : Stamp} {fw : Bool} {src code : Nat} {p1 p2 p3 : Int} :
    Spares s (t.recordAt i fw src code p1 p2 p3) := by
  unfold State.recordAt
  dsimp only
  split
  · exact h.same
  · rename_i l _
    have hu : l.source % 128 < 128 := Nat.mod_lt _ (by decide)
    exact ((h.same (u := _)).bump (b := 0xA000)).bump (b := 0xA080 + l.source % 128)

theorem record (h : Spares s t) {src code : Nat} {p1 p2 p3 : Int} : Spares s (t.record src code p1 p2 p3) := h.recordAt

theorem setRail (h : Spares s t) {n : Nat} {r : RailInt} : Spares s (t.setRail n r) := h.same
theorem setPh (h : Spares s t) {n : Nat} {r : PhInt} : Spares s (t.setPh n r) := h.same
theorem setLoop (h : Spares s t) {n : Nat} {r : LoopInt} : Spares s (t.setLoop n r) := h.same
theorem setDcu (h : Spares s t) {n : Nat} {r : DcuInt} : Spares s (t.setDcu n r) := h.same
theorem setPd (h : Spares s t) {n : Nat} {r : PdInt} : Spares s (t.setPd n r) := h.same
theorem fabric (h : Spares s t) {l w : Nat} : Spares s (t.fabric l w) := h.same
theorem setRange (h : Spares s t) {rung a : Nat} {r : Option (Int × Int)} : Spares s (t.setRange rung a r) := h.same

theorem when_ {c : Bool} {f : State → State} (h : Spares s t) (hf : Spares s t → Spares s (f t)) : Spares s (when c f t) := by
  cases c
  · exact h
  · exact hf h

theorem ite {q : Prop} [Decidable q] {a b : State} (ha : Spares s a) (hb : Spares s b) : Spares s (if q then a else b) := by
  split
  · exact ha
  · exact hb

theorem forEach {α : Type} {l : List α} {f : α → State → State} (h : Spares s t)
    (hf : ∀ a ∈ l, ∀ u, Spares s u → Spares s (f a u)) : Spares s (forEach l f t) := forEach_keeps_mem (Spares s) hf h

/-! ### Completions (R28, R109) -/

theorem completeAt (h : Spares s t) {x : Txn} {o : TxnOutcome} {src v : Int} {b k : Nat} : Spares s (t.completeAt x o src v b k) := by
  unfold State.completeAt
  split
  · exact h
  · dsimp only
    split
    · split
      · exact when_ h.same fun h => h.cause
      · exact h
    · split
      · exact h.same
      · exact h.same

theorem completeWaiting (h : Spares s t) {w : Waiting} {o : TxnOutcome} {src v : Int} : Spares s (t.completeWaiting w o src v) := by
  unfold State.completeWaiting
  split
  · split
    · exact h.completeAt
    · exact h.completeAt
  · exact h.completeAt

theorem finishWaiting (h : Spares s t) {pick : Waiting → Bool} {o : Waiting → TxnOutcome × Int × Int} :
    Spares s (t.finishWaiting pick o) :=
  forEach (f := fun w u => u.completeWaiting w (o w).1 (o w).2.1 (o w).2.2) (h.same (u := _)) fun _ _ _ hu => hu.completeWaiting

theorem supersedeWaiting (h : Spares s t) {rung a : Nat} : Spares s (t.supersedeWaiting rung a) := h.finishWaiting

/-! ### Values on their way to their parts -/

theorem showSrc (h : Spares s t) {a : Nat} {v : Int} : Spares s (t.showSrc a v) := by
  have ha : a % 4096 < 4096 := Nat.mod_lt _ (by decide)
  unfold State.showSrc
  dsimp only
  split
  · exact h.wrKey (by simp only [SrcRail.srcRail]; omega)
  · exact h.wrKey (by simp only [SrcCd.srcCd]; omega)
  · exact h.wrKey (by simp only [SrcPd.srcPd]; omega)
  · exact h.wrKey (by simp only [SrcPt.srcPt]; omega)
  · exact h.wrKey (by simp only [SrcRail.srcRail]; omega)

theorem sendRing (h : Spares s t) {sat item : Nat} {v : Int} : Spares s (t.sendRing sat item v) := by
  unfold State.sendRing
  split
  · exact h
  · exact h.same

theorem dropCopies (h : Spares s t) {sat item : Nat} : Spares s (t.dropCopies sat item) := h.same

/-! ### Power domains (R207 to R213) -/

variable {c d n p : Nat}

theorem pdStartOff (h : Spares s t) (hd : d < 4096) {forStop : Bool} : Spares s (t.pdStartOff d forStop) := h.setPd.wr

theorem pdReverse (h : Spares s t) (hd : d < 4096) {forStop : Bool} : Spares s (t.pdReverse d forStop) := h.setPd.wr

theorem pdTurnBack (h : Spares s t) (hd : d < 4096) : Spares s (t.pdTurnBack d) := h.setPd.wr

theorem pdTake (h : Spares s t) (hd : d < 4096) {want : Bool} : Spares s (t.pdTake d want) := by
  unfold State.pdTake
  exact ite h.setPd (ite (h.setPd.pdReverse hd) (ite (h.setPd.pdStartOff hd) (ite (h.setPd.pdTurnBack hd) h.setPd)))

theorem unfault (h : Spares s t) (hd : d < 4096) : Spares s (t.unfault d) := by
  unfold State.unfault
  split
  · exact ((h.same (u := _)).wr (b := 0x3100 + d)).wr
  · exact h

theorem pdRailOff (h : Spares s t) (hd : d < 4096) : Spares s (t.pdRailOff d) := by
  unfold State.pdRailOff
  dsimp only
  split
  · exact (h.unfault hd).setPd.wr
  · exact ((h.unfault hd).setPd.wr (b := 0x3100 + d)).wr.finishWaiting

/-! ### Ratios and set-points (R27, R31, R33) -/

theorem requestSwitch (h : Spares s t) (hc : c < 4096) {target : Nat} : Spares s (t.requestSwitch c target) := by
  have h0 : Spares s (t.wr (Cd.srcSel c) target) := h.wr
  unfold State.requestSwitch
  refine ite h0.setDcu (ite h0 ?_)
  · split
    · exact h0.setDcu.wr
    · exact (h0.setDcu.wr (b := 0x3000 + c)).bump
    · exact h0.setDcu

theorem applyRatio (h : Spares s t) (hc : c < 4096) {v : Int} : Spares s (t.applyRatio c v) := by
  have shown : ∀ x, Spares s (((t.wr (Cd.ratioRes c) v).wr (Cd.vfCode c) (t.vfNow c)).showSrc (aRatio c) x) := fun x =>
    ((h.wr (b := 0x3000 + c)).wr (b := 0x3000 + c)).showSrc
  unfold State.applyRatio
  exact ite ((ite (shown _) (shown _).setDcu.sendRing).setDcu.requestSwitch hc) (ite (shown _) (shown _).setDcu.sendRing)

theorem refreshVf (h : Spares s t) (hc : c < 4096) : Spares s (t.refreshVf c) := h.applyRatio hc

theorem commitVset (h : Spares s t) (hn : n < 4096) {v : Int} : Spares s (t.commitVset n v) := by
  have h1 : Spares s ((t.setRail n { t.rail n with vwait := none, taken := !t.regulating n }).wr (Rail.vsetRes n) v) := h.setRail.wr
  unfold State.commitVset
  exact ite (h1.same (u := _)).finishWaiting h1

theorem lowerVil (h : Spares s t) {v : Int} : Spares s (t.lowerVil n v) := by
  unfold State.lowerVil
  exact ite (h.setRail.forEach fun c hc _ hu => hu.refreshVf (cdsOf_lt hc)) h

theorem stepVset (h : Spares s t) (hn : n < 4096) : Spares s (t.stepVset n) := by
  unfold State.stepVset
  exact ite h.lowerVil.setRail (h.lowerVil.commitVset hn)

theorem applyVset (h : Spares s t) (hn : n < 4096) {v : Int} : Spares s (t.applyVset n v) := by
  have h0 : Spares s ((({ t with hub := { t.hub with goal := tabPut t.hub.goal n v } } : State).showSrc (aVset n)
      (t.sourceOf (aVset n))).setRail n { t.rail n with vwait := none }) := (h.same (u := _)).showSrc.setRail
  have h1 := ite (q := v = t.held (aVset n)) h0 (h0.lowerVil (n := n) (v := v))
  unfold State.applyVset
  exact ite (h1.commitVset hn) (ite (h1.commitVset hn).setRail (ite (h1.stepVset hn) h1))

/-! ### Power-domain states, Brush codes and phase counts -/

theorem applyPd (h : Spares s t) (hd : d < 4096) {v : Int} : Spares s (t.applyPd d v) := by
  have h1 : Spares s (((t.wr (Pd.pdRes d) v).showSrc (aPd d) (t.sourceOf (aPd d))).sendRing (satPd d) 1 v) := h.wr.showSrc.sendRing
  unfold State.applyPd
  exact ite (h1.dropCopies.pdTake hd) h1

theorem applyBrush (h : Spares s t) {v : Int} : Spares s (t.applyBrush p v) := (h.same (u := _)).showSrc.sendRing

theorem syncModel (h : Spares s t) : Spares s (t.syncModel p) := by
  unfold State.syncModel
  exact ite h h.setPh

theorem showActive (h : Spares s t) (hn : n < 4096) : Spares s (t.showActive n) := by
  have h1 : Spares s (t.wr (Rail.phActive n) (t.actList n).length) := h.wr
  unfold State.showActive
  refine h1.when_ fun h => ?_
  exact h.wr

theorem rebuildList (h : Spares s t) (hn : n < 4096) {old : List Nat} : Spares s (t.rebuildList n old) := by
  unfold State.rebuildList
  exact (ite h h.setRail).showActive hn

theorem activate (h : Spares s t) (hp : p < 4096) : Spares s (t.activate p) :=
  (h.syncModel.wr (b := 0x2800 + p)).wr

theorem addPhase (h : Spares s t) (hn : n < 4096) : Spares s (t.addPhase n) := by
  unfold State.addPhase
  split
  · rename_i p hp
    exact (h.activate (standby_lt (coolest_mem hp))).rebuildList hn
  · exact h

theorem addUpTo (h : Spares s t) (hn : n < 4096) {k : Nat} : Spares s (t.addUpTo n k) :=
  h.forEach (f := fun _ u => u.addPhase n) fun _ _ _ hu => hu.addPhase hn

theorem fitPhases (h : Spares s t) (hn : n < 4096) : Spares s (t.fitPhases n) := by
  unfold State.fitPhases
  exact ite (h.addUpTo hn) h

theorem applyPhase (h : Spares s t) (hn : n < 4096) {v : Int} : Spares s (t.applyPhase n v) := by
  have h1 : Spares s (t.wr (Rail.phFloor n) v) := h.wr
  unfold State.applyPhase State.regulateOrShed
  refine (h1.showSrc.fitPhases hn).when_ fun h => ?_
  exact h.wr

/-! ### Evaluation of actuators (R31) -/

theorem resolve (h : Spares s t) {a : Nat} : Spares s (t.resolve a) := by
  have ha : a % 4096 < 4096 := Nat.mod_lt _ (by decide)
  unfold State.resolve
  dsimp only
  split
  · exact h.applyVset ha
  · exact h.applyRatio ha
  · exact h.applyPd ha
  · exact h.applyBrush
  · exact h.applyPhase ha

theorem reeval (h : Spares s t) {a : Nat} : Spares s (t.reeval a) := h.resolve.finishWaiting

theorem reevalAll (h : Spares s t) {l : List Nat} : Spares s (t.reevalAll l) := h.forEach fun _ _ _ hu => hu.reeval

/-! ### Gates (R201 to R205) -/

theorem showGate (h : Spares s t) (hc : c < 4096) : Spares s (t.showGate c) := by
  unfold State.showGate
  exact ite h.cmdDone h.wr

theorem forceGate (h : Spares s t) (hc : c < 4096) {cause : Nat} : Spares s (t.forceGate c cause) := by
  unfold State.forceGate
  dsimp only
  split
  · exact h.setDcu.wr.showGate hc
  · refine (Spares.record ?_).showGate hc
    have h3 : ∀ (q : Bool) r, Spares s (when q (fun u => u.wr (Cd.needsReset c) 1) (((t.setDcu c r).wr (Cd.cdState c) 4).bump (Cd.gateForces c))) :=
      fun q r => ((h.setDcu.wr (b := 0x3000 + c)).bump (b := 0x3000 + c)).when_ fun h => h.wr
    split
    · exact ((h3 _ _).wr (b := 0x3000 + c)).bump
    · exact h3 _ _

theorem requestForce (h : Spares s t) (hc : c < 4096) {cause : Nat} : Spares s (t.requestForce c cause) :=
  ite h.setDcu (ite h.setDcu.wr (ite (h.setDcu.forceGate hc) (ite h.setDcu.setDcu.wr (ite (h.setDcu.forceGate hc) h.setDcu))))

theorem serveRun (h : Spares s t) (hc : c < 4096) : Spares s (t.serveRun c) := by
  unfold State.serveRun
  refine ite h (ite h.setDcu.wr ?_)
  split
  · exact h.setDcu.requestSwitch hc
  · exact h

theorem serveHeld (h : Spares s t) (hc : c < 4096) : Spares s (t.serveHeld c) := by
  unfold State.serveHeld
  split
  · exact (h.setDcu.wr (b := 0x3000 + c)).requestSwitch hc
  · exact h

theorem openGate (h : Spares s t) (hc : c < 4096) : Spares s (t.openGate c) := by
  unfold State.openGate
  exact ite ((h.setDcu.wr (b := 0x3000 + c)).showGate hc) ((h.setDcu.wr (b := 0x3000 + c)).showGate hc)

theorem leaveForced (h : Spares s t) (hc : c < 4096) : Spares s (t.leaveForced c) := by
  have h1 := h.serveHeld hc
  unfold State.leaveForced
  exact ite (ite (h1.openGate hc) (ite ((h1.setDcu.wr (b := 0x3000 + c)).showGate hc) ((h1.openGate hc).serveRun hc))) h

theorem forcedGateEnd (h : Spares s t) (hc : c < 4096) : Spares s (t.forcedGateEnd c) := h.setDcu.leaveForced hc

theorem enterRun (h : Spares s t) (hc : c < 4096) : Spares s (t.enterRun c) := by
  unfold State.enterRun
  exact ite h.wr ((h.wr (b := 0x3000 + c)).serveRun hc)

theorem gateReview (h : Spares s t) (hc : c < 4096) : Spares s (t.gateReview c) := by
  have h1 := h.serveHeld hc
  unfold State.gateReview
  exact ite (ite h (ite ((h1.openGate hc).serveRun hc) h1)) ((h.leaveForced hc).serveRun hc)

theorem gateReleased (h : Spares s t) (hc : c < 4096) : Spares s (t.gateReleased c) := by
  unfold State.gateReleased
  exact ite h (ite (h.setDcu.enterRun hc) (h.gateReview hc))

/-! ### Rail states, the immediate off and the latch (R140, R144, R145) -/

theorem sdStart (h : Spares s t) : Spares s t.sdStart := by
  unfold State.sdStart
  refine ite h (Spares.forEach ((h.same (u := _)).wr (b := 0xB000)) fun c hc _ hu => ?_)
  have := List.mem_range.mp hc
  exact hu.wr

theorem unsettle (h : Spares s t) (hn : n < 4096) : Spares s (t.unsettle n) := h.setLoop.wr

theorem setRailState (h : Spares s t) (hn : n < 4096) {st : Int} {why : Nat} : Spares s (t.setRailState n st why) := by
  have h1 : ∀ r, Spares s ((t.setRail n r).wr (Rail.railState n) st) := fun r => h.setRail.wr
  unfold State.setRailState
  refine when_ (when_ (when_ ?_ fun h => h.unsettle hn) fun h => ?_) fun h => h.sdStart
  · exact ite (h1 _).record (ite (h1 _).record (h1 _))
  · exact h.forEach fun c hc _ hu => hu.forcedGateEnd (cdsOf_lt hc)

theorem dropPulses (h : Spares s t) (hn : n < 4096) : Spares s (t.dropPulses n) :=
  ((h.same (u := _)).bump (b := 0x3208 + n)).wr

theorem activateRung2 (h : Spares s t) (hn : n < 4096) : Spares s (t.activateRung2 n) := h.setRail.dropPulses hn

theorem rung2Phases (h : Spares s t) (hn : n < 4096) : Spares s (t.rung2Phases n) :=
  (h.wr (b := 0x2000 + n)).setRange.wr

theorem phasesOff (h : Spares s t) : Spares s (t.phasesOff n) :=
  h.forEach fun p hp _ hu => by
    have := phasesOf_lt hp
    exact ite hu.setPh hu.setPh.wr

theorem loopIdle (h : Spares s t) (hn : n < 4096) : Spares s (t.loopIdle n) :=
  ((((((((h.setLoop.wr (b := 0x4000 + n)).wr (b := 0x4000 + n)).wr (b := 0x4000 + n)).wr (b := 0x4000 + n)).wr (b := 0x4000 + n)).wr
    (b := 0x4000 + n)).wr (b := 0x4000 + n))).wr

theorem railDown (h : Spares s t) (hn : n < 4096) {st : Int} {why : Nat} : Spares s (t.railDown n st why) := by
  have h2 : ∀ r, Spares s ((((((t.phasesOff n).loopIdle n).setRail n r).wr (Rail.phActive n) 0).setRailState n st why).dropPulses n) := fun r =>
    (((h.phasesOff.loopIdle hn).setRail.wr (b := 0x2000 + n)).setRailState hn).dropPulses hn
  unfold State.railDown
  exact when_ (when_ (((h2 _).commitVset hn).rung2Phases hn).reeval fun h => h.wr) fun h => h.cmdDone

theorem immediateOff (h : Spares s t) (hn : n < 4096) {cause : Nat} {st : Int} : Spares s (t.immediateOff n cause st) := by
  refine Spares.forEach (Spares.forEach (h.railDown hn).record fun d hd _ hu => ?_) fun c hc _ hu => ?_
  · exact hu.pdRailOff (pdsOf_lt hd)
  · exact hu.forceGate (cdsOf_lt hc)

theorem traceEvent (h : Spares s t) {code : Nat} : Spares s (t.traceEvent n code) := by
  unfold State.traceEvent
  exact ite h.setLoop h

theorem startFail (h : Spares s t) {cause detail : Nat} : Spares s (t.startFail cause detail) := by
  unfold State.startFail
  refine ite h (Spares.record ?_)
  have h1 : Spares s (if t.rdN Start.startState = 7 then t.bump Start.pausedUs t.pauseUs else t) := ite (h.bump (b := 0xB030)) h
  exact (((h1.same (u := _)).wr (b := 0xB030)).wr (b := 0xB030)).wr (b := 0xB030)

theorem startRailLatch (h : Spares s t) : Spares s (t.startRailLatch n) := h.when_ fun h => h.startFail

theorem latch (h : Spares s t) (hn : n < 4096) {causes : Nat} : Spares s (t.latch n causes) := by
  have h1 : Spares s ((t.immediateOff n 3 5).wr (Rail.faultCause n) (t.rdN (Rail.faultCause n) ||| causes : Nat)) := (h.immediateOff hn).wr
  exact (((h1.wr (b := 0x2000 + n)).record.setRail.activateRung2 hn).cause.traceEvent).startRailLatch

/-! ### The start sequence (R445) -/

theorem pauseStart (h : Spares s t) : Spares s t.pauseStart := by
  unfold State.pauseStart
  exact ite ((h.same (u := _)).wr (b := 0xB030)) h

theorem enterSupply (h : Spares s t) : Spares s t.enterSupply := by
  have h1 : Spares s ({ t with start := { t.start with ibcAt := none, busOk := false } }.wr Start.startState 2) :=
    (h.same (u := _)).wr (b := 0xB030)
  exact h1.when_ fun h => h.pauseStart

theorem restartSupply (h : Spares s t) : Spares s t.restartSupply := by
  unfold State.restartSupply
  exact ite h.same (ite (h.when_ fun h => h.wr (b := 0xB030)).enterSupply h)

end Spares
end Sys2Proof.Machine
end

section
/-! Proofs, Gong's commands (R286 to R289). -/

set_option Elab.async false

namespace Sys2Proof.Machine

/-- A command that ends in `done` completes with the settled state. -/
theorem completesWith_of_done {i : Instr} {s u : State} {P : State → Prop} (h : exec i s = done u) (hp : P u.settle) :
    CompletesWith i s P := ⟨u.settle, h, hp⟩

/-- Whether n HCLK have passed is a bound on the time. -/
theorem elapsed_iff (s : State) (since n : Nat) : s.elapsed since n = true ↔ since + n ≤ s.hclk := decide_eq_true_iff

/-! ### The rails-off action begins (R287) -/

theorem spares_beginRailsOff (s : State) (cause : Nat) :
    Spares (({ s with gong := { s.gong with x := some s.hclk, xCause := cause, offDone := false } } : State).wr Gong.gongState 2)
      (s.beginRailsOff cause) :=
  (Spares.refl _).forEach fun c hc _ hu => hu.requestForce (by have := List.mem_range.mp hc; omega)

theorem rd_beginRailsOff_gongState (s : State) (cause : Nat) : (s.beginRailsOff cause).rd Gong.gongState = 2 := by
  rw [(spares_beginRailsOff s cause).sub _ rfl, rd_wr_same]
  rfl

theorem gong_beginRailsOff (s : State) (cause : Nat) :
    (s.beginRailsOff cause).gong = { s.gong with x := some s.hclk, xCause := cause, offDone := false } :=
  (spares_beginRailsOff s cause).gong

/-! ### A rejected write of GONG_CTRL (R89, R289) -/

/-- A rejected command leaves Gong as it was, but for GONG_CTRL, which reads 2. -/
theorem rejectGong_leaves (s : State) (x : Nat) :
    (s.rejectGong x).gong = s.gong ∧ (s.rejectGong x).rd Gong.gongState = s.rd Gong.gongState ∧ (s.rejectGong x).rd Gong.gongCtrl = 2 := by
  refine ⟨rfl, ?_, ?_⟩
  · unfold State.rejectGong
    have hj : (s.reject Gong.gongCtrl x).rd Gong.gongState = (s.bump DictSt.rejectCount).rd Gong.gongState :=
      rd_wr_ne _ DictSt.lastReject _ _ (by decide)
    rw [rd_wr_ne _ _ _ _ (by decide), hj, rd_bump_ne _ _ _ _ (by decide)]
  · unfold State.rejectGong
    rw [rd_wr_same]
    rfl

/-! ### Every rail off (R287) -/

/-- The rails' part of the action: an on-rail goes off at once or latches. -/
theorem spares_railsOff (s : State) :
    Spares s (forEach railList (fun n s =>
      if !s.onState n then s else if s.latchComes n = 0 then s.immediateOff n 2 0 else s.latch n (s.latchComes n)) s) :=
  (Spares.refl s).forEach fun n hn _ hu => by
    have hb : n < 4096 := by have := List.mem_range.mp hn; omega
    exact hu.ite ((hu.immediateOff hb).ite (hu.latch hb))

/-- GONG_RAILS_OFF when it is due: after the rails' part the action is done and CD_RST_N is low, which is recorded. -/
theorem exec_gongRailsOff (s : State) (x : Nat) (hx : s.gong.x = some x) (hdue : s.gongOffDue = true) :
    ∃ u : State, Spares s u ∧ ∃ p1 p2 p3, exec .gongRailsOff s = done
      (({ u with gong := { u.gong with offDone := true }, start := { u.start with released := false } } : State).record srcGong 0x0402 p1 p2 p3) := by
  refine ⟨_, spares_railsOff s, s.onMask, divOpen 70 ((x : Int) - s.gong.tripAt) 800, s.gong.xCause, ?_⟩
  show execGongRailsOff s = _
  unfold execGongRailsOff
  rw [hx]
  exact congrArg done (if_pos hdue)

/-! ### The restart (R288) -/

/-- The restart: Gong's record and the start's scope are set, rung 1 withdraws its ranges, the state becomes RESTARTING; what follows
spares Gong. -/
theorem spares_gongRestart (s : State) :
    ∃ u : State, u.gong = { s.gong with line := false, outN := true, prevHot := false, hotNow := false, x := none } ∧ u.dict = s.dict
      ∧ Spares ((forEach (gongActs ++ ptList.map aBrush) (fun a s => s.setRange 1 a none) u).wr Gong.gongState 4) s.gongRestart := by
  refine ⟨_, ?_, ?_, (Spares.refl _).reevalAll.restartSupply.record.cause⟩ <;> rfl

/-- The restart frees the line and the outputs, forgets the hot round and the rails-off instant, enters RESTARTING and keeps TRIP_TIME. -/
theorem gongRestart_facts (s : State) :
    s.gongRestart.gong = { s.gong with line := false, outN := true, prevHot := false, hotNow := false, x := none }
      ∧ s.gongRestart.rd Gong.gongState = 4 ∧ s.gongRestart.rd Gong.tripTime = s.rd Gong.tripTime := by
  obtain ⟨u, hg, hd, h⟩ := spares_gongRestart s
  have hu : Spares u (forEach (gongActs ++ ptList.map aBrush) (fun a s => s.setRange 1 a none) u) :=
    (Spares.refl u).forEach fun _ _ _ hu => hu.setRange
  refine ⟨?_, ?_, ?_⟩
  · rw [h.gong, wr_gong, hu.gong, hg]
  · rw [h.sub _ rfl, rd_wr_same]
    rfl
  · rw [h.sub _ rfl, rd_wr_ne _ _ _ _ (by decide), hu.sub _ rfl, State.rd, State.rd, hd]

end Sys2Proof.Machine
end

section
open Sys2Proof Sys2Proof.Machine

/-- Settles O22: each command by what its one operation does to Gong, which the rails, the domains and the ladder spare. -/
theorem gongCompletes : Obligations.GongCompletes := by
  have kS : Gong.gongState ∉ levelKeys := by decide
  have kC : Gong.gongCtrl ∉ levelKeys := by decide
  have kT : Gong.tripTime ∉ levelKeys := by decide
  refine ⟨?_, ?_, ?_, ?_, ?_, ?_⟩
  · intro s hst hco hel
    have hd : exec .gongOrderlyDeadline s = done (s.beginRailsOff 0) := by
      have hc : (s.rd Gong.gongState = 1 && !s.railsOffComes && s.elapsed s.gong.tripAt (800000 * s.gong.orderly)) = true := by
        simp [hst, hco, elapsed_iff, hel]
      exact congrArg done (if_pos hc)
    refine completesWith_of_done hd ?_
    rw [rd_settle _ _ kS, rd_beginRailsOff_gongState, settle_gong, gong_beginRailsOff]
    exact ⟨rfl, rfl, rfl, rfl⟩
  · intro s hst hup
    have hd : exec .gongCtrlRailsOff s = done (((s.fabric 3 0).beginRailsOff 1).cmdDone Gong.gongCtrl 1) :=
      congrArg done ((hostRow_up s _ hup).trans (if_pos hst))
    refine completesWith_of_done hd ?_
    rw [rd_settle _ _ kS, rd_settle _ _ kC, settle_gong, rd_cmdDone_ne _ _ _ _ (by decide) (by decide), rd_beginRailsOff_gongState,
      rd_cmdDone_same _ _ _ (by decide), cmdDone_gong, gong_beginRailsOff]
    exact ⟨rfl, rfl, rfl, rfl⟩
  · intro s hst hup
    have hd : exec .gongCtrlRailsOff s = done ((s.fabric 3 0).rejectGong 0) :=
      congrArg done ((hostRow_up s _ hup).trans (if_neg hst))
    obtain ⟨hg, hs, hc⟩ := rejectGong_leaves (s.fabric 3 0) 0
    refine completesWith_of_done hd ?_
    rw [rd_settle _ _ kS, rd_settle _ _ kC, settle_gong, hg, hs, hc]
    exact ⟨rfl, rfl, rfl⟩
  · intro s x hx hoff hel
    have hdue : s.gongOffDue = true := by simp [State.gongOffDue, hx, hoff, elapsed_iff, hel]
    obtain ⟨u, hu, p1, p2, p3, hd⟩ := exec_gongRailsOff s x hx hdue
    refine completesWith_of_done hd ?_
    rw [settle_gong, settle_start, rd_settle _ _ kS, record_gong, record_start,
      rd_record_ne _ _ _ _ _ _ _ (by decide) (ne_shelfLost (by decide))]
    exact ⟨rfl, rfl, hu.sub _ rfl⟩
  · intro s hst hmode hdie hup
    have hd : exec .gongCtrlRestart s = done ((s.fabric 3 0).gongRestart.cmdDone Gong.gongCtrl 1) := by
      have hc : ((s.fabric 3 0).rd Gong.gongState = 3 && (s.fabric 3 0).rd Gong.restartMode = 0
          && !((s.fabric 3 0).roundDue && (s.fabric 3 0).dieAbove)) = true := by
        have hdie' : ((s.fabric 3 0).roundDue && (s.fabric 3 0).dieAbove) = false := hdie
        simp [hst, hmode, hdie']
      exact congrArg done ((hostRow_up s _ hup).trans (if_pos hc))
    obtain ⟨hg, hs, ht⟩ := gongRestart_facts (s.fabric 3 0)
    refine completesWith_of_done hd ?_
    rw [rd_settle _ _ kS, rd_settle _ _ kC, rd_settle _ _ kT, settle_gong, rd_cmdDone_ne _ _ _ _ (by decide) (by decide),
      rd_cmdDone_same _ _ _ (by decide), rd_cmdDone_ne _ _ _ _ (by decide) (by decide), cmdDone_gong, hg, hs, ht]
    exact ⟨rfl, rfl, rfl, rfl, rfl, rfl, rfl⟩
  · intro s hst hup
    have hd : exec .gongCtrlRestart s = done ((s.fabric 3 0).rejectGong 0) := by
      have hc : ¬ ((s.fabric 3 0).rd Gong.gongState = 3 && (s.fabric 3 0).rd Gong.restartMode = 0
          && !((s.fabric 3 0).roundDue && (s.fabric 3 0).dieAbove)) = true := by
        rcases hst with h | h <;> simp [h]
      exact congrArg done ((hostRow_up s _ hup).trans (if_neg hc))
    obtain ⟨hg, hs, hc⟩ := rejectGong_leaves (s.fabric 3 0) 0
    refine completesWith_of_done hd ?_
    rw [rd_settle _ _ kS, rd_settle _ _ kC, settle_gong, hg, hs, hc]
    exact ⟨rfl, rfl, rfl⟩
end

section
/-! Proofs, writes of rung 8 demands (R24, R98): a scheduled action of the rung and actuator in the same HCLK wins over the write. -/

set_option Elab.async false

namespace Sys2Proof.Machine

/-- A write within its range that a scheduled action of its HCLK beats leaves the state: no demand is stored, and it has no completion record
(R24, R98). -/
theorem demandWrite_of_beaten (s : State) (a : Nat) (v : Int) (hr : s.inRange a v true = true) (hb : s.beaten 8 a = true) :
    s.demandWrite a v = s := by
  simp [State.demandWrite, State.carryOut, State.completeAt, hr, hb]

/-- PD_DEMAND_WRITE beside such an action: the access and its note alone. -/
theorem exec_pdDemandWrite_of_beaten (s : State) (d : Fin 96) (v : Byte) (hup : s.hostUp = true)
    (he : s.earlyNow.contains (Pd.pdDemand d) = false) (hr : (s.fabric 3 0).inRange (aPd d) v.toNat true = true)
    (hb : (s.fabric 3 0).beaten 8 (aPd d) = true) :
    exec (.pdDemandWrite d v) s = .next ((s.fabric 3 0).noteWrite (Pd.pdDemand d)).settle := by
  have hw : (s.fabric 3 0).pdDemandWrite d v.toNat 0 = s.fabric 3 0 := (if_pos hr).trans (demandWrite_of_beaten _ _ _ hr hb)
  have ho : (s.fabric 3 0).hostOnce (Pd.pdDemand d) (fun s => s.pdDemandWrite d v.toNat 0) = (s.fabric 3 0).noteWrite (Pd.pdDemand d) := by
    unfold State.hostOnce
    rw [earlyNow_fabric, he]
    exact congrArg (State.noteWrite · _) hw
  exact congrArg done ((hostRow_up s _ hup).trans ho)

/-- A hub out of reset in whose present HCLK a scheduled action of rung 8 has reached power domain 0. -/
def pd0JustScheduled : State := { hub := { schedAt := [(8 * 65536 + aPd 0, 0)] }, start := { hubUp := true } }

end Sys2Proof.Machine
end

section
open Sys2Proof Sys2Proof.Machine

/-- Refutes O15: the clauses leave out R24. Where a scheduled action of rung 8 reached power domain 0 in the same HCLK, it wins: a write of 1 to
PD_DEMAND, in range, leaves PD_DEMAND at 0. -/
theorem not_demandWritesComplete : ¬ Obligations.DemandWritesComplete := by
  intro h
  obtain ⟨-, -, -, -, hpd, -, -⟩ := h
  obtain ⟨t, ht, hd, -⟩ := hpd pd0JustScheduled 0 1 (by decide) rfl rfl
  rw [exec_pdDemandWrite_of_beaten pd0JustScheduled 0 1 rfl rfl rfl (by decide)] at ht
  have hk : Pd.pdDemand (0 : Fin 96) ∉ levelKeys := by decide
  rw [← Host.Outcome.next.inj ht, rd_settle _ _ hk, rd_noteWrite, rd_fabric] at hd
  exact absurd hd (by decide +kernel)
end

section
/-! Proofs, faults of phases, their retirement and shedding (R30, R68, R130 to R136, R151). -/

namespace Sys2Proof.Machine

/-! ### Decisions to retire (R130) -/

/-- The decision for a phase that is not retired and has none. -/
theorem decideRetire_of_none (s : State) (p cause : Nat) (h5 : s.rd (Ph.phState p) ≠ 5) (hd : (s.ph p).decided = none) :
    s.decideRetire p cause = s.setPh p { s.ph p with decided := some cause, decidedAt := s.hclk } := by
  simp [State.decideRetire, State.decideRetireAt, h5, hd]

/-- A retirement is due from the instant of its decision on. -/
theorem retireDue_of_decided {s : State} {p c : Nat} (h : (s.ph p).decided = some c) (ht : (s.ph p).decidedAt ≤ s.hclk) :
    s.retireDue p = true := by simp [State.retireDue, h, ht]

/-- An instant that is not held, or lies far enough back. -/
theorem none_or_elapsed {s : State} {o : Option Nat} {k : Nat} (h : o.all (fun x => decide (x + k ≤ s.hclk)) = true) :
    o = none ∨ ∃ t, o = some t ∧ s.elapsed t k = true := by
  cases o with
  | none => exact .inl rfl
  | some t => exact .inr ⟨t, rfl, h⟩

/-- The subs of the rails, phases, domains, loops, sensors and partitions are no levels. -/
theorem not_levelKeys_of_index {k : Nat} (h : 0x2000 * 256 ≤ k ∧ k < 0x8000 * 256) : k ∉ levelKeys := fun hk => by
  have hl : ∀ j ∈ levelKeys, j < 0x2000 * 256 ∨ 0x8000 * 256 ≤ j := by decide +kernel
  have := hl k hk
  omega

/-! ### What evaluating a Brush code leaves -/

/-- A completion changes the two rings, what is to be notified and, by its cause, the dictionary. -/
theorem completeAt_eq (s : State) (x : Txn) (o : TxnOutcome) (src v : Int) (b k : Nat) :
    s.completeAt x o src v b k = { s with
      dict := (s.completeAt x o src v b k).dict, notify := (s.completeAt x o src v b k).notify
      hub := { s.hub with ringH := (s.completeAt x o src v b k).hub.ringH, ringM := (s.completeAt x o src v b k).hub.ringM } } := by
  unfold State.completeAt
  split
  · rfl
  · dsimp only
    split
    · split
      · unfold when
        split <;> rfl
      · rfl
    · split <;> rfl

theorem completeAt_rails (s : State) (x : Txn) (o : TxnOutcome) (src v : Int) (b k : Nat) : (s.completeAt x o src v b k).rails = s.rails := by
  rw [completeAt_eq]

theorem completeWaiting_rails (s : State) (w : Waiting) (o : TxnOutcome) (src v : Int) : (s.completeWaiting w o src v).rails = s.rails := by
  unfold State.completeWaiting State.complete
  split
  · split <;> exact completeAt_rails _ _ _ _ _ _ _
  · exact completeAt_rails _ _ _ _ _ _ _

theorem finishWaiting_rails (s : State) (pick : Waiting → Bool) (o : Waiting → TxnOutcome × Int × Int) :
    (s.finishWaiting pick o).rails = s.rails :=
  forEach_keeps (fun t => t.rails = s.rails) _ (fun w t => t.completeWaiting w (o w).1 (o w).2.1 (o w).2.2) _
    (fun _ _ h => (completeWaiting_rails _ _ _ _ _).trans h) rfl

theorem showSrc_rails (s : State) (a : Nat) (v : Int) : (s.showSrc a v).rails = s.rails := by
  unfold State.showSrc
  dsimp only
  split <;> rfl

theorem applyBrush_rails (s : State) (q : Nat) (v : Int) : (s.applyBrush q v).rails = s.rails := by
  unfold State.applyBrush
  rw [sendRing_eq]
  exact showSrc_rails _ _ _

/-- The kind of a Brush actuator is 3. -/
theorem aBrush_kind {q : Nat} (h : q < 4096) : aBrush q / 4096 = 3 := by
  unfold aBrush actOf
  omega

theorem reeval_aBrush_rails (s : State) {q : Nat} (h : q < 4096) : (s.reeval (aBrush q)).rails = s.rails := by
  unfold State.reeval State.clampWaiting State.resolve
  rw [finishWaiting_rails, aBrush_kind h]
  exact applyBrush_rails _ _ _

/-- The release of rung 2 withdraws its Brush ranges, which leaves the rails. -/
theorem releaseRung2_rails (s : State) (l : List Nat) (hl : ∀ q ∈ l, q < 4096) :
    (forEach l (fun q s => (s.setRange 2 (aBrush q) none).reeval (aBrush q)) s).rails = s.rails := by
  refine forEach_keeps_mem (fun t => t.rails = s.rails) (fun q hq u hu => ?_) rfl
  exact (reeval_aBrush_rails _ (hl q hq)).trans hu

/-- A partition whose domain is on a rail is one of 128. -/
theorem ptsOf_lt {s : State} {n q : Nat} (h : q ∈ s.ptsOf n) : q < 4096 := by
  have := List.mem_range.mp (List.mem_filter.mp h).1
  omega

/-! ### What evaluating the phase count of a rail that is off leaves -/

theorem rd_completeAt (s : State) (x : Txn) (o : TxnOutcome) (src v : Int) (b k : Nat) {j : Nat} (hj : j ≠ Irq.irqStatus) :
    (s.completeAt x o src v b k).rd j = s.rd j := by
  unfold State.completeAt
  split
  · rfl
  · dsimp only
    split
    · split
      · unfold when
        split
        · exact rd_cause_ne _ _ _ hj
        · rfl
      · rfl
    · split <;> rfl

theorem rd_completeWaiting (s : State) (w : Waiting) (o : TxnOutcome) (src v : Int) {j : Nat} (hj : j ≠ Irq.irqStatus) :
    (s.completeWaiting w o src v).rd j = s.rd j := by
  unfold State.completeWaiting State.complete
  split
  · split <;> exact rd_completeAt _ _ _ _ _ _ _ hj
  · exact rd_completeAt _ _ _ _ _ _ _ hj

/-- Completions touch IRQ_STATUS alone among the subs (R111). -/
theorem rd_finishWaiting (s : State) (pick : Waiting → Bool) (o : Waiting → TxnOutcome × Int × Int) {j : Nat} (hj : j ≠ Irq.irqStatus) :
    (s.finishWaiting pick o).rd j = s.rd j :=
  forEach_keeps (fun t => t.rd j = s.rd j) _ (fun w t => t.completeWaiting w (o w).1 (o w).2.1 (o w).2.2) _
    (fun _ _ h => (rd_completeWaiting _ _ _ _ _ hj).trans h) rfl

theorem aPhase_kind {n : Nat} (h : n < 4096) : aPhase n / 4096 = 4 ∧ aPhase n % 4096 = n := by
  unfold aPhase actOf
  omega

theorem showSrc_aPhase (s : State) (v : Int) {n : Nat} (h : n < 4096) :
    s.showSrc (aPhase n) v = s.wr (SrcRail.srcRail n) (putField (s.rdN (SrcRail.srcRail n)) 4 4 v.toNat) := by
  unfold State.showSrc
  rw [(aPhase_kind h).1, (aPhase_kind h).2]
  rfl

/-- Of a rail that is off no phase is added, and it enters neither REGULATE nor SHED (R122, R145): from index 2800 on no sub changes. -/
theorem rd_reeval_aPhase_off (s : State) {n k : Nat} (hn : n < 8) (hoff : s.rd (Rail.railState n) = 0) (hk : 0x2800 * 256 ≤ k) :
    (s.reeval (aPhase n)).rd k = s.rd k := by
  obtain ⟨hkind, hinst⟩ := aPhase_kind (n := n) (by omega)
  have hne : ∀ j, j < 0x2800 * 256 → k ≠ j := fun j hj => by omega
  have shown : ∀ v w, (((s.wr (Rail.phFloor n) v).showSrc (aPhase n) w).rd k = s.rd k)
      ∧ ((s.wr (Rail.phFloor n) v).showSrc (aPhase n) w).rd (Rail.railState n) = 0 := fun v w => by
    rw [showSrc_aPhase _ _ (by omega)]
    constructor
    · rw [rd_wr_ne _ _ _ _ (hne _ (by simp only [SrcRail.srcRail]; omega)), rd_wr_ne _ _ _ _ (hne _ (by simp only [Rail.phFloor]; omega))]
    · rw [rd_wr_ne _ _ _ _ (by simp only [SrcRail.srcRail, Rail.railState]; omega),
        rd_wr_ne _ _ _ _ (by simp only [Rail.phFloor, Rail.railState]; omega), hoff]
  unfold State.reeval State.clampWaiting State.resolve
  rw [rd_finishWaiting _ _ _ (hne _ (by decide)), hkind, hinst]
  dsimp only
  unfold State.applyPhase State.fitPhases State.regulateOrShed
  have hr : ∀ v w, ((s.wr (Rail.phFloor n) v).showSrc (aPhase n) w).railState n = 0 := fun v w => (shown v w).2
  rw [if_neg (by simp [State.regulating, hr])]
  unfold when
  rw [if_neg (by simp [State.regulating, hr])]
  exact (shown _ _).1

/-! ### RETIRE_CLEAR (R136) -/

theorem fit_phState_zero : ∀ p, p < 96 → fit (Ph.phState p) 0 = 0 := by decide +kernel

/-- A phase of a rail has a number below 96. -/
theorem phasesOf_lt_96 {n p : Nat} (h : p ∈ Config.phasesOf n) : p < 96 := by
  obtain ⟨i, hi, rfl⟩ := List.mem_range'.mp h
  unfold Config.phSpan at hi ⊢
  split at hi <;> simp only at hi ⊢ <;> omega

/-- One retired phase is available again. -/
def clearRetired (p : Nat) (s : State) : State :=
  if s.rd (Ph.phState p) = 5 then (s.wr (Ph.phState p) 0).setPh p { s.ph p with fails := 0, limRun := 0, persRun := 0, derated := false } else s

/-- RETIRE_CLEAR clears the rail's phases one by one. -/
theorem retireClear_eq (s : State) (n x : Nat) (h : s.railState n = 0) :
    s.retireClear n x = ((((forEach (Config.phasesOf n) clearRetired s).rung2Phases n).ilimEff n).reeval (aPhase n)).cause 1 := if_pos h

theorem rd_clearRetired_ne (p : Nat) (s : State) {k : Nat} (h : k ≠ Ph.phState p) : (clearRetired p s).rd k = s.rd k := by
  unfold clearRetired
  split
  · exact rd_wr_ne _ _ _ _ h
  · rfl

theorem rd_clearRetired_same {p : Nat} (hp : p < 96) (s : State) (h : s.rd (Ph.phState p) = 5 ∨ s.rd (Ph.phState p) = 0) :
    (clearRetired p s).rd (Ph.phState p) = 0 := by
  unfold clearRetired
  split
  · exact (rd_wr_same _ _ _).trans (fit_phState_zero p hp)
  · exact h.resolve_left (by assumption)

/-- Clearing the phases of a list clears a retired one on it. -/
theorem rd_clearRetired_loop {l : List Nat} {p : Nat} (hp : p < 96) (hl : p ∈ l) (s : State) (h5 : s.rd (Ph.phState p) = 5) :
    (forEach l clearRetired s).rd (Ph.phState p) = 0 := by
  have keep : ∀ b u, u.rd (Ph.phState p) = 0 → (clearRetired b u).rd (Ph.phState p) = 0 := fun b u hu => by
    by_cases hb : b = p
    · subst hb
      exact rd_clearRetired_same hp u (.inr hu)
    · rw [rd_clearRetired_ne b u (by simp only [Ph.phState]; omega), hu]
  refine forEach_reaches (fun u => u.rd (Ph.phState p) = 5 ∨ u.rd (Ph.phState p) = 0) (fun u => u.rd (Ph.phState p) = 0) hl
    (fun b _ u hu => ?_) (fun u hu => rd_clearRetired_same hp u hu) (fun b _ => keep b) (.inl h5)
  by_cases hb : b = p
  · subst hb
    exact .inr (rd_clearRetired_same hp u hu)
  · rwa [rd_clearRetired_ne b u (by simp only [Ph.phState]; omega)]

/-- After RETIRE_CLEAR a phase that was retired is OFF. -/
theorem rd_retireClear_phState (s : State) {n p x : Nat} (hn : n < 8) (hoff : s.railState n = 0) (hp : p ∈ Config.phasesOf n)
    (h5 : s.rd (Ph.phState p) = 5) : (s.retireClear n x).rd (Ph.phState p) = 0 := by
  have hrail : ∀ k, k / 256 < 0x2800 → (forEach (Config.phasesOf n) clearRetired s).rd k = s.rd k := fun k hk =>
    rd_forEach _ _ _ _ fun a u => rd_clearRetired_ne a u (by simp only [Ph.phState]; omega)
  have hshow : ∀ u : State, ∀ k, k ∉ [Rail.phAvail n, Rail.retireClear n, Rail.ilimEff n] →
      ((u.rung2Phases n).ilimEff n).rd k = u.rd k := fun u k hk => by
    simp only [List.mem_cons, List.not_mem_nil, or_false, not_or] at hk
    obtain ⟨h1, h2, h3⟩ := hk
    unfold State.ilimEff State.rung2Phases
    rw [rd_wr_ne _ _ _ _ h3, rd_wr_ne _ _ _ _ h2]
    exact rd_wr_ne _ _ _ _ h1
  rw [retireClear_eq s n x hoff, rd_cause_ne _ _ _ (by simp only [Ph.phState, Irq.irqStatus]; omega), rd_reeval_aPhase_off _ hn ?_ ?_,
    hshow, rd_clearRetired_loop (phasesOf_lt_96 hp) hp s h5]
  · simp only [List.mem_cons, List.not_mem_nil, or_false, not_or, Ph.phState, Rail.phAvail, Rail.retireClear, Rail.ilimEff]
    omega
  · rw [hshow, hrail _ (by simp only [Rail.railState]; omega)]
    · exact hoff
    · simp only [List.mem_cons, List.not_mem_nil, or_false, not_or, Rail.railState, Rail.phAvail, Rail.retireClear, Rail.ilimEff]
      omega
  · simp only [Ph.phState]
    omega

end Sys2Proof.Machine
end

section
open Sys2Proof Sys2Proof.Machine

/-- Settles O9: under its clause's conditions each command takes the one branch that the clause names. -/
theorem phaseFaultsAndSheddingComplete : Obligations.PhaseFaultsAndSheddingComplete := by
  refine ⟨?_, ?_, ?_, ?_, ?_, ?_, ?_, ?_, ?_, ?_, ?_, ?_, ?_⟩
  · intro s n x hx hen hreg hel hfl
    show execShedDwellExpiry n s = _
    unfold execShedDwellExpiry
    rw [hx]
    exact congrArg done (if_pos (by simp [hen, hreg, elapsed_iff, hel, hfl]))
  · intro s p x hty har hlow hon hoff hel h5 hdec
    have hd : exec (.zeroCurrentDecision p) s = done ((s.setPh p { s.ph p with zeroArmed := false }).decideRetire p 2) :=
      congrArg done (if_pos (by simp [hty, har, hlow, hon, hoff, elapsed_iff, hel]))
    refine completesWith_of_done hd ?_
    rw [decideRetire_of_none _ _ _ (by simpa using h5) (by simp [hdec]), ph_settle, ph_setPh_same, ph_setPh_same]
    exact ⟨rfl, rfl⟩
  · intro s p f onSlot hty hen htest
    exact congrArg done ((if_neg (by simp [hty, hen, htest])).trans (if_pos (by simp [State.frameTaken])))
  · intro s p f hty hen htest hcrc
    exact congrArg done ((if_neg (by simp [hty, hen, htest])).trans (if_neg (by simp [State.frameTaken, hty, hen, htest, hcrc])))
  · intro s p f a b hno
    exact congrArg done (if_pos (by simpa [or_assoc] using hno))
  · intro s p hty hen h5 hdec hel
    have hd : exec (.tlmLost p) s = done ((s.bump (Ph.tlmMissed p) 4).decideRetire p 3) :=
      congrArg done (if_pos (by simp [hty, hen, h5, elapsed_iff, hel]))
    refine completesWith_of_done hd ?_
    have hk : Ph.phState p ≠ Ph.tlmMissed p := by simp only [Ph.phState, Ph.tlmMissed]; omega
    rw [decideRetire_of_none _ _ _ (by rwa [rd_bump_ne _ _ _ _ hk]) (by simp [hdec]), ph_settle, ph_setPh_same, rd_settle _ _ ?_, rd_setPh,
      rd_bump_same]
    · exact ⟨rfl, rfl⟩
    · exact not_levelKeys_of_index (by simp only [Ph.tlmMissed]; omega)
  · intro s p x hx hel h4 hdec
    show execExclusionTimeout p s = _
    unfold execExclusionTimeout
    rw [hx]
    exact congrArg done ((if_pos ((elapsed_iff _ _ _).mpr hel)).trans (decideRetire_of_none s p 6 (by rw [h4]; decide) hdec))
  · intro s p c hdec hat hc
    show execPhaseRetire p s = _
    unfold execPhaseRetire
    rw [hdec]
    exact congrArg done ((if_pos (retireDue_of_decided hdec hat)).trans (if_neg (by simpa using hc)))
  · intro s p hdec hat
    show execPhaseRetire p s = _
    unfold execPhaseRetire
    rw [hdec]
    exact congrArg done (if_pos (retireDue_of_decided hdec hat))
  · intro s p hen hpwm hel hoff
    exact congrArg done (if_pos (by simpa [hen, hpwm, elapsed_iff, hel] using hoff))
  · intro s n hr hhit hret hlat
    have hd : exec (.rung2Release n) s = done (forEach (s.ptsOf n) (fun q s => (s.setRange 2 (aBrush q) none).reeval (aBrush q))
        (s.setRail n { s.rail n with rung2 := false })) := by
      refine congrArg done (if_pos ?_)
      rcases none_or_elapsed hhit with h1 | ⟨t1, h1, e1⟩ <;> rcases none_or_elapsed hret with h2 | ⟨t2, h2, e2⟩ <;>
        rcases none_or_elapsed hlat with h3 | ⟨t3, h3, e3⟩ <;> simp [*]
    refine completesWith_of_done hd ?_
    rw [rail_settle, State.rail, releaseRung2_rails _ _ (fun q hq => ptsOf_lt hq), tabGet_rails, rail_setRail_same]
  · intro s p h5 hoff hdec hup
    have hoff' : (s.fabric 3 0).railState (Config.phRail p) = 0 := hoff
    refine congrArg done ((hostRow_up s _ hup).trans ((if_neg ?_).trans (decideRetire_of_none _ _ _ h5 hdec)))
    simp [h5, hoff']
  · intro s n hoff hup
    refine completesWith_of_done (congrArg done (hostRow_up s _ hup)) fun p hp h5 => ?_
    have hk : p < 96 := phasesOf_lt_96 hp
    rw [rd_settle _ _ (not_levelKeys_of_index (by simp only [Ph.phState]; omega)), rd_retireClear_phState (s.fabric 3 0) n.isLt hoff hp h5]
end

section
/-! Proofs, the satellite ring (R15, R16): what hearing the hub does to a satellite, and what a message, an isolation and a broken lane leave. -/

set_option Elab.async false

namespace Sys2Proof.Machine

/-! ### A satellite hears the hub (R16) -/

/-- A satellite that is not isolated only notes the instant. -/
theorem hear_of_heard (s : State) (sat : Nat) (h : (s.sat sat).isolated = false) :
    s.hear sat = s.setSat sat { s.sat sat with lastGood := s.hclk } := if_neg (by simp [h])

theorem pdSoftOff_eq (s : State) (d : Nat) :
    s.pdSoftOff d = { s with dict := (s.pdSoftOff d).dict, pds := (s.pdSoftOff d).pds } := by
  unfold State.pdSoftOff
  split
  · rfl
  · dsimp only
    split
    · rfl
    · split <;> rfl

theorem cdRejoin_spares (s : State) {c : Nat} (hc : c < 4096) (relock : Bool) : Spares s (s.cdRejoin c relock) := by
  have h1 : Spares s (when relock (fun s => s.wr (Cd.dcoLock c) 0) s) := (Spares.refl s).when_ fun h => h.wr
  unfold State.cdRejoin
  refine (h1.when_ fun h => ?_).gateReleased hc
  exact h.setDcu.requestForce hc

/-- A satellite that leaves isolation changes no other satellite's record, nor the time or the keep-alive's instant. -/
theorem rejoin_ring (s : State) (sat : Nat) :
    (s.rejoin sat).hub.sats = (s.setSat sat { s.sat sat with isolated := false, ftPend := false }).hub.sats
      ∧ (s.rejoin sat).hclk = s.hclk ∧ (s.rejoin sat).hub.keepAt = s.hub.keepAt := by
  unfold State.rejoin
  dsimp only
  split
  · have h := cdRejoin_spares (s.setSat sat { s.sat sat with isolated := false, ftPend := false }) (c := sat) (by omega) (s.sat sat).ftPend
    exact ⟨h.sats, h.hclk, h.keepAt⟩
  · unfold when
    split
    · dsimp only
      rw [pdSoftOff_eq]
      exact ⟨rfl, rfl, rfl⟩
    · exact ⟨rfl, rfl, rfl⟩

/-- Hearing the hub: the satellite is not isolated and heard it now; every other one stays as it was. -/
theorem hear_facts (s : State) (sat : Nat) :
    (s.hear sat).hclk = s.hclk ∧ (s.hear sat).hub.keepAt = s.hub.keepAt ∧ ((s.hear sat).sat sat).isolated = false
      ∧ ((s.hear sat).sat sat).lastGood = s.hclk ∧ ∀ c, c ≠ sat → (s.hear sat).sat c = s.sat c := by
  cases hi : (s.sat sat).isolated with
  | false =>
    rw [hear_of_heard s sat hi, sat_setSat_same]
    exact ⟨rfl, rfl, hi, rfl, fun c hc => sat_setSat_ne _ _ _ _ hc⟩
  | true =>
    obtain ⟨hs, hh, hk⟩ := rejoin_ring (s.setSat sat { s.sat sat with lastGood := s.hclk }) sat
    have e : s.hear sat = (s.setSat sat { s.sat sat with lastGood := s.hclk }).rejoin sat := if_pos hi
    have hsat : ∀ c, (s.hear sat).sat c = ((s.setSat sat { s.sat sat with lastGood := s.hclk }).setSat sat
        { (s.setSat sat { s.sat sat with lastGood := s.hclk }).sat sat with isolated := false, ftPend := false }).sat c := fun c => by
      rw [State.sat, e, hs]
      rfl
    refine ⟨by rw [e, hh]; rfl, by rw [e, hk]; rfl, ?_, ?_, fun c hc => ?_⟩
    · rw [hsat, sat_setSat_same]
    · rw [hsat, sat_setSat_same, sat_setSat_same]
    · rw [hsat, sat_setSat_ne _ _ _ _ hc, sat_setSat_ne _ _ _ _ hc]

/-! ### The keep-alive (R16) -/

/-- After the keep-alive every satellite with a working lane has heard the hub now and is not isolated. -/
theorem keepalive_heard (s : State) {c : Nat} {r : SatInt} (hm : (c, r) ∈ s.hub.sats) (hw : (r.broken0 && r.broken1) = false) :
    (s.keepalive.sat c).isolated = false ∧ (s.keepalive.sat c).lastGood = s.hclk := by
  have hl : (c, r) ∈ s.hub.sats.filter (fun e => !(e.2.broken0 && e.2.broken1)) := List.mem_filter.mpr ⟨hm, by simp only [hw, Bool.not_false]⟩
  have reach := forEach_reaches (f := fun (e : Nat × SatInt) s => s.hear e.1) (s := { s with hub := { s.hub with keepAt := s.hclk } })
    (fun u => u.hclk = s.hclk) (fun u => u.hclk = s.hclk ∧ (u.sat c).isolated = false ∧ (u.sat c).lastGood = s.hclk) hl
    (fun b _ u hu => (hear_facts u b.1).1.trans hu) (fun u hu => ?_) (fun b _ u hu => ?_) rfl
  · exact reach.2
  · obtain ⟨hh, -, hi, hg, -⟩ := hear_facts u c
    exact ⟨hh.trans hu, hi, hg.trans hu⟩
  · obtain ⟨hh, -, hi, hg, ho⟩ := hear_facts u b.1
    by_cases hb : c = b.1
    · rw [hb]
      exact ⟨hh.trans hu.1, hi, hg.trans hu.1⟩
    · rw [ho c hb]
      exact ⟨hh.trans hu.1, hu.2⟩

theorem keepalive_keepAt (s : State) : s.keepalive.hub.keepAt = s.hclk :=
  forEach_keeps_mem (fun u => u.hub.keepAt = s.hclk) (fun b _ u hu => (hear_facts u b.1).2.1.trans hu) rfl

/-- What the keep-alive leaves where no satellite is isolated. -/
structure RingQuiet (s u : State) : Prop where
  heard : ∀ c, (u.sat c).isolated = false
  ring : u.hub.ring = s.hub.ring
  dcus : u.dcus = s.dcus
  pds : u.pds = s.pds
  dict : u.dict = s.dict

theorem keepalive_quiet (s : State) (h : ∀ c, (s.sat c).isolated = false) : RingQuiet s s.keepalive := by
  refine forEach_keeps_mem (RingQuiet s) (fun b _ u hu => ?_) ⟨h, rfl, rfl, rfl, rfl⟩
  rw [hear_of_heard u b.1 (hu.heard b.1)]
  refine ⟨fun c => ?_, hu.ring, hu.dcus, hu.pds, hu.dict⟩
  by_cases hc : c = b.1
  · rw [hc, sat_setSat_same]
    exact hu.heard b.1
  · rw [sat_setSat_ne _ _ _ _ hc]
    exact hu.heard c

/-! ### A ratio message at a satellite (R15, R17) -/

theorem showSrc_hub (s : State) (a : Nat) (v : Int) : (s.showSrc a v).hub = s.hub := by
  unfold State.showSrc
  dsimp only
  split <;> rfl

theorem dcuTake_hub (s : State) (c : Nat) (code : Int) : (s.dcuTake c code).hub = s.hub := by
  unfold State.dcuTake
  split
  · split
    · exact showSrc_hub _ _ _
    · rfl
  · rfl

/-- A DCU without a ceiling of its own takes the code. -/
theorem rd_dcuTake_free (s : State) (c : Nat) (code : Int) (h : s.rung3Ceil c = none) :
    (s.dcuTake c code).rd (Cd.ratioOut c) = fit (Cd.ratioOut c) code := by
  unfold State.dcuTake
  rw [h]
  exact rd_wr_same _ _ _

/-- A DCU refuses a code above its own ceiling. -/
theorem rd_dcuTake_refused (s : State) {c : Nat} (hc : c < 64) {code hi : Int} (h : s.rung3Ceil c = some hi) (hv : hi < code) :
    (s.dcuTake c code).rd (Cd.ratioOut c) = s.rd (Cd.ratioOut c) := by
  have hk : aRatio c / 4096 = 1 ∧ aRatio c % 4096 = c := by
    unfold aRatio actOf
    omega
  unfold State.dcuTake
  rw [h]
  dsimp only
  rw [if_pos hv]
  unfold State.showSrc
  rw [hk.1, hk.2]
  exact rd_wr_ne _ _ _ _ (by simp only [Cd.ratioOut, SrcCd.srcCd]; omega)

/-- A bad copy leaves its lane, which changes the ring alone (R16). -/
theorem ringMessage_bad (s : State) (l : Fin 2) (sat : Nat) :
    s.ringMessage l sat false = { s with hub := { s.hub with ring := (s.ringMessage l sat false).hub.ring } } := rfl

/-- The ring after the first copy of its one message was taken off a lane. -/
def ringTaken (l : Fin 2) (c : Nat) (v : Int) : List RingMsg := [⟨c, 0, v, decide (l ≠ 0), decide (l ≠ 1), true⟩]

/-- The first good copy of the ring's one message, a ratio, at a satellite that is not isolated: the satellite notes that it heard the hub, the
copy leaves its lane, and the DCU is offered the code. -/
theorem ringMessage_first (s : State) (l : Fin 2) {c : Nat} {v : Int} (hr : s.hub.ring = [⟨c, 0, v, true, true, false⟩]) (hc : c < 64)
    (hi : (s.sat c).isolated = false) :
    ∃ u : State, s.ringMessage l c true = u.dcuTake c v ∧ (u.sat c).isolated = false ∧ (u.sat c).lastGood = s.hclk
      ∧ u.hub.ring = ringTaken l c v ∧ u.dict = s.dict ∧ u.rung3Ceil c = s.rung3Ceil c := by
  have offered : ∀ (t : State) (r : SatInt), r.isolated = false → t.hclk = s.hclk → t.hub.ring = ringTaken l c v → t.dict = s.dict →
      t.rung3Ceil c = s.rung3Ceil c →
      ∃ u : State, ((t.setSat c r).hear c).ringDeliver c 0 v = u.dcuTake c v ∧ (u.sat c).isolated = false
        ∧ (u.sat c).lastGood = s.hclk ∧ u.hub.ring = ringTaken l c v ∧ u.dict = s.dict ∧ u.rung3Ceil c = s.rung3Ceil c := by
    intro t r hri hh hring hd hceil
    have hiso : ((t.setSat c r).sat c).isolated = false := by rw [sat_setSat_same, hri]
    rw [hear_of_heard _ _ hiso]
    refine ⟨_, if_pos hc, ?_, ?_, hring, hd, hceil⟩
    · rw [sat_setSat_same]
      exact hiso
    · rw [sat_setSat_same]
      exact hh
  have hw : (RingMsg.mk c 0 v true true false).waits l c = true := by
    match l with
    | 0 => simp [RingMsg.waits]
    | 1 => simp [RingMsg.waits]
  have ht : [(RingMsg.mk c 0 v true true false).take l].filter (fun m => m.on0 || m.on1) = ringTaken l c v := by
    match l with
    | 0 => rfl
    | 1 => rfl
  unfold State.ringMessage
  rw [hr]
  simp only [List.find?, mapFirst, hw, if_true, ht, Bool.not_true, Bool.false_eq_true, if_false]
  exact offered _ _ hi rfl rfl rfl rfl

/-! ### A broken lane (R16) -/

/-- A lane found broken at a satellite is marked and recorded; DCUs and power domains are as they were. -/
theorem exec_ringLaneDown (s : State) (l : Fin 2) (c : Fin 160) (h : (if l = 0 then (s.sat c).broken0 else (s.sat c).broken1) = false) :
    CompletesWith (.ringLaneDown l c) s (fun t => (t.sat c).broken0 = ((s.sat c).broken0 || l = 0)
      ∧ (t.sat c).broken1 = ((s.sat c).broken1 || l = 1) ∧ t.dcus = s.dcus ∧ t.pds = s.pds) := by
  refine completesWith_of_done (congrArg done (if_neg (by simp [h]))) ⟨?_, ?_, ?_, ?_⟩
  · rw [sat_settle, sat_record, sat_setSat_same]
  · rw [sat_settle, sat_record, sat_setSat_same]
  · rw [settle_dcus, record_dcus, setSat_dcus]
  · rw [settle_pds, record_pds, setSat_pds]

end Sys2Proof.Machine
end

section
open Sys2Proof Sys2Proof.Machine

/-- Settles O7: a satellite that hears the hub, a copy that is taken or discarded, an isolation and a broken lane, each by what it leaves. -/
theorem satelliteRingCompletes : Obligations.SatelliteRingCompletes := by
  refine ⟨?_, ?_, ?_, ?_, ?_, ?_, ?_, ?_⟩
  · intro s hel
    refine completesWith_of_done (congrArg done (if_pos ((elapsed_iff _ _ _).mpr hel))) ⟨?_, fun c r hm hw => ?_⟩
    · rw [settle_hub, keepalive_keepAt]
    · rw [sat_settle]
      exact keepalive_heard s hm hw
  · intro s hel hiso
    have q := keepalive_quiet s hiso
    refine completesWith_of_done (congrArg done (if_pos ((elapsed_iff _ _ _).mpr hel))) ⟨?_, ?_, ?_, ?_, fun k hk => ?_⟩
    · rw [settle_hub, keepalive_keepAt]
    · rw [settle_hub, q.ring]
    · rw [settle_dcus, q.dcus]
    · rw [settle_pds, q.pds]
    · rw [rd_settle _ _ hk, State.rd, q.dict, tabGet_dict]
  · intro s l c v hr hc hceil hi
    obtain ⟨u, he, hiso, hg, hring, -, hceil'⟩ := ringMessage_first s l hr hc hi
    have hs : (u.dcuTake c v).sat c = u.sat c := by rw [State.sat, dcuTake_hub, State.sat]
    refine completesWith_of_done (congrArg done he) ⟨?_, ?_, ?_, ?_⟩
    · rw [rd_settle _ _ (not_levelKeys_of_index (by simp only [Cd.ratioOut]; omega)), rd_dcuTake_free _ _ _ (hceil'.trans hceil)]
    · rw [sat_settle, hs, hiso]
    · rw [sat_settle, hs, hg]
    · rw [settle_hub, dcuTake_hub, hring]
      rfl
  · intro s l c v hi' hr hc hceil hv hi
    obtain ⟨u, he, -, -, hring, hd, hceil'⟩ := ringMessage_first s l hr hc hi
    refine completesWith_of_done (congrArg done he) ⟨?_, ?_⟩
    · rw [rd_settle _ _ (not_levelKeys_of_index (by simp only [Cd.ratioOut]; omega)), rd_dcuTake_refused _ hc (hceil'.trans hceil) hv, State.rd,
        hd, tabGet_dict]
    · rw [settle_hub, dcuTake_hub, hring]
      rfl
  · intro s l c
    refine completesWith_of_done (congrArg done (ringMessage_bad s l c)) ⟨?_, ?_, ?_, fun k hk => ?_⟩
    · rw [settle_hub]
    · rw [settle_dcus]
    · rw [settle_pds]
    · rw [rd_settle _ _ hk]
      rfl
  · intro s c hi hb hel
    refine completesWith_of_done (congrArg done (if_pos (by simp [hi, hb, elapsed_iff, hel]))) ⟨?_, ?_, ?_, fun d => ?_⟩
    · rw [sat_settle, sat_record, sat_setSat_same]
    · rw [settle_dcus, record_dcus, setSat_dcus]
    · rw [settle_pds, record_pds, setSat_pds]
    · rw [rd_settle _ _ (not_levelKeys_of_index (by simp only [Cd.ratioOut]; omega)),
        rd_record_ne _ _ _ _ _ _ _ (by simp only [Cd.ratioOut, Ev.recqLost]; omega) (ne_shelfLost (by simp only [Cd.ratioOut]; omega)), rd_setSat]
  · intro s c hb
    obtain ⟨t, ht, h0, h1, hd, hp⟩ := exec_ringLaneDown s 0 c hb
    exact ⟨t, ht, by simp [h0], by simp [h1], hd, hp⟩
  · intro s c hb
    obtain ⟨t, ht, h0, h1, hd, hp⟩ := exec_ringLaneDown s 1 c hb
    exact ⟨t, ht, by simp [h1], by simp [h0], hd, hp⟩
end

section
/-! Proofs, scheduled submissions of the host port (R21, R23, R25, R28, R109): the checks in their order, and the record each one leaves. -/

set_option Elab.async false

namespace Sys2Proof.Machine

/-! ### The fields of a completion record (R109) -/

/-- A record whose tag, outcome, source and tick fit their fields carries them. -/
theorem completionRecord_fields {tag o src tick beat : Nat} {v : Int} (ht : tag < 512) (ho : o < 16) (hs : src < 16) (hk : tick < 1024) :
    getField (completionRecord tag o src v tick beat).toNat 55 9 = tag
      ∧ getField (completionRecord tag o src v tick beat).toNat 51 4 = o := by
  have hv : (v % 65536).toNat < 65536 := by omega
  have hb : beat % 2 ^ 20 < 2 ^ 20 := Nat.mod_lt _ (by decide)
  unfold completionRecord getField
  rw [BitVec.toNat_ofNat, Nat.mod_eq_of_lt (by omega)]
  constructor <;> omega

/-- The outcome codes are below 8 (R28). -/
theorem code_lt (o : TxnOutcome) : o.code < 8 := by cases o <;> decide

/-- The tick within the beat fits its field (R7). -/
theorem tick_lt (s : State) : s.tick < 1024 := by
  unfold State.tick
  have := Nat.mod_lt s.beatHclk (show 0 < 800 by decide)
  omega

/-- The source shown for a set-point, a ratio or a power-domain state is a rung's number, 0xE or 0xF (1111, 1112, 1114). -/
theorem srcShown_lt (s : State) {a : Nat} (h : a / 4096 ≤ 2) : (s.srcShown a).toNat < 16 := by
  have hf : ∀ v lo, ((getField v lo 4 : Nat) : Int).toNat < 16 := fun v lo => by
    have : getField v lo 4 < 2 ^ 4 := Nat.mod_lt _ (by decide)
    omega
  have hk : a / 4096 = 0 ∨ a / 4096 = 1 ∨ a / 4096 = 2 := by omega
  unfold State.srcShown
  dsimp only
  rcases hk with h0 | h1 | h2
  · rw [h0]
    show (((s.rdN (SrcRail.srcRail (a % 4096)) : Nat) : Int) % 16).toNat < 16
    omega
  · rw [h1]
    exact hf _ _
  · rw [h2]
    exact hf _ _

/-- An owner of an edge of the walk of R31. -/
def ownerOk (r : Int) : Prop := 0 ≤ r ∧ r < 16

/-- A rung's step of the walk passes an edge to itself or to the other edge's owner. -/
theorem walkStep_owners {e : Edges} {r : Nat} {g : Option (Int × Int)} (hr : r < 16) (h : ownerOk e.loBy ∧ ownerOk e.hiBy) :
    ownerOk (walkStep e r g).loBy ∧ ownerOk (walkStep e r g).hiBy := by
  have h0 : ownerOk (r : Int) := ⟨by omega, by omega⟩
  unfold walkStep
  cases g with
  | none => exact h
  | some p =>
    dsimp only
    repeat' split
    all_goals simp [h, h0]

theorem edges_owners (s : State) (a : Nat) : ownerOk (s.edges a).loBy ∧ ownerOk (s.edges a).hiBy := by
  have step : ∀ (l : List Nat) (e : Edges), (∀ r ∈ l, r < 16) → ownerOk e.loBy ∧ ownerOk e.hiBy →
      ownerOk (l.foldl (fun e r => walkStep e r (s.contribR r a).range) e).loBy
        ∧ ownerOk (l.foldl (fun e r => walkStep e r (s.contribR r a).range) e).hiBy := by
    intro l
    induction l with
    | nil => exact fun _ _ h => h
    | cons r l ih => exact fun e hl h => ih _ (fun q hq => hl q (by simp [hq])) (walkStep_owners (hl r (by simp)) h)
  have h15 : ownerOk 15 := ⟨by decide, by decide⟩
  exact step _ _ (by decide) ⟨h15, h15⟩

/-- The rung of the highest demand is one of the walk's (R31). -/
theorem topDemand_lt (s : State) (a : Nat) {r : Nat} {d : Int} (h : s.topDemand a = some (r, d)) : r < 16 := by
  have step : ∀ l : List Nat, (∀ q ∈ l, q < 16) →
      l.foldr (fun r rest => match (s.contribR r a).demand with | some d => some (r, d) | none => rest) none = some (r, d) → r < 16 := by
    intro l
    induction l with
    | nil => exact fun _ h => by cases h
    | cons q l ih =>
      intro hl hf
      rw [List.foldr_cons] at hf
      split at hf
      · cases hf
        exact hl _ (by simp)
      · exact ih (fun p hp => hl p (by simp [hp])) hf
  exact step _ (by decide) h

/-- The source of a resolved value fits its field (R31, R109). -/
theorem sourceOf_lt (s : State) (a : Nat) : (s.sourceOf a).toNat < 16 := by
  obtain ⟨⟨l0, l1⟩, ⟨h0, h1⟩⟩ := edges_owners s a
  unfold State.sourceOf
  dsimp only
  split
  · omega
  · split
    · omega
    · split
      · omega
      · split
        · rename_i r d hd
          have := topDemand_lt s a hd
          omega
        · decide

/-! ### A completion of a host submission (R109, R110) -/

/-- A transaction of the host's present epoch enters its record in ring H; the rest of the hub is as it was. -/
theorem completeAt_hub (s : State) {x : Txn} {tag : Nat} (o : TxnOutcome) (src v : Int) (b k : Nat) (ht : x.tag = some tag)
    (hh : x.host = true) (he : x.epoch = s.hub.epoch) :
    (s.completeAt x o src v b k).hub = { s.hub with ringH := s.hub.ringH ++ [completionRecord tag o.code src.toNat v k b] } := by
  unfold State.completeAt
  rw [ht]
  dsimp only
  rw [if_pos hh, if_pos he]
  unfold when
  split <;> rfl

/-- The record of a completion at this instant, with the tag and the outcome it carries. -/
theorem complete_record (s : State) {x : Txn} {tag : Nat} (o : TxnOutcome) (src v : Int) (ht : x.tag = some tag)
    (hh : x.host = true) (he : x.epoch = s.hub.epoch) (htag : tag < 512) (hsrc : src.toNat < 16) :
    ∃ r, (s.complete x o src v).hub = { s.hub with ringH := s.hub.ringH ++ [r] } ∧ getField r.toNat 55 9 = tag
      ∧ getField r.toNat 51 4 = o.code :=
  ⟨_, completeAt_hub s o src v _ _ ht hh he, completionRecord_fields htag (by have := code_lt o; omega) hsrc (tick_lt s)⟩

/-! ### Supersession of an action of the same instant (R24) -/

/-- Superseding takes the earlier action from the scheduler's list; the rest of the hub but the rings is as it was. -/
theorem supersedeSame_hub (s : State) (x : Txn) (b k : Nat) :
    ∃ h m, (s.supersedeSame x b k).hub = { s.hub with sched := s.hub.sched.filter (fun e => !e.same x b k), ringH := h, ringM := m } := by
  refine forEach_keeps (fun u => ∃ h m, u.hub = { s.hub with sched := s.hub.sched.filter (fun e => !e.same x b k), ringH := h, ringM := m }) _ _ _
    (fun e u hu => ?_) ⟨_, _, rfl⟩
  obtain ⟨h, m, hu⟩ := hu
  unfold State.complete
  rw [completeAt_eq]
  exact ⟨_, _, by dsimp only; rw [hu]⟩

/-- With no such action nothing is superseded. -/
theorem supersedeSame_none (s : State) (x : Txn) (b k : Nat) (h : s.hub.sched.filter (fun e => e.same x b k) = []) :
    (s.supersedeSame x b k).hub.ringH = s.hub.ringH := by
  unfold State.supersedeSame
  rw [h]
  rfl

theorem rd_supersedeSame (s : State) (x : Txn) (b k : Nat) {j : Nat} (hj : j ≠ Irq.irqStatus) : (s.supersedeSame x b k).rd j = s.rd j :=
  rd_forEach _ _ _ _ fun _ _ => rd_completeAt _ _ _ _ _ _ _ hj

/-- The range of R26 follows subs of the rails, domains and phases, and the set-points and Brush codes under way. -/
theorem inRange_congr {s t : State} (hrd : ∀ k, k ≠ Irq.irqStatus → t.rd k = s.rd k) (hg : t.hub.goal = s.hub.goal)
    (hb : t.hub.brush = s.hub.brush) (a : Nat) (v : Int) (stepped : Bool) : t.inRange a v stepped = s.inRange a v stepped := by
  have r1 : ∀ i, t.rd (Rail.vfloor i) = s.rd (Rail.vfloor i) := fun i => hrd _ (by simp only [Rail.vfloor, Irq.irqStatus]; omega)
  have r2 : ∀ i, t.rd (Rail.vsetMax i) = s.rd (Rail.vsetMax i) := fun i => hrd _ (by simp only [Rail.vsetMax, Irq.irqStatus]; omega)
  have r3 : ∀ i, t.rd (Rail.vsetRes i) = s.rd (Rail.vsetRes i) := fun i => hrd _ (by simp only [Rail.vsetRes, Irq.irqStatus]; omega)
  have r4 : ∀ i, t.rd (Rail.phFloor i) = s.rd (Rail.phFloor i) := fun i => hrd _ (by simp only [Rail.phFloor, Irq.irqStatus]; omega)
  have r5 : ∀ i, t.rd (Cd.minCode i) = s.rd (Cd.minCode i) := fun i => hrd _ (by simp only [Cd.minCode, Irq.irqStatus]; omega)
  have r6 : ∀ i, t.rd (Cd.ratioRes i) = s.rd (Cd.ratioRes i) := fun i => hrd _ (by simp only [Cd.ratioRes, Irq.irqStatus]; omega)
  have r7 : ∀ i, t.rd (Pd.pdRes i) = s.rd (Pd.pdRes i) := fun i => hrd _ (by simp only [Pd.pdRes, Irq.irqStatus]; omega)
  have r8 : ∀ i, t.rd (Ph.phState i) = s.rd (Ph.phState i) := fun i => hrd _ (by simp only [Ph.phState, Irq.irqStatus]; omega)
  have hmin : t.minCode a = s.minCode a := by simp only [State.minCode, r1, r5]
  have hmax : t.maxCode a = s.maxCode a := by simp only [State.maxCode, State.retired, r2, r8]
  have hheld : t.held a = s.held a := by simp only [State.held, r3, r4, r6, r7, hg, hb]
  rw [State.inRange, State.inRange, hmin, hmax, hheld]

/-! ### A LATE action (R23) -/

/-- The sub that shows a demand is one of the rails', the clock domains' or the power domains'. -/
theorem demandSub_index {a k : Nat} (h : demandSub a = some k) : k / 256 ≠ 0x5090 := by
  have ha : a % 4096 < 4096 := Nat.mod_lt _ (by decide)
  unfold demandSub at h
  split at h
  · have := Option.some.inj h
    simp only [Rail.vsetDemand] at this
    omega
  · have := Option.some.inj h
    simp only [Cd.ratioDemand] at this
    omega
  · have := Option.some.inj h
    simp only [Pd.pdDemand] at this
    omega
  · cases h

theorem Spares.showDemand {s t : State} (h : Spares s t) {rung a : Nat} {d : Option Int} : Spares s (t.showDemand rung a d) := by
  unfold State.showDemand
  split
  · split
    · rename_i hk
      exact h.wrKey (demandSub_index hk)
    · exact h
  · exact h

/-- A demand replaced, and its actuator resolved. -/
theorem Spares.setDemand {s t : State} (h : Spares s t) {rung a : Nat} {d : Option Int} : Spares s (t.setDemand rung a d) := by
  have h1 : Spares s ((t.setContrib rung a { t.contrib rung a with demand := d }).showDemand rung a d) := (h.same (u := _)).showDemand
  unfold State.setDemand State.noteDirect
  exact h1.ite h1.same

/-- A LATE action that R26 fails leaves the record REJECTED_RANGE and nothing else. -/
theorem applyLate_failed (s : State) {x : Txn} {tag : Nat} (b k : Nat) (hr : s.passes x none = false) (ht : x.tag = some tag)
    (hh : x.host = true) (he : x.epoch = s.hub.epoch) (htag : tag < 512) (hk : x.act / 4096 ≤ 2) :
    ∃ r, (s.applyLate x b k none).hub = { s.hub with ringH := s.hub.ringH ++ [r] } ∧ getField r.toNat 55 9 = tag
      ∧ getField r.toNat 51 4 = 4 := by
  have e : s.applyLate x b k none = s.complete x .rejectedRange (s.srcShown x.act) (s.held x.act) := by
    have hr' : s.inRange x.act x.value (x.rung = 8) = false := hr
    simp [State.applyLate, State.carryOut, State.complete, when, hr, hr']
  rw [e]
  exact complete_record s .rejectedRange _ _ ht hh he htag (srcShown_lt s hk)

/-- The source that a LATE record names. -/
theorem lateSource_lt (s : State) {a : Nat} (h : a / 4096 ≤ 2) : (if s.srcShown a = 0xE then s.sourceOf a else s.srcShown a).toNat < 16 := by
  split
  · exact sourceOf_lt s a
  · exact srcShown_lt s h

/-- The scheduler's list a LATE action that passes R26 leaves alone; its record, LATE, comes last. -/
theorem applyLate_passed (s : State) {x : Txn} {tag : Nat} (b k : Nat) (hr : s.passes x none = true) (ht : x.tag = some tag)
    (hh : x.host = true) (he : x.epoch = s.hub.epoch) (htag : tag < 512) (hk : x.act / 4096 ≤ 2) :
    (s.applyLate x b k none).hub.sched = s.hub.sched ∧ ∃ r, (s.applyLate x b k none).hub.ringH.getLast? = some r
      ∧ getField r.toNat 55 9 = tag ∧ getField r.toNat 51 4 = 3 := by
  let u := ((s.supersedeWaiting x.rung x.act).setDemand x.rung x.act (some x.value)).reeval x.act
  have hu : Spares s u := (Spares.refl s).supersedeWaiting.setDemand.reeval
  have hr' : s.inRange x.act x.value (x.rung = 8) = true := hr
  have e : (s.applyLate x b k none).hub = (u.completeAt x .late (if u.srcShown x.act = 0xE then u.sourceOf x.act else u.srcShown x.act)
      (u.held x.act) s.beat s.tick).hub := by
    simp only [State.applyLate, State.carryOut, when, hr, hr', Bool.not_true, Bool.false_and, Bool.false_eq_true, if_false, if_true,
      State.verdict, record_hub, u]
  rw [e, completeAt_hub _ _ _ _ _ _ ht hh (he.trans hu.epoch.symm)]
  obtain ⟨f1, f2⟩ := completionRecord_fields (beat := s.beat) (v := u.held x.act) htag (by decide : TxnOutcome.late.code < 16)
    (lateSource_lt u hk) (tick_lt s)
  exact ⟨hu.sched, _, List.getLast?_concat .., f1, f2⟩

/-! ### An accepted submission of the host port (R106, R107) -/

/-- The instances of a kind fit its actuator numbers (R107). -/
theorem kindCount_le (k : Nat) : kindCount k ≤ 96 := by
  unfold kindCount
  split <;> decide

/-- A submission that is not discarded names a set-point, a ratio or a power-domain state (R107, R108). -/
theorem kind_of_accepted {s : State} {mctp : Bool} {w : WordA} (h : s.discardCode mctp w = none) : actOf w.kind w.inst / 4096 ≤ 2 := by
  have hc := kindCount_le w.kind
  have hki : ¬ 2 < w.kind ∧ ¬ kindCount w.kind ≤ w.inst := by
    unfold State.discardCode at h
    refine ⟨fun hk => ?_, fun hi => ?_⟩
    · rw [if_pos hk] at h
      split at h <;> cases h
    · rw [if_pos hi] at h
      repeat' split at h
      all_goals cases h
  unfold actOf
  omega

/-- The machine once it has taken the tag of a submission of the host port. -/
def takenTag (s : State) (w : WordA) : State :=
  { s.fabric 3 0 with hub := { s.hub with stagedA := none, tags := s.hub.tags ++ [w.tag] } }

/-- The transaction of a submission of the host port (R107, R110). -/
def hostTxn (s : State) (w : WordA) : Txn := ⟨some w.tag, s.hub.epoch, 8, actOf w.kind w.inst, w.value, true⟩

/-- An accepted scheduled submission goes to the scheduler. -/
theorem exec_submitB_scheduled (s : State) (a b : Word64) (hup : s.hostUp = true) (ha : s.hub.stagedA = some a)
    (hd : s.discardCode false (wordA a) = none) (hs : (wordA a).sched = true) :
    exec (.submitB b) s = done ((takenTag s (wordA a)).schedule (hostTxn s (wordA a)) b.toNat (wordA a).tick none) := by
  have ha' : (s.fabric 3 0).hub.stagedA = some a := ha
  have hd' : State.discardCode { s.fabric 3 0 with hub := { (s.fabric 3 0).hub with stagedA := none } } false (wordA a) = none := hd
  show done (s.hostRow (fun s => s.submitBWrite b)) = _
  rw [hostRow_up _ _ hup]
  dsimp only [State.submitBWrite]
  rw [ha']
  dsimp only [State.submit]
  rw [hd']
  dsimp only [State.accept]
  rw [if_pos hs]
  rfl

section
variable (s : State) (x : Txn) (b k : Nat)

/-- With no beat time a scheduled submission completes NOTIME (R25), past by more than 1,000 beats STALE (R21). -/
theorem schedule_untimely (h : s.noTime = true ∨ instant1024 b k - s.now1024 < -(1000 * 800 * 1024)) :
    s.schedule x b k none = s.complete x (if s.noTime then .notime else .stale) (s.srcShown x.act) (s.held x.act) := by
  unfold State.schedule
  cases hn : s.noTime with
  | true => rfl
  | false => simp_all

/-- Less than 64 HCLK ahead it is applied at once (R23). -/
theorem schedule_late (hn : s.noTime = false) (h0 : -(1000 * 800 * 1024) ≤ instant1024 b k - s.now1024)
    (h1 : instant1024 b k - s.now1024 < 64 * 1024) :
    s.schedule x b k none = (when (s.passes x none) (fun s => s.supersedeSame x b k) s).applyLate x b k none := by
  unfold State.schedule
  dsimp only
  rw [hn, if_neg Bool.false_ne_true, if_neg (Int.not_lt.mpr h0), if_pos h1]

/-- With every place of the scheduler taken it completes REJECTED_FULL (R21). -/
theorem schedule_full (hn : s.noTime = false) (h : 64 * 1024 ≤ instant1024 b k - s.now1024) (hl : 1024 ≤ s.hub.sched.length) :
    s.schedule x b k none = s.complete x .rejectedFull (s.srcShown x.act) (s.held x.act) := by
  have h0 : ¬ instant1024 b k - s.now1024 < -(1000 * 800 * 1024) := by omega
  have h1 : ¬ instant1024 b k - s.now1024 < 64 * 1024 := by omega
  unfold State.schedule
  dsimp only
  rw [hn, if_neg Bool.false_ne_true, if_neg h0, if_neg h1, if_pos hl]

/-- Otherwise it takes a place, and the action of its rung, actuator and instant loses its own (R21, R24). -/
theorem schedule_place (hn : s.noTime = false) (h : 64 * 1024 ≤ instant1024 b k - s.now1024) (hl : s.hub.sched.length < 1024) :
    (s.schedule x b k none).hub.ringH = (s.supersedeSame x b k).hub.ringH ∧ (s.schedule x b k none).hub.sched
      = s.hub.sched.filter (fun e => !e.same x b k) ++ [⟨x, b, k, s.hub.schedOrder, false, none⟩] := by
  have h0 : ¬ instant1024 b k - s.now1024 < -(1000 * 800 * 1024) := by omega
  have h1 : ¬ instant1024 b k - s.now1024 < 64 * 1024 := by omega
  obtain ⟨_, _, e⟩ := supersedeSame_hub s x b k
  unfold State.schedule
  dsimp only
  rw [hn, if_neg Bool.false_ne_true, if_neg h0, if_neg h1, if_neg (by omega)]
  exact ⟨rfl, by simp only [e]⟩

end

section
variable (s : State) {x : Txn} {tag : Nat} (b k : Nat) (ht : x.tag = some tag) (hh : x.host = true) (he : x.epoch = s.hub.epoch)
  (htag : tag < 512) (hk : x.act / 4096 ≤ 2)
include ht hh he htag hk

/-- An untimely submission of the host leaves its record: NOTIME with no beat time, else STALE (R21, R25). -/
theorem scheduleUntimely_record (h : s.noTime = true ∨ instant1024 b k - s.now1024 < -(1000 * 800 * 1024)) :
    (s.schedule x b k none).hub.sched = s.hub.sched ∧ (s.schedule x b k none).hub.lad = s.hub.lad
      ∧ ∃ r, (s.schedule x b k none).hub.ringH = s.hub.ringH ++ [r] ∧ getField r.toNat 55 9 = tag
        ∧ getField r.toNat 51 4 = (if s.noTime then 7 else 6) := by
  obtain ⟨r, e, f1, f2⟩ := complete_record s (if s.noTime then .notime else .stale) (s.srcShown x.act) (s.held x.act) ht hh he htag
    (srcShown_lt s hk)
  rw [schedule_untimely s x b k h, e]
  refine ⟨rfl, rfl, r, rfl, f1, f2.trans ?_⟩
  split <;> rfl

/-- With every place of the scheduler taken a submission of the host leaves its record, REJECTED_FULL (R21). -/
theorem scheduleFull_record (hn : s.noTime = false) (h : 64 * 1024 ≤ instant1024 b k - s.now1024) (hl : 1024 ≤ s.hub.sched.length) :
    (s.schedule x b k none).hub.sched = s.hub.sched
      ∧ ∃ r, (s.schedule x b k none).hub.ringH = s.hub.ringH ++ [r] ∧ getField r.toNat 55 9 = tag ∧ getField r.toNat 51 4 = 5 := by
  obtain ⟨r, e, f1, f2⟩ := complete_record s .rejectedFull (s.srcShown x.act) (s.held x.act) ht hh he htag (srcShown_lt s hk)
  rw [schedule_full s x b k hn h hl, e]
  exact ⟨rfl, r, rfl, f1, f2⟩

/-- What a LATE submission of the host leaves (R23): the action of its rung, actuator and instant gone where it passes R26, and its
record. -/
theorem scheduleLate_record (hn : s.noTime = false) (h0 : -(1000 * 800 * 1024) ≤ instant1024 b k - s.now1024)
    (h1 : instant1024 b k - s.now1024 < 64 * 1024) :
    (s.schedule x b k none).hub.sched = (if s.passes x none then s.hub.sched.filter (fun e => !e.same x b k) else s.hub.sched)
      ∧ ∃ r, (s.schedule x b k none).hub.ringH.getLast? = some r ∧ getField r.toNat 55 9 = tag
        ∧ getField r.toNat 51 4 = (if s.passes x none then 3 else 4) := by
  rw [schedule_late s x b k hn h0 h1]
  cases hp : s.passes x none with
  | false =>
    obtain ⟨r, e, f1, f2⟩ := applyLate_failed s b k hp ht hh he htag hk
    exact ⟨by simp [when, e], r, by simp [when, e], f1, f2⟩
  | true =>
    obtain ⟨l, m, e⟩ := supersedeSame_hub s x b k
    have hp' : (s.supersedeSame x b k).passes x none = true := by
      rw [← hp]
      exact inRange_congr (fun _ hj => rd_supersedeSame s x b k hj) (by rw [e]) (by rw [e]) _ _ _
    obtain ⟨g1, r, g2, f1, f2⟩ := applyLate_passed _ b k hp' ht hh (he.trans (by rw [e])) htag hk
    exact ⟨by simp [when, g1, e], r, by simp [when, g2], f1, f2⟩

end

end Sys2Proof.Machine
end

section
open Sys2Proof Sys2Proof.Machine

/-- Settles O49: an accepted submission enters `State.schedule`, whose tests are those of R21 in their order; the completions before the
LATE one append their record, and a LATE one leaves its own last. -/
theorem scheduledSubmissionsAreCheckedInTheOrderOfR21 : Obligations.ScheduledSubmissionsAreCheckedInTheOrderOfR21 := by
  have htag : ∀ a : Word64, (wordA a).tag < 512 := fun a => Nat.mod_lt _ (by decide)
  refine ⟨fun s a b hup ha hd hs h => ?_, fun s a b hup ha hd hs hn h0 h1 => ?_, fun s a b hup ha hd hs hn h0 hl => ?_,
    fun s a b hup ha hd hs hn h0 hl => ?_⟩
  all_goals
    refine completesWith_of_done (exec_submitB_scheduled s a b hup ha hd hs) ?_
    rw [settle_hub]
  · exact scheduleUntimely_record (takenTag s (wordA a)) (x := hostTxn s (wordA a)) _ _ rfl rfl rfl (htag a) (kind_of_accepted hd) h
  · exact scheduleLate_record (takenTag s (wordA a)) (x := hostTxn s (wordA a)) _ _ rfl rfl rfl (htag a) (kind_of_accepted hd) hn h0 h1
  · exact scheduleFull_record (takenTag s (wordA a)) (x := hostTxn s (wordA a)) _ _ rfl rfl rfl (htag a) (kind_of_accepted hd) hn h0 hl
  · obtain ⟨e1, e2⟩ := schedule_place (takenTag s (wordA a)) (hostTxn s (wordA a)) b.toNat (wordA a).tick hn h0 hl
    exact ⟨fun hf => e1.trans (supersedeSame_none _ _ _ _ hf), e2⟩

end

section
/-! Proofs, the first edge after a Snare trip (R155): at 4.0 GHz a trip on an edge stretches the second edge after it. -/

namespace Sys2Proof.Machine

/-- Domain 0 runs on its DCO at code 64 of a table frequency of 4.0 GHz, with its detectors enabled, live and released. -/
def cd0At4GHz : State :=
  { dict := [(Cd.cdState 0, 0), (Cd.ratioOut 0, 64), (Cd.fTable 0, 4000), (Cd.srcNow 0, 0), (Snare.snMask 0, 255), (Snare.snThr 0, 3000),
      (Snare.snTripped 0, 0)] }

/-- A domain cycle at 4.0 GHz is 0.25 ns, half of the 0.5 ns between a stretch check and its edge (R155). -/
theorem cdPeriod_cd0At4GHz : cd0At4GHz.cdPeriod 0 = 200 := by decide +kernel

/-- Of edges 0.25 ns apart, the first at least 0.5 ns after a trip on an edge is the second. -/
theorem firstStretch_on_edge_at_4GHz : firstStretch 0 200 = 2 * 200 := rfl

/-- Detector 0 trips on an edge: the next edge followed is the one that `firstStretch` finds. -/
theorem edge_snareTrip_cd0At4GHz :
    ((cd0At4GHz.snareTrip 0 0 0).snare 0).edge = some (firstStretch 0 (cd0At4GHz.cdPeriod 0)) := by decide +kernel

end Sys2Proof.Machine
end

section
open Sys2Proof Sys2Proof.Machine

/-- Refutes O16: its second clause adds one domain cycle to an edge less than 0.5 ns away, and R155 as many as reach 0.5 ns. At 4.0 GHz a trip
that falls on an edge stretches the second edge after it, 0.5 ns away (R155); the clause has the first, 0.25 ns away. -/
theorem not_snareCompletes : ¬ Obligations.SnareCompletes := by
  intro h
  obtain ⟨-, hedges, -⟩ := h
  obtain ⟨t, ht, -, -, hedge, -⟩ := hedges cd0At4GHz 0 0 0 (by decide +kernel) (by decide +kernel) (by decide +kernel) (by decide +kernel) rfl
  have hrun : exec (.snareTrip 0 ⟨0, 0⟩) cd0At4GHz = .next (cd0At4GHz.snareTrip 0 0 0).settle := rfl
  rw [hrun] at ht
  have htwo : (t.snare 0).edge = some (2 * 200) := by
    rw [← Host.Outcome.next.inj ht, snare_settle, edge_snareTrip_cd0At4GHz, cdPeriod_cd0At4GHz, firstStretch_on_edge_at_4GHz]
  have hone : (t.snare 0).edge = some 200 := hedge.trans (congrArg some cdPeriod_cd0At4GHz)
  exact absurd (htwo.symm.trans hone) (by decide)
end

section
/-! Proofs, rung 4 and the trace (R231, R232, R234): what the other ranges of rung 4 and the resolution of its actuators leave, and what each
trace command does to the rail's loop. -/

namespace Sys2Proof.Machine

/-! ### What the resolution of a rail's rung 4 actuators leaves (R231, R232) -/

/-- A later state has the loops, the count of free values taken, rung 4's contribution to the rail's set-point, and every sub from index 4000 on
of an earlier one. -/
structure Rung4Leaves (n : Nat) (s t : State) : Prop where
  loops : t.loops = s.loops
  free : t.free = s.free
  vset : t.contrib 4 (aVset n) = s.contrib 4 (aVset n)
  sub : ∀ k, 0x4000 * 256 ≤ k → t.rd k = s.rd k

namespace Rung4Leaves

variable {n : Nat} {s t : State}

theorem refl (s : State) : Rung4Leaves n s s := ⟨rfl, rfl, rfl, fun _ _ => rfl⟩

theorem trans {u : State} (h : Rung4Leaves n s t) (g : Rung4Leaves n t u) : Rung4Leaves n s u :=
  ⟨g.loops.trans h.loops, g.free.trans h.free, g.vset.trans h.vset, fun k hk => (g.sub k hk).trans (h.sub k hk)⟩

/-- A change of other parts of the machine. -/
theorem same {u : State} (h : Rung4Leaves n s t) (h1 : u.loops = t.loops := by rfl) (h2 : u.free = t.free := by rfl)
    (h3 : u.hub.lad = t.hub.lad := by rfl) (h4 : u.dict = t.dict := by rfl) : Rung4Leaves n s u :=
  h.trans ⟨h1, h2, by rw [State.contrib, State.contrib, h3], fun k _ => by rw [State.rd, State.rd, h4]⟩

/-- A write below index 4000. -/
theorem wr (h : Rung4Leaves n s t) {k : Nat} {v : Int} (hk : k < 0x4000 * 256) : Rung4Leaves n s (t.wr k v) :=
  h.trans ⟨rfl, rfl, rfl, fun _ hj => rd_wr_ne _ _ _ _ (by omega)⟩

theorem setRail (h : Rung4Leaves n s t) {m : Nat} {r : RailInt} : Rung4Leaves n s (t.setRail m r) := h.same
theorem setDcu (h : Rung4Leaves n s t) {c : Nat} {r : DcuInt} : Rung4Leaves n s (t.setDcu c r) := h.same

theorem ite {q : Prop} [Decidable q] {a b : State} (ha : Rung4Leaves n s a) (hb : Rung4Leaves n s b) :
    Rung4Leaves n s (if q then a else b) := by
  split
  · exact ha
  · exact hb

theorem forEach {α : Type} {l : List α} {f : α → State → State} (h : Rung4Leaves n s t)
    (hf : ∀ a ∈ l, ∀ u, Rung4Leaves n s u → Rung4Leaves n s (f a u)) : Rung4Leaves n s (forEach l f t) :=
  forEach_keeps_mem (Rung4Leaves n s) hf h

/-- A range of rung 4 of another actuator. -/
theorem setRange (h : Rung4Leaves n s t) {a : Nat} {r : Option (Int × Int)} (ha : a ≠ aVset n) : Rung4Leaves n s (t.setRange 4 a r) :=
  h.trans ⟨rfl, rfl, tabGet_tabPut_ne _ _ _ _ _ (by omega), fun _ _ => rfl⟩

/-- Completions touch the rings and, of the subs, IRQ_STATUS (R109, R111). -/
theorem finishWaiting (h : Rung4Leaves n s t) {pick : Waiting → Bool} {o : Waiting → TxnOutcome × Int × Int} :
    Rung4Leaves n s (t.finishWaiting pick o) := by
  have hcompletes : ∀ (u : State) x o src v b k, Rung4Leaves n u (u.completeAt x o src v b k) := fun u x o src v b k =>
    ⟨by rw [completeAt_eq], by rw [completeAt_eq], by rw [completeAt_eq]; rfl,
      fun j hj => rd_completeAt _ _ _ _ _ _ _ (by simp only [Irq.irqStatus]; omega)⟩
  refine forEach (f := fun w u => u.completeWaiting w (o w).1 (o w).2.1 (o w).2.2) (h.same (u := _)) fun w _ u hu => hu.trans ?_
  unfold State.completeWaiting State.complete
  split
  · exact ite (hcompletes _ _ _ _ _ _ _) (hcompletes _ _ _ _ _ _ _)
  · exact hcompletes _ _ _ _ _ _ _

/-- The sources shown (1111 to 1114) are of index 1111 to 1114. -/
theorem showSrc (h : Rung4Leaves n s t) {a : Nat} {v : Int} : Rung4Leaves n s (t.showSrc a v) := by
  have ha : a % 4096 < 4096 := Nat.mod_lt _ (by decide)
  unfold State.showSrc
  dsimp only
  split
  · exact h.wr (by simp only [SrcRail.srcRail]; omega)
  · exact h.wr (by simp only [SrcCd.srcCd]; omega)
  · exact h.wr (by simp only [SrcPd.srcPd]; omega)
  · exact h.wr (by simp only [SrcPt.srcPt]; omega)
  · exact h.wr (by simp only [SrcRail.srcRail]; omega)

theorem sendRing (h : Rung4Leaves n s t) {sat item : Nat} {v : Int} : Rung4Leaves n s (t.sendRing sat item v) := by
  unfold State.sendRing
  exact ite h h.same

variable {c m p : Nat} {v : Int}

theorem requestSwitch (h : Rung4Leaves n s t) (hc : c < 4096) {target : Nat} : Rung4Leaves n s (t.requestSwitch c target) := by
  have h0 : Rung4Leaves n s (t.wr (Cd.srcSel c) target) := h.wr (by simp only [Cd.srcSel]; omega)
  unfold State.requestSwitch
  refine ite h0.setDcu (ite h0 ?_)
  split
  · exact h0.setDcu.wr (by simp only [Cd.cdState]; omega)
  · exact (h0.setDcu.wr (by simp only [Cd.srcNow]; omega)).wr (by simp only [Cd.switches]; omega)
  · exact h0.setDcu

theorem applyRatio (h : Rung4Leaves n s t) (hc : c < 4096) : Rung4Leaves n s (t.applyRatio c v) := by
  have shown : ∀ x, Rung4Leaves n s (((t.wr (Cd.ratioRes c) v).wr (Cd.vfCode c) (t.vfNow c)).showSrc (aRatio c) x) := fun x =>
    ((h.wr (by simp only [Cd.ratioRes]; omega)).wr (by simp only [Cd.vfCode]; omega)).showSrc
  unfold State.applyRatio
  exact ite ((ite (shown _) (shown _).setDcu.sendRing).setDcu.requestSwitch hc) (ite (shown _) (shown _).setDcu.sendRing)

theorem commitVset (h : Rung4Leaves n s t) (hm : m < 4096) : Rung4Leaves n s (t.commitVset m v) := by
  have h1 : ∀ r, Rung4Leaves n s ((t.setRail m r).wr (Rail.vsetRes m) v) := fun r => h.setRail.wr (by simp only [Rail.vsetRes]; omega)
  unfold State.commitVset
  exact ite ((h1 _).same (u := _)).finishWaiting (h1 _)

theorem lowerVil (h : Rung4Leaves n s t) : Rung4Leaves n s (t.lowerVil m v) := by
  unfold State.lowerVil
  exact ite (h.setRail.forEach fun c hc _ hu => hu.applyRatio (cdsOf_lt hc)) h

theorem stepVset (h : Rung4Leaves n s t) (hm : m < 4096) : Rung4Leaves n s (t.stepVset m) := by
  unfold State.stepVset
  exact ite h.lowerVil.setRail (h.lowerVil.commitVset hm)

theorem applyVset (h : Rung4Leaves n s t) (hm : m < 4096) : Rung4Leaves n s (t.applyVset m v) := by
  have h0 : Rung4Leaves n s ((({ t with hub := { t.hub with goal := tabPut t.hub.goal m v } } : State).showSrc (aVset m)
      (t.sourceOf (aVset m))).setRail m { t.rail m with vwait := none }) := (h.same (u := _)).showSrc.setRail
  have h1 := ite (q := v = t.held (aVset m)) h0 (h0.lowerVil (m := m) (v := v))
  unfold State.applyVset
  exact ite (h1.commitVset hm) (ite (h1.commitVset hm).setRail (ite (h1.stepVset hm) h1))

theorem applyBrush (h : Rung4Leaves n s t) : Rung4Leaves n s (t.applyBrush p v) := (h.same (u := _)).showSrc.sendRing

/-- Rung 4 imposes set-points, ratios and Brush ceilings only (R231). -/
theorem reeval (h : Rung4Leaves n s t) {a : Nat} (ha : a / 4096 = 0 ∨ a / 4096 = 1 ∨ a / 4096 = 3) : Rung4Leaves n s (t.reeval a) := by
  have hi : a % 4096 < 4096 := Nat.mod_lt _ (by decide)
  refine finishWaiting ?_
  unfold State.resolve
  rcases ha with ha | ha | ha <;> rw [ha]
  · exact h.applyVset hi
  · exact h.applyRatio hi
  · exact h.applyBrush

end Rung4Leaves

/-- The actuators of rung 4 on a rail (R231): its set-point, the ratios of its domains, the Brush codes of its partitions. -/
def State.rung4Acts (s : State) (n : Nat) : List Nat := [aVset n] ++ (s.cdsOf n).map aRatio ++ (s.ptsOf n).map aBrush

theorem rung4Acts_kind {s : State} {n a : Nat} (hn : n < 4096) (h : a ∈ s.rung4Acts n) :
    a / 4096 = 0 ∨ a / 4096 = 1 ∨ a / 4096 = 3 := by
  simp only [State.rung4Acts, List.mem_append, List.mem_singleton, List.mem_map] at h
  rcases h with (rfl | ⟨c, hc, rfl⟩) | ⟨p, hp, rfl⟩
  · exact .inl (by unfold aVset actOf; omega)
  · exact .inr (.inl (by have := cdsOf_lt hc; unfold aRatio actOf; omega))
  · exact .inr (.inr (aBrush_kind (ptsOf_lt hp)))

/-- From a state t on, the ratios and the Brush codes of a rail get their ranges of rung 4, and its actuators are resolved; the domains and
partitions are those that the rail has in s. -/
def State.resolveRung4 (s t : State) (n : Nat) (ratio brush : Nat → State → Option (Int × Int)) : State :=
  (forEach (s.ptsOf n) (fun p u => u.setRange 4 (aBrush p) (brush p u))
    (forEach (s.cdsOf n) (fun c u => u.setRange 4 (aRatio c) (ratio c u)) t)).reevalAll (s.rung4Acts n)

theorem rung4Leaves_resolveRung4 (s t : State) {n : Nat} (hn : n < 4096) (ratio brush : Nat → State → Option (Int × Int)) :
    Rung4Leaves n t (s.resolveRung4 t n ratio brush) := by
  have hr : ∀ c, aRatio c ≠ aVset n := fun c => by unfold aRatio aVset actOf; omega
  have hb : ∀ p, aBrush p ≠ aVset n := fun p => by unfold aBrush aVset actOf; omega
  refine Rung4Leaves.forEach (((Rung4Leaves.refl t).forEach fun c _ _ hu => hu.setRange (hr c)).forEach fun p _ _ hu => hu.setRange (hb p))
    fun a ha _ hu => hu.reeval (rung4Acts_kind (s := s) hn ?_)
  rcases List.mem_append.mp ha with ha | ha
  · exact (List.mem_filter.mp ha).1
  · exact (List.mem_filter.mp ha).1

/-! ### Rung 4 of a rail (R231, R232) -/

/-- Two subs of one index. -/
theorem key_ne_of_sub_ne (b : Nat) {i j : Nat} (h : i ≠ j) : b * 256 + i ≠ b * 256 + j := by omega

/-- The subs of a rail's loop engine lie between those of index 4000 and of index 5000. -/
theorem loopSub_bounds {n j : Nat} (hn : n < 8) (hj : j < 256) :
    0x4000 * 256 ≤ (0x4000 + n) * 256 + j ∧ (0x4000 + n) * 256 + j < 0x5000 * 256 := by omega

/-- Bringing the levels up leaves the contributions of the rungs. -/
theorem contrib_settle (s : State) (rung a : Nat) : s.settle.contrib rung a = s.contrib rung a := by
  rw [State.contrib, State.contrib, settle_hub]

/-- The range of a rung just set. -/
theorem contrib_setRange_same (s : State) (rung a : Nat) (r : Option (Int × Int)) : ((s.setRange rung a r).contrib rung a).range = r :=
  congrArg Contrib.range (tabGet_tabPut_same _ _ _ _)

/-- An event trigger changes the loops alone (R234). -/
theorem traceEvent_eq (s : State) (n code : Nat) : s.traceEvent n code = { s with loops := (s.traceEvent n code).loops } := by
  unfold State.traceEvent
  split <;> rfl

/-- Of a rail's loop an event trigger changes the trigger that waits. -/
theorem loop_traceEvent (s : State) (n code : Nat) :
    (s.traceEvent n code).loop n = { s.loop n with traceCause := ((s.traceEvent n code).loop n).traceCause } := by
  unfold State.traceEvent
  split
  · rw [loop_setLoop_same]
  · rfl

theorem rd_traceEvent (s : State) (n code k : Nat) : (s.traceEvent n code).rd k = s.rd k := by
  rw [traceEvent_eq]
  rfl

theorem contrib_traceEvent (s : State) (n code rung a : Nat) : (s.traceEvent n code).contrib rung a = s.contrib rung a := by
  rw [traceEvent_eq]
  rfl

/-- A record leaves the contributions of the rungs. -/
theorem contrib_record (s : State) (c e : Nat) (p1 p2 p3 : Int) (rung a : Nat) :
    (s.record c e p1 p2 p3).contrib rung a = s.contrib rung a := by
  rw [State.contrib, State.contrib, record_hub]

/-- A record leaves the subs of the loop engines and the traces. -/
theorem rd_record_of_loops (s : State) (c e : Nat) (p1 p2 p3 : Int) {k : Nat} (hk : 0x4000 * 256 ≤ k ∧ k < 0x5000 * 256) :
    (s.record c e p1 p2 p3).rd k = s.rd k :=
  rd_record_ne _ _ _ _ _ _ _ (by simp only [Ev.recqLost]; omega) (ne_shelfLost (by omega))

/-- Dropped pulses leave the subs from index 4000 on. -/
theorem rd_dropPulses (s : State) {n k : Nat} (hn : n < 8) (hk : 0x4000 * 256 ≤ k) : (s.dropPulses n).rd k = s.rd k := by
  unfold State.dropPulses
  rw [rd_wr_ne _ _ _ _ (by simp only [UbRail.pendingPulses]; omega), rd_bump_ne _ _ _ _ (by simp only [UbRail.pfDropped]; omega)]
  rfl

/-- A rail's loop with rung 4 active, and its set-point forced to VSET_RES (R231). -/
def State.rung4Begun (s : State) (n : Nat) : State :=
  (s.setLoop n { s.loop n with rung4 := true, feDue := false, feRunning := false, relRun := 0, relMax := s.rd (Loop.feNow n) }).setRange
    4 (aVset n) (some (s.rd (Rail.vsetRes n), s.rd (Rail.vsetRes n)))

/-- A rail's loop with rung 4 released, its timer cleared, and no range of rung 4 on its set-point (R232). -/
def State.rung4Ended (s : State) (n : Nat) : State :=
  ((s.setLoop n { s.loop n with rung4 := false, relRun := 0, feRunning := false }).wr (Loop.feTimer n) 0).setRange 4 (aVset n) none

/-- FE_EXPIRY: once the actuators are resolved it counts, dates and records the reaction, and triggers the trace. -/
theorem feExpire_eq (s : State) {n : Nat} (hn : n < 4096) :
    ∃ u : State, Rung4Leaves n (s.rung4Begun n) u ∧ ∃ p1 p2 p3, s.feExpire n
      = ((((u.bump (Loop.feReacts n)).wr (Loop.feSince n) s.beat).dropPulses n).record (srcRail n) 0x020C p1 p2 p3).traceEvent n 1 :=
  ⟨_, rung4Leaves_resolveRung4 s (s.rung4Begun n) hn (fun c u => some (u.rd (Cd.ratioRes c), u.rd (Cd.ratioRes c)))
    (fun _ u => some (1, u.rd (Loop.feBrush n))), _, _, _, rfl⟩

/-- FE_RELEASE: once the actuators are resolved it records the release and triggers the trace; it takes one free value. -/
theorem feRelease_eq (s : State) {n : Nat} (hn : n < 4096) (cause : Int) :
    ∃ u : State, Rung4Leaves n (s.rung4Ended n) u ∧ ∃ p1 p3, s.feRelease n cause
      = ((u.record (srcRail n) 0x020D p1 cause p3).traceEvent n 2).useFree :=
  ⟨_, rung4Leaves_resolveRung4 s (s.rung4Ended n) hn (fun _ _ => none) (fun _ _ => none), _, _, rfl⟩

/-- Rung 4 becomes active: the rail's loop holds it, the expiry is no longer due, FE_REACTS counts it, FE_SINCE holds the beat, and the
set-point is forced to VSET_RES (R231). -/
theorem feExpire_facts (s : State) {n : Nat} (hn : n < 8) :
    ((s.feExpire n).loop n).rung4 = true ∧ ((s.feExpire n).loop n).feDue = false
      ∧ (s.feExpire n).rd (Loop.feReacts n) = fit (Loop.feReacts n) (s.rd (Loop.feReacts n) + 1)
      ∧ (s.feExpire n).rd (Loop.feSince n) = fit (Loop.feSince n) (s.beat : Int)
      ∧ ((s.feExpire n).contrib 4 (aVset n)).range = some (s.rd (Rail.vsetRes n), s.rd (Rail.vsetRes n)) := by
  obtain ⟨u, hu, p1, p2, p3, e⟩ := feExpire_eq s (n := n) (by omega)
  have hloop : u.loop n = (s.rung4Begun n).loop n := by rw [State.loop, State.loop, hu.loops]
  have hend : ∀ v : Int, (((u.bump (Loop.feReacts n)).wr (Loop.feSince n) v).dropPulses n).loop n = u.loop n := fun _ => rfl
  have hbegun : (s.rung4Begun n).loop n
      = { s.loop n with rung4 := true, feDue := false, feRunning := false, relRun := 0, relMax := s.rd (Loop.feNow n) } :=
    loop_setLoop_same _ _ _
  have hk := loopSub_bounds hn (j := 0x1F) (by decide)
  have hk' := loopSub_bounds hn (j := 0x20) (by decide)
  rw [e]
  refine ⟨?_, ?_, ?_, ?_, ?_⟩
  · rw [loop_traceEvent, loop_record, hend, hloop, hbegun]
  · rw [loop_traceEvent, loop_record, hend, hloop, hbegun]
  · rw [rd_traceEvent, rd_record_of_loops _ _ _ _ _ _ hk, rd_dropPulses _ hn hk.1,
      rd_wr_ne _ _ _ _ (key_ne_of_sub_ne _ (by decide)), rd_bump_same, hu.sub _ hk.1]
    rfl
  · rw [rd_traceEvent, rd_record_of_loops _ _ _ _ _ _ hk', rd_dropPulses _ hn hk'.1, rd_wr_same]
  · rw [contrib_traceEvent, contrib_record]
    exact (congrArg Contrib.range hu.vset).trans (contrib_setRange_same _ _ _ _)

/-- FE_TIMER can be cleared. -/
theorem fit_feTimer_zero : ∀ n, n < 8 → fit (Loop.feTimer n) 0 = 0 := by decide +kernel

/-- Rung 4 releases: the rail's loop no longer holds it, FE_TIMER is clear, the set-point is no longer forced, and one free value is taken
(R232). -/
theorem feRelease_facts (s : State) {n : Nat} (hn : n < 8) (cause : Int) :
    ((s.feRelease n cause).loop n).rung4 = false ∧ (s.feRelease n cause).rd (Loop.feTimer n) = 0
      ∧ ((s.feRelease n cause).contrib 4 (aVset n)).range = none ∧ (s.feRelease n cause).free = s.free + 1 := by
  obtain ⟨u, hu, p1, p3, e⟩ := feRelease_eq s (n := n) (by omega) cause
  have hloop : u.loop n = { s.loop n with rung4 := false, relRun := 0, feRunning := false } := by
    rw [State.loop, hu.loops]
    exact loop_setLoop_same _ _ _
  have hk := loopSub_bounds hn (j := 0x1D) (by decide)
  have huse : ∀ v : State, v.useFree.loop n = v.loop n ∧ v.useFree.contrib 4 (aVset n) = v.contrib 4 (aVset n)
      ∧ v.useFree.free = v.free + 1 :=
    fun _ => ⟨rfl, rfl, rfl⟩
  rw [e]
  refine ⟨?_, ?_, ?_, ?_⟩
  · rw [(huse _).1, loop_traceEvent, loop_record, hloop]
  · rw [rd_useFree, rd_traceEvent, rd_record_of_loops _ _ _ _ _ _ hk, hu.sub _ hk.1]
    exact (rd_wr_same _ _ _).trans (fit_feTimer_zero n hn)
  · rw [(huse _).2.1, contrib_traceEvent, contrib_record, hu.vset]
    exact contrib_setRange_same _ _ _ _
  · rw [(huse _).2.2, traceEvent_eq]
    exact congrArg (· + 1) ((record_free _ _ _ _ _ _).trans hu.free)

/-! ### The trace's commands (R234) -/

/-- TR_CTRL holds the number of each state of the trace. -/
theorem fit_trCtrl : ∀ n, n < 8 → ∀ v, v < 4 → fit (Trace.trCtrl n) (v : Nat) = (v : Nat) := by decide +kernel

/-- LENGTH holds 0 and the bytes of a full buffer. -/
theorem fit_traceLength : ∀ n, n < 8 → fit (Trace.length n) 0 = 0 ∧ fit (Trace.length n) 131072 = 131072 := by decide +kernel

/-- The cause of a command and the levels leave the subs of the traces. -/
theorem rd_settle_cause_trace (s : State) {n j : Nat} (b : Nat) (hn : n < 8) (hj : j < 256) :
    (s.cause b).settle.rd ((0x4010 + n) * 256 + j) = s.rd ((0x4010 + n) * 256 + j) := by
  rw [rd_settle _ _ (not_levelKeys_of_index (by omega)), rd_cause_ne _ _ _ (by simp only [Irq.irqStatus]; omega)]

/-- ARM empties the buffer, and the trace is ARMED with no trigger waiting. -/
theorem trArm_facts (s : State) {n : Nat} (hn : n < 8) (h : s.rd (Trace.trCtrl n) = 0 ∨ s.rd (Trace.trCtrl n) = 3) :
    (s.trArm n).rd (Trace.trCtrl n) = 1 ∧ (s.trArm n).rd (Trace.length n) = 0 ∧ ((s.trArm n).loop n).trace = []
      ∧ ((s.trArm n).loop n).traceCause = none := by
  have hne : Trace.length n ≠ Trace.trCtrl n := key_ne_of_sub_ne _ (by decide)
  unfold State.trArm
  rw [if_pos (by simpa using h), rd_wr_same, rd_wr_ne _ _ _ _ hne, rd_wr_same, loop_wr, loop_wr, loop_setLoop_same]
  exact ⟨fit_trCtrl n hn 1 (by decide), (fit_traceLength n hn).1, rfl, rfl⟩

/-- FORCE on an armed trace with no trigger waiting leaves a trigger of cause 3 that waits. -/
theorem trForce_facts (s : State) (n : Nat) (h : s.rd (Trace.trCtrl n) = 1) (hc : (s.loop n).traceCause = none) :
    ((s.trForce n).loop n).traceCause = some 3 ∧ (s.trForce n).rd (Trace.trCtrl n) = 1 := by
  unfold State.trForce
  rw [if_pos h, loop_setLoop_same, hc]
  exact ⟨rfl, h⟩

/-- STOP discards the capture, and the trace is IDLE. -/
theorem trStop_facts (s : State) {n : Nat} (hn : n < 8) (h : s.rd (Trace.trCtrl n) = 1 ∨ s.rd (Trace.trCtrl n) = 2) :
    (s.trStop n).rd (Trace.trCtrl n) = 0 ∧ (s.trStop n).rd (Trace.length n) = 0 ∧ ((s.trStop n).loop n).trace = [] := by
  have hne : Trace.length n ≠ Trace.trCtrl n := key_ne_of_sub_ne _ (by decide)
  unfold State.trStop
  rw [if_pos (by simpa using h), rd_wr_same, rd_wr_ne _ _ _ _ hne, rd_wr_same, loop_wr, loop_wr, loop_setLoop_same]
  exact ⟨fit_trCtrl n hn 0 (by decide), (fit_traceLength n hn).1, rfl⟩

/-- A command of the trace that the host side takes completes with its effect and cause 1 of R111, its access waiting. -/
theorem completesWith_traceCommand {i : Instr} {s : State} {f : State → State} {P : State → Prop} (hup : s.hostUp = true)
    (h : exec i s = done (s.hostRow fun u => (f u).cause 1)) (hp : P ((f (s.fabric 3 0)).cause 1).settle) : CompletesWith i s P :=
  completesWith_of_done (h.trans (congrArg done (hostRow_up _ _ hup))) hp

/-- TRACE_DONE: the buffer is frozen, GEN counts it, and the trace is DONE. -/
def State.traceComplete (s : State) (n : Nat) : State :=
  (((s.setLoop n { s.loop n with traceFrozen := (s.loop n).trace, trace := [] }).wr (Trace.length n) 131072).bump (Trace.gen n)).wr
    (Trace.trCtrl n) 3

theorem traceComplete_facts (s : State) {n : Nat} (hn : n < 8) :
    (s.traceComplete n).rd (Trace.trCtrl n) = 3 ∧ (s.traceComplete n).rd (Trace.length n) = 131072
      ∧ (s.traceComplete n).rd (Trace.gen n) = fit (Trace.gen n) (s.rd (Trace.gen n) + 1)
      ∧ ((s.traceComplete n).loop n).traceFrozen = (s.loop n).trace := by
  have hlc : Trace.length n ≠ Trace.trCtrl n := key_ne_of_sub_ne _ (by decide)
  have hgc : Trace.gen n ≠ Trace.trCtrl n := key_ne_of_sub_ne _ (by decide)
  have hlg : Trace.length n ≠ Trace.gen n := key_ne_of_sub_ne _ (by decide)
  unfold State.traceComplete
  rw [rd_wr_same, rd_wr_ne _ _ _ _ hlc, rd_bump_ne _ _ _ _ hlg, rd_wr_same, rd_wr_ne _ _ _ _ hgc, rd_bump_same,
    rd_wr_ne _ _ _ _ hlg.symm, rd_setLoop, loop_wr, loop_bump, loop_wr, loop_setLoop_same]
  exact ⟨fit_trCtrl n hn 3 (by decide), (fit_traceLength n hn).2, rfl, rfl⟩

end Sys2Proof.Machine
end

section
open Sys2Proof Sys2Proof.Machine

/-- Settles O14: each command by the one branch that its clause's conditions select; what rung 4 writes stands through the resolution of its
actuators. -/
theorem followingErrorAndTraceComplete : Obligations.FollowingErrorAndTraceComplete := by
  have hloop : ∀ (n : Fin 8) j, j < 256 → (0x4000 + n.val) * 256 + j ∉ levelKeys := fun n j hj => not_levelKeys_of_index (by omega)
  have htrace : ∀ (n : Fin 8) j, j < 256 → (0x4010 + n.val) * 256 + j ∉ levelKeys := fun n j hj => not_levelKeys_of_index (by omega)
  refine ⟨?_, ?_, ?_, ?_, ?_, ?_, ?_, ?_⟩
  · intro s n hdue hdec hstay hreg hen hoff
    have hd : exec (.feExpiry n) s = done (s.feExpire n) := congrArg done (if_pos (by simp [hdue, hdec, hstay, hreg, hen, hoff]))
    obtain ⟨h4, hfe, hcount, hsince, hset⟩ := feExpire_facts s n.isLt
    refine completesWith_of_done hd ?_
    rw [loop_settle, rd_settle _ _ (hloop n 0x1F (by decide)), rd_settle _ _ (hloop n 0x20 (by decide)), contrib_settle]
    exact ⟨h4, hfe, hcount, hsince, hset⟩
  · intro s n hon hout hedge
    have hc : s.feReleaseCause n = some 1 := if_pos (by simp [hout])
    show execFeRelease n s = _
    unfold execFeRelease
    rw [hc]
    exact congrArg done (if_pos (by simp [hon, hedge]))
  · intro s n hedge
    exact congrArg done (if_neg (by simp [hedge]))
  · intro s n hon hstay hreg hen hrun hedge
    have hc : s.feReleaseCause n = some 0 := by simp [State.feReleaseCause, hreg, hstay, hrun, hen]
    have hd : exec (.feRelease n) s = done (s.feRelease n 0) := by
      show execFeRelease n s = _
      unfold execFeRelease
      rw [hc]
      exact congrArg done (if_pos (by simp [hon, hedge]))
    refine completesWith_of_done hd ?_
    rw [loop_settle, rd_settle _ _ (hloop n 0x1D (by decide)), contrib_settle, settle_free]
    exact feRelease_facts s n.isLt 0
  · intro s n hctrl hup
    refine completesWith_traceCommand hup rfl ?_
    rw [rd_settle_cause_trace _ 1 n.isLt (j := 0x0A) (by decide), rd_settle_cause_trace _ 1 n.isLt (j := 1) (by decide), loop_settle,
      loop_cause]
    exact trArm_facts (s.fabric 3 0) n.isLt hctrl
  · intro s n hctrl hnone hup
    refine completesWith_traceCommand hup rfl ?_
    rw [rd_settle_cause_trace _ 1 n.isLt (j := 0x0A) (by decide), loop_settle, loop_cause]
    exact trForce_facts (s.fabric 3 0) n hctrl hnone
  · intro s n hctrl hup
    refine completesWith_traceCommand hup rfl ?_
    rw [rd_settle_cause_trace _ 1 n.isLt (j := 0x0A) (by decide), rd_settle_cause_trace _ 1 n.isLt (j := 1) (by decide), loop_settle,
      loop_cause]
    exact trStop_facts (s.fabric 3 0) n.isLt hctrl
  · intro s n hctrl hfull
    have hd : exec (.traceDone n) s = done (s.traceComplete n) := congrArg done (if_pos (by simp [hctrl, hfull]))
    refine completesWith_of_done hd ?_
    rw [rd_settle _ _ (htrace n 0x0A (by decide)), rd_settle _ _ (htrace n 1 (by decide)), rd_settle _ _ (htrace n 3 (by decide)), loop_settle]
    exact traceComplete_facts s n.isLt
end

section
/-! Proofs, the reading of a die diode at Gong's comparator (R274, R285, R286): what a reading without fault leaves, what a hot round marks and
what the trip of a second one writes. -/

namespace Sys2Proof.Machine

/-! ### What the trip does to the actuators (R30, R286) -/

namespace Spares

variable {s t : State}

theorem freezeAct (h : Spares s t) {a : Nat} : Spares s (t.freezeAct a) := by
  unfold State.freezeAct
  split
  · exact h.setRange
  · exact h
  · exact h.setRange

theorem gongPds (h : Spares s t) : Spares s t.gongPds :=
  (h.forEach fun d hd _ hu => by
    have := List.mem_range.mp hd
    exact ite (hu.pdReverse (by omega)) hu).finishWaiting

end Spares

/-! ### The trip (R286, R289) -/

/-- A trip pulls the line and GONG_OUT_N low, and keeps its instant and the ORDERLY time it runs on. -/
def State.tripLine (s : State) : State :=
  { s with gong := { s.gong with line := true, outN := false, tripAt := s.hclk, orderly := s.rdN Gong.orderlyMs } }

/-- The actuators under the line: rung 1 holds them and each is resolved again. -/
def State.tripFrozen (s : State) : State :=
  ((forEach ptList (fun p s => s.setRange 1 (aBrush p) (some (1, 1))) (forEach gongActs (fun a s => s.freezeAct a) s.tripLine)).reevalAll
    (gongActs ++ ptList.map aBrush)).gongPds

/-- The subs that say when, where and how hot it was at a trip. -/
def State.tripSubs (s : State) (ch : Nat) (v : Int) : State :=
  ((((s.tripFrozen.wr Gong.tripTime s.beat).wr Gong.tripCh ch).wr Gong.tripTemp v).wr Gong.railsAtTrip s.onMask).bump Gong.trips

/-- The end of a trip: its state, its cause and, with c, the rails-off action. -/
def State.tripEnd (s : State) (c : Bool) : State :=
  if c then ((s.wr Gong.gongState 1).cause 4).beginRailsOff 2 else (s.wr Gong.gongState 1).cause 4

theorem spares_tripFrozen (s : State) : Spares s.tripLine s.tripFrozen :=
  (((Spares.refl _).forEach fun _ _ _ hu => hu.freezeAct).forEach fun _ _ _ hu => hu.setRange).reevalAll.gongPds

/-- The trip: between its subs and its end the record and the dropped pulses spare Gong. The rails-off action follows at once in IMMEDIATE mode
and in RESTARTING. -/
theorem gongTrip_parts (s : State) (ch : Nat) (v : Int) :
    ∃ w, Spares (s.tripSubs ch v) w ∧ s.gongTrip ch v = w.tripEnd (s.rd Gong.gongState = 4 || s.rd Gong.gongMode = 0) :=
  ⟨forEach railList (fun n s => s.dropPulses n) ((s.tripSubs ch v).record srcGong 0x0401 ch v s.onMask),
    (Spares.refl _).record.forEach fun n hn _ hu => hu.dropPulses (by have := List.mem_range.mp hn; omega), rfl⟩

/-- The end of a trip leaves the line, the output and the instant. -/
theorem tripEnd_gong (s : State) (c : Bool) :
    (s.tripEnd c).gong.line = s.gong.line ∧ (s.tripEnd c).gong.outN = s.gong.outN ∧ (s.tripEnd c).gong.tripAt = s.gong.tripAt := by
  unfold State.tripEnd
  split
  · rw [gong_beginRailsOff]
    exact ⟨rfl, rfl, rfl⟩
  · exact ⟨rfl, rfl, rfl⟩

/-- It leaves the state COOLING where the rails-off action begins, else ORDERLY. -/
theorem rd_tripEnd_gongState (s : State) (c : Bool) : (s.tripEnd c).rd Gong.gongState = if c then 2 else 1 := by
  unfold State.tripEnd
  split
  · exact rd_beginRailsOff_gongState _ _
  · rw [rd_cause_ne _ _ _ (by decide), rd_wr_same]
    rfl

/-- It leaves every other sub of Gong. -/
theorem rd_tripEnd_ne (s : State) (c : Bool) {k : Nat} (hk : k / 256 = 0x5090) (hne : k ≠ Gong.gongState) : (s.tripEnd c).rd k = s.rd k := by
  have hcause : ((s.wr Gong.gongState 1).cause 4).rd k = s.rd k := by
    rw [rd_cause_ne _ _ _ (fun e => absurd (e ▸ hk) (by decide)), rd_wr_ne _ _ _ _ hne]
  unfold State.tripEnd
  split
  · rw [(spares_beginRailsOff _ 2).sub k hk, rd_wr_ne _ _ _ _ hne]
    exact hcause
  · exact hcause

/-- What the trip writes of its subs. -/
theorem rd_tripSubs (s : State) (ch : Nat) (v : Int) :
    (s.tripSubs ch v).rd Gong.tripTime = fit Gong.tripTime s.beat ∧ (s.tripSubs ch v).rd Gong.tripCh = fit Gong.tripCh ch
      ∧ (s.tripSubs ch v).rd Gong.tripTemp = fit Gong.tripTemp v
      ∧ (s.tripSubs ch v).rd Gong.trips = fit Gong.trips (s.rd Gong.trips + 1) := by
  have htrips : s.tripFrozen.rd Gong.trips = s.rd Gong.trips := (spares_tripFrozen s).sub _ rfl
  unfold State.tripSubs
  refine ⟨?_, ?_, ?_, ?_⟩
  · rw [rd_bump_ne _ _ _ _ (by decide), rd_wr_ne _ _ _ _ (by decide), rd_wr_ne _ _ _ _ (by decide), rd_wr_ne _ _ _ _ (by decide), rd_wr_same]
  · rw [rd_bump_ne _ _ _ _ (by decide), rd_wr_ne _ _ _ _ (by decide), rd_wr_ne _ _ _ _ (by decide), rd_wr_same]
  · rw [rd_bump_ne _ _ _ _ (by decide), rd_wr_ne _ _ _ _ (by decide), rd_wr_same]
  · rw [rd_bump_same, rd_wr_ne _ _ _ _ (by decide), rd_wr_ne _ _ _ _ (by decide), rd_wr_ne _ _ _ _ (by decide),
      rd_wr_ne _ _ _ _ (by decide), htrips]

/-- The trip's line, output and instant (R286). -/
theorem gongTrip_gong (s : State) (ch : Nat) (v : Int) :
    (s.gongTrip ch v).gong.line = true ∧ (s.gongTrip ch v).gong.outN = false ∧ (s.gongTrip ch v).gong.tripAt = s.hclk := by
  obtain ⟨w, hw, he⟩ := gongTrip_parts s ch v
  obtain ⟨hline, hout, hat⟩ := tripEnd_gong w (s.rd Gong.gongState = 4 || s.rd Gong.gongMode = 0)
  have hg : w.gong = s.tripLine.gong := by
    rw [hw.gong, State.tripSubs, bump_gong, wr_gong, wr_gong, wr_gong, wr_gong, (spares_tripFrozen s).gong]
  rw [he, hline, hout, hat, hg]
  exact ⟨rfl, rfl, rfl⟩

/-- The trip's state, by GONG_MODE outside RESTARTING (R286, R289). -/
theorem rd_gongTrip_gongState (s : State) (ch : Nat) (v : Int) (h4 : s.rd Gong.gongState ≠ 4) :
    (s.gongTrip ch v).rd Gong.gongState = if s.rd Gong.gongMode = 0 then 2 else 1 := by
  obtain ⟨w, -, he⟩ := gongTrip_parts s ch v
  rw [he, rd_tripEnd_gongState]
  simp [h4]

/-- The other subs of Gong after the trip are those it wrote. -/
theorem rd_gongTrip (s : State) (ch : Nat) (v : Int) {k : Nat} (hk : k / 256 = 0x5090) (hne : k ≠ Gong.gongState) :
    (s.gongTrip ch v).rd k = (s.tripSubs ch v).rd k := by
  obtain ⟨w, hw, he⟩ := gongTrip_parts s ch v
  rw [he, rd_tripEnd_ne _ _ hk hne, hw.sub k hk]

/-! ### The comparator (R285) -/

/-- The round has a hot reading. -/
def State.markHot (s : State) : State := { s with gong := { s.gong with hotNow := true } }

/-- A die diode at or above GONG_LEVEL makes the round hot; it trips Gong in ARMED or RESTARTING after a hot round. -/
theorem gongReading_hot (s : State) {c : Nat} {v : Int} (hk : s.rd (Ch.chKind c) = 1) (hs : s.rd (Ch.chStatus c) = 0)
    (hv : s.rd Gong.gongLevel ≤ v) :
    s.gongReading c v =
      if s.gong.prevHot && (s.rd Gong.gongState = 0 || s.rd Gong.gongState = 4) then s.markHot.gongTrip c v else s.markHot :=
  if_neg (by simp [hk, hs, hv])

/-! ### A reading takes its place (R274, R275) -/

/-- A clean reading of a channel that is not EXCLUDED is counted beside the subs. -/
theorem faultRound_clean (s : State) {c : Nat} (h : s.rd (Ch.chStatus c) ≠ 3) :
    s.faultRound c false
      = s.setCh c { s.ch c with faultRun := 0, cleanRun := (s.ch c).cleanRun + 1, faultNow := false, inRound := true } :=
  if_neg (by simp [h])

/-- RAW, VALUE, LAST_AT and VALUE_MAX of a reading are stored (R274). -/
def State.storeReading (s : State) (c : Nat) (i : HkIn) : State :=
  (((s.wr (Ch.raw c) i.raw.toNat).wr (Ch.value c) (s.hkRead c i)).wr (Ch.lastAt c) s.beat).wr (Ch.valueMax c)
    (max (s.rd (Ch.valueMax c)) (s.hkRead c i))

theorem spares_storeReading (s : State) {c : Nat} (i : HkIn) (hc : c < 128) : Spares s (s.storeReading c i) :=
  ((((Spares.refl s).wr (b := 0x5000 + c)).wr (b := 0x5000 + c)).wr (b := 0x5000 + c)).wr (b := 0x5000 + c)

theorem rd_storeReading_ne (s : State) (c : Nat) (i : HkIn) {k : Nat} (h : k ∉ [Ch.raw c, Ch.value c, Ch.lastAt c, Ch.valueMax c]) :
    (s.storeReading c i).rd k = s.rd k := by
  simp only [List.mem_cons, List.not_mem_nil, or_false, not_or] at h
  simp [State.storeReading, rd_wr_ne, h]

/-- The reading of an OK channel without fault: it is stored, the channel's record follows, then VALUE_USED. -/
theorem takeReading_clean (s : State) {c : Nat} {i : HkIn} (hf : s.hkFault c i = false) (hs : s.rd (Ch.chStatus c) = 0) :
    ∃ r q v, s.takeReading c i = (((s.storeReading c i).setCh c r).setCh c q).wr (Ch.valueUsed c) v := by
  have hst : ∀ r, ((s.storeReading c i).setCh c r).rd (Ch.chStatus c) = 0 := fun _ => (rd_storeReading_ne s c i (by simp)).trans hs
  unfold State.storeReading at hst
  unfold State.takeReading
  simp only [hf, Bool.false_eq_true, if_false]
  rw [faultRound_clean _ (by rw [hst]; decide), if_neg (by simp [hst])]
  exact ⟨_, _, _, rfl⟩

/-- It spares Gong and leaves the kind and the state of the channel. -/
theorem takeReading_clean_spares (s : State) {c : Nat} {i : HkIn} (hc : c < 128) (hf : s.hkFault c i = false)
    (hs : s.rd (Ch.chStatus c) = 0) :
    Spares s (s.takeReading c i) ∧ (s.takeReading c i).rd (Ch.chKind c) = s.rd (Ch.chKind c)
      ∧ (s.takeReading c i).rd (Ch.chStatus c) = s.rd (Ch.chStatus c) := by
  obtain ⟨r, q, v, he⟩ := takeReading_clean s hf hs
  rw [he]
  refine ⟨((spares_storeReading s i hc).same (u := _)).wr (b := 0x5000 + c), ?_, ?_⟩
  · rw [rd_wr_ne _ _ _ _ (by simp), rd_setCh, rd_setCh, rd_storeReading_ne _ _ _ (by simp)]
  · rw [rd_wr_ne _ _ _ _ (by simp), rd_setCh, rd_setCh, rd_storeReading_ne _ _ _ (by simp)]

/-! ### From a die diode's reading to the comparator -/

/-- The converter's references are in the sequencer's record (R276). -/
theorem takeReference_eq (s : State) (c : Nat) (i : HkIn) : s.takeReference c i = { s with hk := (s.takeReference c i).hk } := by
  unfold State.takeReference
  split
  · rfl
  · split <;> rfl

/-- So is what the reading of an anchor diode means to Kettle (R279, R280). -/
theorem anchorReading_eq (s : State) (c : Nat) (fault : Bool) : s.anchorReading c fault = { s with hk := (s.anchorReading c fault).hk } := by
  unfold State.anchorReading
  dsimp only
  split <;> split <;> rfl

/-- A die diode is no stage sensor. -/
theorem stageChannel_of_die (s : State) {c : Nat} (fault : Bool) (hk : s.rd (Ch.chKind c) = 1) : s.stageChannel c fault = s :=
  if_pos (by rw [hk]; decide)

/-- A reading is at the comparator: its channel is an OK die diode, and Gong is as when the conversion began. -/
structure AtComparator (s t : State) (c : Nat) : Prop where
  spares : Spares s t
  kind : t.rd (Ch.chKind c) = 1
  status : t.rd (Ch.chStatus c) = 0

namespace AtComparator

variable {s t : State} {c : Nat}

/-- The sequencer's record is not seen there. -/
theorem setHk (h : AtComparator s t c) (k : HkInt) : AtComparator s { t with hk := k } c := ⟨h.spares.same, h.kind, h.status⟩

theorem takeReference (h : AtComparator s t c) (i : HkIn) : AtComparator s (t.takeReference c i) c := by
  rw [takeReference_eq]
  exact h.setHk _

theorem anchorReading (h : AtComparator s t c) (fault : Bool) : AtComparator s (t.anchorReading c fault) c := by
  rw [anchorReading_eq]
  exact h.setHk _

end AtComparator

/-- The conversion's slot is taken (R272). -/
def State.slotTaken (s : State) : State :=
  { s with hk := { s.hk with nextCh := (s.hkChan + 1) % 128, converted := true, convAt := some s.hclk } }

/-- A conversion of a die diode without fault: the reading is taken, means to Kettle what it does, and goes to the comparator. -/
theorem hkConversion_clean (s : State) {i : HkIn} (hdue : s.hkDue = true) (hk : s.rd (Ch.chKind s.hkChan) = 1)
    (hf : s.hkFault s.hkChan i = false) {u : State} (hu : (s.slotTaken.takeReading s.hkChan i).takeReference s.hkChan i = u)
    (huk : u.rd (Ch.chKind s.hkChan) = 1) :
    s.hkConversion i = (if s.anchored s.hkChan ≠ [] then u.anchorReading s.hkChan false else u).gongReading s.hkChan (s.hkRead s.hkChan i) := by
  have hu' : (State.takeReading { s with
    hk := { s.hk with nextCh := (s.hkChan + 1) % 128, converted := true, convAt := some s.hclk } } s.hkChan i).takeReference s.hkChan i = u := hu
  simp [State.hkConversion, hdue, hk, hf, hu', stageChannel_of_die u false huk]

/-- So a clean conversion of an OK die diode ends at the comparator (R274, R285). -/
theorem hkConversion_of_die (s : State) {i : HkIn} (hdue : s.hkDue = true) (hk : s.rd (Ch.chKind s.hkChan) = 1)
    (hs : s.rd (Ch.chStatus s.hkChan) = 0) (hf : s.hkFault s.hkChan i = false) :
    ∃ u, AtComparator s u s.hkChan ∧ s.hkConversion i = u.gongReading s.hkChan (s.hkRead s.hkChan i) := by
  have hread : AtComparator s (s.slotTaken.takeReading s.hkChan i) s.hkChan := by
    obtain ⟨hsp, hkind, hstatus⟩ := takeReading_clean_spares s.slotTaken (Nat.mod_lt _ (by decide)) hf hs
    exact ⟨(Spares.refl s).same.trans hsp, hkind.trans hk, hstatus.trans hs⟩
  have href := hread.takeReference i
  refine ⟨_, ?_, hkConversion_clean s hdue hk hf rfl href.kind⟩
  split
  · exact href.anchorReading false
  · exact href

/-- A hot reading of the first hot round marks the round (R285). -/
theorem gongReading_first {s t : State} {c : Nat} {v : Int} (h : AtComparator s t c) (hv : s.rd Gong.gongLevel ≤ v)
    (hp : s.gong.prevHot = false) : t.gongReading c v = t.markHot := by
  have hlevel : t.rd Gong.gongLevel = s.rd Gong.gongLevel := h.spares.sub _ rfl
  rw [gongReading_hot t h.kind h.status (hlevel ▸ hv), h.spares.gong]
  exact if_neg (by simp [hp])

/-- In ARMED, a hot reading after a hot round trips Gong (R285, R286). -/
theorem gongReading_second {s t : State} {c : Nat} {v : Int} (h : AtComparator s t c) (hv : s.rd Gong.gongLevel ≤ v)
    (hp : s.gong.prevHot = true) (hst : s.rd Gong.gongState = 0) :
    t.gongReading c v = t.markHot.gongTrip c v := by
  have hlevel : t.rd Gong.gongLevel = s.rd Gong.gongLevel := h.spares.sub _ rfl
  have hstate : t.rd Gong.gongState = s.rd Gong.gongState := h.spares.sub _ rfl
  rw [gongReading_hot t h.kind h.status (hlevel ▸ hv)]
  exact if_pos (by simp [h.spares.gong, hp, hstate, hst])

end Sys2Proof.Machine
end

section
open Sys2Proof Sys2Proof.Machine

/-- Settles O54: a clean reading of an OK die diode reaches the comparator with Gong as it was; there a hot one trips after a hot round, and marks
its own round else. -/
theorem gongTripsOnASecondHotRound : Obligations.GongTripsOnASecondHotRound := by
  have kGong : ∀ k, k / 256 = 0x5090 → k ∉ levelKeys := fun k hk => not_levelKeys_of_index (by omega)
  refine ⟨?_, ?_⟩
  · intro s i hdue hkind hstatus hfault hlevel hhot hprev harmed
    obtain ⟨u, hu, he⟩ := hkConversion_of_die s hdue hkind hstatus hfault
    have hsub : ∀ k, k / 256 = 0x5090 → u.markHot.rd k = s.rd k := hu.spares.sub
    have hclk : u.markHot.hclk = s.hclk := hu.spares.hclk
    have hbeat : u.markHot.beat = s.beat := congrArg (· / 800) hu.spares.beatHclk
    have hd : exec (.hkConversion i) s = done (u.markHot.gongTrip s.hkChan (s.hkRead s.hkChan i)) :=
      congrArg done (he.trans (gongReading_second hu (hlevel ▸ hhot) hprev harmed))
    obtain ⟨hline, hout, hat⟩ := gongTrip_gong u.markHot s.hkChan (s.hkRead s.hkChan i)
    obtain ⟨htime, hch, htemp, htrips⟩ := rd_tripSubs u.markHot s.hkChan (s.hkRead s.hkChan i)
    refine completesWith_of_done hd ?_
    rw [settle_gong]
    refine ⟨hline, hout, hat.trans hclk, ?_, ?_, ?_, ?_, ?_⟩
    · rw [rd_settle _ _ (kGong _ rfl), rd_gongTrip_gongState _ _ _ (by rw [hsub _ rfl, harmed]; decide), hsub _ rfl]
    · rw [rd_settle _ _ (kGong _ rfl), rd_gongTrip _ _ _ rfl (by decide), htime, hbeat]
    · rw [rd_settle _ _ (kGong _ rfl), rd_gongTrip _ _ _ rfl (by decide), hch]
    · rw [rd_settle _ _ (kGong _ rfl), rd_gongTrip _ _ _ rfl (by decide), htemp]
    · rw [rd_settle _ _ (kGong _ rfl), rd_gongTrip _ _ _ rfl (by decide), htrips, hsub _ rfl]
  · intro s i hdue hkind hstatus hfault hlevel hhot hprev
    obtain ⟨u, hu, he⟩ := hkConversion_of_die s hdue hkind hstatus hfault
    have hd : exec (.hkConversion i) s = done u.markHot := congrArg done (he.trans (gongReading_first hu (hlevel ▸ hhot) hprev))
    have hline : u.markHot.gong.line = s.gong.line := (congrArg GongInt.line hu.spares.gong :)
    refine completesWith_of_done hd ?_
    rw [settle_gong, rd_settle _ _ (kGong Gong.gongState rfl)]
    exact ⟨rfl, hline, hu.spares.sub _ rfl⟩
end

section
/-! Proofs, the end of board hot (R284). -/

namespace Sys2Proof.Machine

/-- BOARD_HOT_N rises at the start of beat 2, HCLK 1,600 of a hub that counts both from 0. -/
def hotBoardAtBeat2 : State := { dict := [(Kettle.bhState, 1)], hclk := 1600, beatHclk := 1600 }

/-- The release keeps its HCLK, from which R284's 1,000,000 beats run as 800,000,000 HCLK. -/
theorem exec_boardHotRelease (s : State) (h : s.rd Kettle.bhState ≠ 0) : ∃ u : State, exec .boardHotRelease s = done u
    ∧ u.budget.bhZeroAt = s.hclk := by
  refine ⟨_, congrArg done (if_neg h), ?_⟩
  rw [record_budget]

end Sys2Proof.Machine
end

section
open Sys2Proof Sys2Proof.Machine

/-- Refutes O21: the last clause has the number of the beat at which BH_STATE reads 0, and the model keeps its HCLK. A release on beat 2 keeps
HCLK 1,600. -/
theorem not_sensorsAndKettleComplete : ¬ Obligations.SensorsAndKettleComplete := by
  intro h
  obtain ⟨-, -, -, -, -, -, -, hrelease⟩ := h
  obtain ⟨t, ht, -, hbeat⟩ := hrelease hotBoardAtBeat2 rfl
  obtain ⟨u, hu, hzero⟩ := exec_boardHotRelease hotBoardAtBeat2 (by decide)
  have htu : t = u.settle := Host.Outcome.next.inj (ht.symm.trans hu)
  have hclk : t.budget.bhZeroAt = 1600 := by rw [htu, settle_budget_bhZeroAt, hzero, hotBoardAtBeat2]
  exact absurd (hclk.symm.trans hbeat) (by decide)
end
